-- ==== Sys2Proof/Word.lean ====
section
/-! DEFINITION. The words of the WS240: the values the spec treats as bits. -/

namespace Sys2Proof

/-- A character of the vault line or of the reader line, and a byte of the configuration image. -/
abbrev Byte := BitVec 8

/-- A tag, badge or case identifier: 8 bytes, equal when all eight are equal in order
(00_scope.md, Identifiers and stamps). -/
abbrev Tag := BitVec 64

/-- The two check characters of a frame (R167). -/
abbrev Check := BitVec 16

/-- The code of one conversion, 0 to 4095 (R1). -/
abbrev Code := BitVec 12

/-- The own number strap: five pins, 0 to 31 (R183). -/
abbrev Strap := BitVec 5

/-- The 16 sense lines of one drive line, sense line s in bit s - 1, 1 for a closed contact (R80). -/
abbrev Sense := BitVec 16

/-- One of the supervised inputs S1 to S6: input n stands at index n - 1 (R2). -/
abbrev InputNo := Fin 6

end Sys2Proof
end

