-- ==== Sys2Proof/Syntax.lean ====
section
/-! DEFINITION. The commands of the WS240: one constructor of `Instr` for each row of spec/opcode_table.json,
with the operands that the row's event brings from outside the station. -/

namespace Sys2Proof

/-- The role strap: tied low for BAY, tied high for DOCK (R183). -/
inductive Role where
  | bay
  | dock
  deriving DecidableEq, Repr

/-- The result of one release circuit check (R13). -/
inductive CircuitCheck where
  | good
  | openCircuit
  | shortCircuit
  deriving DecidableEq, Repr

/-- A complete frame as the receiver assembled it (R166). The kind code is the row's own, so it is no field here.
For the nine COMMAND rows the command code is the row's too, and `payload` holds the bytes after it;
for every other row `payload` is the whole payload. `check` is the two check characters as received. -/
structure Frame where
  dst : Byte
  src : Byte
  payload : List Byte
  check : Check
  deriving DecidableEq, Repr

/-- What made the receiver discard a frame: the abandonments of R165 and R166, or a complete frame that fails
a test of R168. -/
inductive DiscardCause where
  /-- a character whose stop bit is at the active level, in a frame in progress (R165) -/
  | framingError
  /-- a marked character while a frame is in progress; it begins a new frame (R165) -/
  | markedCharacter
  /-- a length character above 48 (R166) -/
  | lengthAbove48
  /-- a complete frame of the given kind code, to be judged by R168 -/
  | complete (kind : Byte) (f : Frame)
  deriving DecidableEq, Repr

/-- The commands, one constructor for each row of spec/opcode_table.json, in the table's order. -/
inductive Instr where
  | powerOn (own : Strap) (role : Role)
  | resetPin (own : Strap) (role : Role)
  | configImageRead (image : List Byte) (attention : Bool) (firstCheck : CircuitCheck)
  | uptimeMinute
  | fireReset (f : Frame)
  | silence (f : Frame)
  | testStart (f : Frame)
  | testEnd (f : Frame)
  | isolateOn (f : Frame)
  | isolateOff (f : Frame)
  | clearQuarantine (f : Frame)
  | resolve (f : Frame)
  | restart (f : Frame)
  | commandInvalid (f : Frame)
  | stateFrame (f : Frame)
  | alarmFrame (f : Frame)
  | consign (f : Frame)
  | entry (f : Frame)
  | cancel (f : Frame)
  | offer (f : Frame)
  | taken (f : Frame)
  | cleared (f : Frame)
  | withdraw (f : Frame)
  | late (f : Frame)
  | refuse (f : Frame)
  | query (f : Frame)
  | discardedFrame (cause : DiscardCause)
  | frameGapTimeout
  | lineStuckSet (receiving : Bool)
  | lineStuckClear
  | transmitStart (idle : Nat)
  | frameSent
  | readbackFailure
  | statusTimerExpiry
  | conflictTimerExpiry
  | scanTimerExpiry (check : CircuitCheck)
  | inputConversionEnd (code : Code)
  | probeConversionEnd (code : Code)
  | verifyTimerExpiry (input : InputNo)
  | climateTimerExpiry
  | climateHoldTimerExpiry
  | excursionDelayExpiry
  | stabilizationTimerExpiry
  | countdownExpiry
  | releasePulseExpiry
  | testTimerExpiry
  | testLatchClearExpiry (input : InputNo)
  | testPulseEnd
  | sounderCadenceExpiry
  | minRunTimerExpiry
  | minOffTimerExpiry
  | slotScanStep (sense : Sense)
  | pullWindowExpiry (slot : Nat)
  | returnWindowExpiry (slot : Nat)
  | attentionRise
  | readResponse (chars : List Byte)
  | signalResponse (char : Byte)
  | responseTimeout
  | bounceTimerExpiry
  | recoveryTimerExpiry
  | readerRestartDelayExpiry
  | openingTimerExpiry (number : Nat)
  | courierWindowExpiry (number : Nat)
  | deadlineTimerExpiry (number : Nat)
  | handoverTimerExpiry (tag : Tag)
  | lapseTimerExpiry (tag : Tag)
  | confirmTimerExpiry (tag : Tag)
  | minuteTimerExpiry
  | doorContactSettled (isOpen : Bool)
  | doorForcedTimerExpiry
  | mainsContactSettled (isFail : Bool)
  | mainsClearDelayExpiry
  | validFrameDropped (kind : Byte) (f : Frame)
  deriving DecidableEq, Repr

end Sys2Proof
end

