-- ==== Sys2Proof/Config.lean ====
section
/-! DEFINITION. What is fixed for every WS240 (the times the rules state as plain numbers and the list limits)
and the free values of the model. The values of the configuration image are no constants: they are state
(`Settings` in Machine/State.lean). -/

namespace Sys2Proof.Config

/-- The stabilization period, 30 s (R25). -/
def stabilizationSeconds : Nat := 30
/-- The test timer, 60 minutes (R38). -/
def testSeconds : Nat := 3600
/-- The clear timer of a TEST latch, 5 s (R39). -/
def testLatchSeconds : Nat := 5
/-- A test pulse, 1 s (R39). -/
def testPulseSeconds : Nat := 1
/-- The period of the minute timer, 60 s (R160). -/
def minuteSeconds : Nat := 60
/-- The opening timer of a consignment, 10 s (R113). -/
def openingSeconds : Nat := 10
/-- The confirm timer of a claim, 2 s (R134). -/
def confirmSeconds : Nat := 2
/-- What the lapse timer adds to the handover window, 60 s (R141). -/
def lapseExtraSeconds : Nat := 60
/-- The bounce time of a tag read, 3 s (R103). -/
def bounceSeconds : Nat := 3
/-- The recovery timer of the reader port, 1 s (R102). -/
def recoverySeconds : Nat := 1
/-- The door-forced timer, 60 s (R189). -/
def doorForcedSeconds : Nat := 60
/-- The clearing delay of MAINS_FAIL, 5 s (R189). -/
def mainsClearSeconds : Nat := 5

/-- Custody entries of a station (R111, R131). -/
def custodyMax : Nat := 24
/-- Replies of the reply list (R132). -/
def replyMax : Nat := 24
/-- Consignment records of a station (R111). -/
def consignmentMax : Nat := 4
/-- Entries of a consignment (R111). -/
def entryMax : Nat := 16
/-- Records of the climate history ring (R61). -/
def historyMax : Nat := 64
/-- Reports of the report queue (R179). -/
def reportMax : Nat := 8
/-- Places of the answer queue (R180). -/
def answerMax : Nat := 2
/-- Owed climate samples (R16). -/
def owedMax : Nat := 4
/-- Status intervals after which a peer is stale (R171). -/
def staleAge : Nat := 3
/-- Discarded frames in one window that set LINE_NOISY (R176). -/
def noisyDiscards : Nat := 8
/-- Consecutive read-back mismatches that set LINE_NOISY (R176). -/
def noisyMismatches : Nat := 16
/-- Reader timeouts in a row that set READER_FAULT (R101). -/
def readerTimeoutMax : Nat := 3
/-- The longest hold minutes a custody entry keeps from an OFFER (R156). -/
def offerHoldMax : Nat := 1440
/-- The largest valid-sample count of an episode (R62). -/
def episodeCountMax : Nat := 65535

/-- DESIGN CHOICE (safe, log 3): the byte sent in a field of an ANSWER record whose value is absent and for which the
spec states no byte. Nothing is known of it; it is applied to the model's own counter `State.freeCount`. -/
opaque freeByte : Nat → Byte

end Sys2Proof.Config
end

