-- ==== Sys2Proof/Machine/State.lean ====
section
/-! DEFINITION. The state of the WS240 as plain data: one record for each block of 00_scope.md's block diagram, the
configured values, the queue of waiting commands, and the state right after reset. Timers hold the seconds they
still have to run; an absent timer is `none`. -/

namespace Sys2Proof.Machine

/-! ## Configured values (R184) -/

/-- Types of the supervised inputs (R2). -/
inductive InputType where
  | detector
  | manualRelease
  | pressure
  | abort
  | unused
  deriving DecidableEq, Repr

/-- History store policies (R60). -/
inductive StorePolicy where
  | every
  | change
  | excursion
  deriving DecidableEq, Repr

/-- The fields of the configuration image after judging: each value is named, with its range and default, in the rule
its docstring cites; temperatures are tenths of a degree, humidities tenths of a percent. -/
structure Settings where
  /-- 0 to 30, 0 for none (R184) -/
  console : Nat
  /-- 0 to 30, 0 for none (R184) -/
  dockStation : Nat
  /-- R184 -/
  releaseEnabled : Bool
  /-- 0 to 7 (R184) -/
  spaceGroup : Nat
  /-- R60 -/
  policy : StorePolicy
  /-- the types of S1 to S6 (R2) -/
  inputTypes : List InputType
  /-- 0 to 60 s (R2) -/
  verifyTime : Nat
  /-- 10 to 60 s (R27) -/
  preDischargeDelay : Nat
  /-- 0 to 30 s (R28) -/
  manualDelay : Nat
  /-- 10 to 60 s (R32) -/
  abortRestart : Nat
  /-- 1 to 10 s (R34) -/
  releasePulse : Nat
  /-- 2 to 20 s (R178) -/
  statusInterval : Nat
  /-- 1 to 60 s (R16) -/
  climateInterval : Nat
  /-- 1 to 30 (R66) -/
  cap : Nat
  /-- the averaging exponent n, 0 to 7 (R15) -/
  averaging : Nat
  /-- 10 to 100 (R50) -/
  rhAgree : Nat
  /-- 10 to 100 (R50) -/
  tAgree : Nat
  /-- 1 to 100 (R60) -/
  deadband : Nat
  /-- 10 to 100 (R66) -/
  bandUp : Nat
  /-- 10 to 100 (R66) -/
  bandDown : Nat
  /-- the count of the image after the rounding of R79, before the role is looked at -/
  slotCount : Nat
  /-- base hold, 0 to 240 min (R152) -/
  h0 : Nat
  /-- minutes per whole degree, 0 to 120 (R152) -/
  kt : Nat
  /-- minutes per whole percent, 0 to 60 (R152) -/
  kh : Nat
  /-- R188, R193 -/
  aux1Mask : Byte
  /-- R188, R193 -/
  aux2Mask : Byte
  /-- 60 to 1800 s (R51) -/
  climateHoldLimit : Nat
  /-- 200 to 700 (R53) -/
  rhTarget : Nat
  /-- 300 to 950 (R55) -/
  rhHigh : Nat
  /-- 50 to 600 (R55) -/
  rhLow : Nat
  /-- 0 to 500 (R55) -/
  tHigh : Int
  /-- -300 to 300 (R55) -/
  tLow : Int
  /-- 0 to 3600 s (R56) -/
  excursionDelay : Nat
  /-- 0 to 3600 s (R66) -/
  minRunTime : Nat
  /-- 0 to 1800 s (R66) -/
  minOffTime : Nat
  /-- 30 to 600 s (R84) -/
  pullWindow : Nat
  /-- 60 to 3600 s (R92) -/
  returnWindow : Nat
  /-- 120 to 3600 s (R122) -/
  courierWindow : Nat
  /-- 60 to 1800 s (R135) -/
  handoverWindow : Nat
  /-- 60 to 1440 min, a multiple of 10 (R152) -/
  hMax : Nat
  /-- 100 to 300 (R152) -/
  tReference : Int
  /-- 0 to 700 (R152) -/
  damageTHigh : Int
  /-- -400 to 0 (R152) -/
  damageTLow : Int
  /-- 0 to 1000 (R152) -/
  damageRh : Nat
  deriving DecidableEq, Repr

/-- Every field at its default, as for an image that is unanswered or fails (R184). -/
def Settings.defaults : Settings where
  console := 0
  dockStation := 0
  releaseEnabled := false
  spaceGroup := 0
  policy := .change
  inputTypes := [.detector, .detector, .detector, .detector, .detector, .detector]
  verifyTime := 10
  preDischargeDelay := 30
  manualDelay := 10
  abortRestart := 30
  releasePulse := 3
  statusInterval := 5
  climateInterval := 10
  cap := 2
  averaging := 4
  rhAgree := 30
  tAgree := 15
  deadband := 10
  bandUp := 30
  bandDown := 30
  slotCount := 0
  h0 := 60
  kt := 30
  kh := 10
  aux1Mask := 0
  aux2Mask := 0
  climateHoldLimit := 600
  rhTarget := 400
  rhHigh := 550
  rhLow := 250
  tHigh := 250
  tLow := 100
  excursionDelay := 300
  minRunTime := 300
  minOffTime := 180
  pullWindow := 120
  returnWindow := 600
  courierWindow := 900
  handoverWindow := 600
  hMax := 1440
  tReference := 180
  damageTHigh := 500
  damageTLow := -200
  damageRh := 850

/-! ## Troubles and reports -/

/-- The 25 troubles of R187; the input troubles name S1 to S6 by index 0 to 5. -/
inductive Trouble where
  | inputOpen (i : InputNo)
  | inputShort (i : InputNo)
  | releaseCircuit
  | releaseIsolated
  | probeFault
  | probeDisagree
  | climateLost
  | climateStarved
  | lineStuck
  | lineNoisy
  | stationConflict
  | readerFault
  | configDefault
  | strapInvalid
  | mainsFail
  deriving DecidableEq, Repr

/-- One bit for each trouble, at its trouble code (13_frame_and_record_formats.md, trouble summary). -/
abbrev TroubleBits := BitVec 25

/-- Report kinds, codes 1 to 29 (13_frame_and_record_formats.md, REPORT). -/
inductive ReportKind where
  | pullDone
  | pullUnverified
  | unexpectedRemoval
  | unexpectedPresence
  | evacuated
  | seated
  | returnOverdue
  | inventoryRestart
  | holdDone
  | quarantined
  | entryRejected
  | consignmentRefused
  | consignmentAbandoned
  | consignmentClosed
  | courierTimeout
  | leftBehind
  | handoverRefused
  | adrift
  | disputed
  | expectedLapsed
  | unknownTag
  | unverifiedAlarm
  | testAlarm
  | excursionStart
  | excursionEnd
  | commandRefused
  | doorForced
  | troubleSet
  | troubleClear
  deriving DecidableEq, Repr

/-- A report with the fields of the one REPORT layout; a field that a kind does not use is 0. -/
structure Report where
  kind : ReportKind
  number : Nat := 0
  consignment : Nat := 0
  tag : Tag := 0
  code : Nat := 0
  value1 : Int := 0
  value2 : Int := 0
  deriving DecidableEq, Repr

/-! ## Input supervisor (R2 to R18) -/

/-- Settled and scan bands (R2, R4). -/
inductive Band where
  | unsettled
  | openBand
  | normal
  | alarm
  | short
  deriving DecidableEq, Repr

/-- What an input in stage VERIFYING keeps: a verify timer or a verification scan count (R2). -/
inductive Verification where
  | timer (remaining : Nat)
  | count (n : Nat)
  deriving DecidableEq, Repr

/-- Stages of an input (R2). -/
inductive Stage where
  | ready
  | verifying (v : Verification)
  | latched
  | withheld
  deriving DecidableEq, Repr

/-- The input record of R2; its type is `Settings.inputTypes`. -/
structure InputRecord where
  settled : Band
  candidate : Option Band
  stage : Stage
  deriving DecidableEq, Repr

/-- What the converter converts (R1, R14). A conversion of a supervised input is a scan in progress. -/
inductive Converting where
  | idle
  | input (i : InputNo)
  | probe
  deriving DecidableEq, Repr

/-- One channel of a climate sample sequence (R15). -/
structure Channel where
  sum : Nat
  low : Nat
  high : Nat
  deriving DecidableEq, Repr

/-- A climate sample sequence in progress: the conversions done, of 4 times 2^n, and the four channels
RH-A, T-A, RH-B, T-B (R15). -/
structure Sequence where
  done : Nat
  rhA : Channel
  tA : Channel
  rhB : Channel
  tB : Channel
  deriving DecidableEq, Repr

/-- The input supervisor (01_supervised_inputs_and_the_converter.md). -/
structure Supervisor where
  inputs : List InputRecord
  conv : Converting
  scanPending : Bool
  seq : Option Sequence
  owed : Nat
  climateTimer : Option Nat
  badChecks : Nat
  goodChecks : Nat
  deriving DecidableEq, Repr

/-! ## Fire controller (R19) -/

/-- Fire states (R19). -/
inductive FireState where
  | stabilizing
  | normal
  | alert
  | confirmed
  | preDischarge
  | held
  | discharged
  | test
  deriving DecidableEq, Repr

/-- The latch of an input (R19). -/
inductive Latch where
  | none
  | fire
  | test (clearTimer : Nat)
  deriving DecidableEq, Repr

/-- The sounder cadence: its phase, and the milliseconds its reload timer was set to (R19, R41). -/
structure Cadence where
  phaseOn : Bool
  reloadMs : Nat
  deriving DecidableEq, Repr

/-- The fire record of R19. The own alarm count is the view `ownAlarmCount`. -/
structure FireRecord where
  state : FireState
  latches : List Latch
  ownAbort : List InputNo
  countdown : Option Nat
  manual : Bool
  isolated : Bool
  silence : Option FireState
  stabTimer : Option Nat
  releasePulse : Option Nat
  testTimer : Option Nat
  testPulse : Option Nat
  cadence : Option Cadence
  deriving DecidableEq, Repr

/-! ## Climate unit (R46) -/

/-- Climate states (R46). -/
inductive ClimateState where
  | starting
  | active
  | degraded
  | holding
  | lost
  deriving DecidableEq, Repr

/-- The bay values RH_bay and T_bay (R46). -/
structure Bay where
  rh : Nat
  t : Int
  deriving DecidableEq, Repr

/-- Excursion states (R46). -/
inductive ExcursionState where
  | inBand
  | pending
  | excursion
  deriving DecidableEq, Repr

/-- A history record (R59). -/
structure HistoryRecord where
  stamp : BitVec 24
  bay : Option Bay
  climate : ClimateState
  running : Bool
  fireRaised : Bool
  excursion : ExcursionState
  deriving DecidableEq, Repr

/-- Status of the fire episode record (R62). -/
inductive EpisodeStatus where
  | none
  | opened
  | closed
  deriving DecidableEq, Repr

/-- The extremes of an episode, absent until the first sample counted (R62). -/
structure Extremes where
  tMin : Int
  tMax : Int
  rhMax : Nat
  deriving DecidableEq, Repr

/-- The fire episode record (R62); its three extremes become present together. -/
structure Episode where
  status : EpisodeStatus
  extremes : Option Extremes
  count : Nat
  discharged : Bool
  deriving DecidableEq, Repr

/-- The climate record of R46. Excess is the view `excess`. -/
structure ClimateRecord where
  state : ClimateState
  bay : Option Bay
  holdTimer : Option Nat
  excursion : ExcursionState
  excursionTimer : Option Nat
  history : List HistoryRecord
  storedSinceStart : Bool
  episode : Episode
  deriving DecidableEq, Repr

/-! ## Dehumidifier allotter (R66) -/

/-- The allotter record of R66; `running` is the dehumidifier state RUNNING. -/
structure Allotter where
  running : Bool
  request : Bool
  minRun : Option Nat
  minOff : Option Nat
  forced : Bool
  deriving DecidableEq, Repr

/-! ## Slot scanner (R82) -/

/-- The prior states an UNEXPECTED slot of kind PRESENCE can keep (R86). -/
inductive PriorState where
  | empty
  | out
  | awaited
  deriving DecidableEq, Repr

/-- The eleven slot states; UNEXPECTED carries its kind, and kind PRESENCE the kept prior state (R82). -/
inductive SlotState where
  | empty
  | occupied
  | pullPending
  | pulled
  | out
  | awaited
  | returnPending
  | hold
  | quarantine
  | evacuated
  | unexpectedRemoval
  | unexpectedPresence (prior : PriorState)
  deriving DecidableEq, Repr

/-- A slot record (R82). `present` is the settled presence; `candidate` says whether the candidate is set,
which then is the opposite of the settled presence (R81). -/
structure Slot where
  number : Nat
  state : SlotState
  present : Bool
  candidate : Bool
  tag : Option Tag
  expected : Option Tag
  consignment : Option Nat
  hold : Option Nat
  window : Option Nat
  deriving DecidableEq, Repr

/-- An inventory in progress: the full scan being made, 1 or 2, and the latest sample of each slot (R97). -/
structure Inventory where
  pass : Nat
  samples : List Bool
  deriving DecidableEq, Repr

/-- The slot scanner (05_slot_matrix_and_slot_table.md). While an inventory is in progress there are no records. -/
structure Scanner where
  slots : List Slot
  drive : Nat
  inventory : Option Inventory
  deriving DecidableEq, Repr

/-! ## Reader port (R100) -/

/-- The transaction on the reader line (R99, R100); a READ started by the recovery timer is marked (R102). -/
inductive Transaction where
  | read (recovery : Bool)
  | signalAccept
  | signalReject
  deriving DecidableEq, Repr

/-- The outcome a read's signal shows (R190). -/
inductive Signal where
  | accept
  | reject
  deriving DecidableEq, Repr

/-- The port record of R100; READER_FAULT is a trouble, and the response timer runs while a transaction does. -/
structure ReaderPort where
  transaction : Option Transaction
  readPending : Bool
  signalPending : Option Signal
  timeouts : Nat
  lastId : Option Tag
  bounce : Option Nat
  recovery : Option Nat
  /-- the wait of 50 ms after a RESTART, before the first transaction (R110) -/
  waiting : Bool
  deriving DecidableEq, Repr

/-! ## Consignments (R111, R112) -/

/-- Directions of a consignment (R111). -/
inductive Direction where
  | outbound
  | inbound
  deriving DecidableEq, Repr

/-- States of a consignment record (R111). -/
inductive ConsignmentState where
  | opening
  | active
  | staging
  | courierPresent
  | waitingCourier
  | receiving
  | distributing
  deriving DecidableEq, Repr

/-- Failure reasons of an entry, and OVERFLOW of a dropped one (R112, R114). -/
inductive FailReason where
  | station
  | slotRange
  | duplicate
  | slotState
  | pullUnverified
  | refused
  | adrift
  | disputed
  | missing
  | leftBehind
  | expired
  | cancelled
  | overflow
  deriving DecidableEq, Repr

/-- Entry states; FAILED carries its reason (R112). -/
inductive EntryState where
  | waiting
  | active
  | done
  | failed (reason : FailReason)
  deriving DecidableEq, Repr

/-- An entry of a consignment (R112); its tag is absent where the frame carried eight zero bytes (R191). -/
structure Entry where
  tag : Option Tag
  station : Nat
  slot : Nat
  last : Bool
  state : EntryState
  deriving DecidableEq, Repr

/-- A case climate record as read from a case (R99). -/
structure CaseClimate where
  tMin : Int
  tMax : Int
  rhMax : Nat
  valid : Bool
  deriving DecidableEq, Repr

/-- A consignment record (R111). -/
structure Consignment where
  number : Nat
  direction : Direction
  state : ConsignmentState
  badge : Option Tag
  peer : Option Nat
  deadline : Nat
  openingTimer : Option Nat
  deadlineTimer : Option Nat
  courierTimer : Option Nat
  caseId : Option Tag
  caseClimate : Option CaseClimate
  entries : List Entry
  deriving DecidableEq, Repr

/-! ## Custody and handover (R131, R132) -/

/-- Custody states (R131). -/
inductive CustodyState where
  | held
  | offered
  | suspended
  | expected
  | taking
  | released
  | loaded
  | adrift
  | disputed
  deriving DecidableEq, Repr

/-- Wait reasons of a HELD entry (R131). -/
inductive WaitReason where
  | none
  | fire
  | full
  deriving DecidableEq, Repr

/-- The frames an entry can owe (R131, R133). -/
inductive OwedFrame where
  | offer
  | taken
  | cleared
  | withdraw
  | late
  deriving DecidableEq, Repr

/-- A custody entry (R131). Its timer is the handover timer in OFFERED (paused in SUSPENDED), the lapse timer in
EXPECTED and the confirm timer in TAKING. -/
structure CustodyEntry where
  tag : Tag
  state : CustodyState
  consignment : Option Nat
  peer : Option Nat
  slot : Option Nat
  hold : Nat
  quarantine : Bool
  wait : WaitReason
  timer : Option Nat
  attempts : Nat
  owed : Option OwedFrame
  deriving DecidableEq, Repr

/-- Reasons of a REFUSE (13_frame_and_record_formats.md). -/
inductive RefuseReason where
  | fire
  | full
  | noConsignment
  | duplicate
  | slotNotReady
  deriving DecidableEq, Repr

/-- The two frame kinds of the reply list (R132). -/
inductive ReplyKind where
  | refuse (reason : RefuseReason)
  | late
  deriving DecidableEq, Repr

/-- A reply: a handover frame that belongs to no custody entry (R132). -/
structure Reply where
  kind : ReplyKind
  dst : Nat
  consignment : Nat
  tag : Tag
  deriving DecidableEq, Repr

/-- What the handover engine keeps (R131, R132). -/
structure CustodyRecord where
  entries : List CustodyEntry
  replies : List Reply
  suspended : Bool
  deriving DecidableEq, Repr

/-! ## Hold unit (R152) -/

/-- The hold unit's own record: the minute timer's remaining seconds, and the pause (R152). A remaining of 0 is an
expiry that fell at the moment the pause began, to be taken when the pause ends (R160). -/
structure HoldUnit where
  seconds : Nat
  paused : Bool
  deriving DecidableEq, Repr

/-! ## Line controller (R165 to R182) -/

/-- The fire fields of a peer table entry, as the last STATE or ALARM carried them (R170). -/
structure PeerFire where
  group : Nat
  fire : Nat
  alarms : Nat
  countdown : Nat
  abort : Bool
  manual : Bool
  deriving DecidableEq, Repr

/-- The fields of a peer table entry that only a STATE carries (R170). -/
structure PeerState where
  role : Nat
  running : Bool
  requesting : Bool
  excess : Nat
  custody : Nat
  deriving DecidableEq, Repr

/-- A peer table entry (R170). -/
structure Peer where
  heard : Bool
  fresh : Bool
  age : Nat
  awaiting : Bool
  fire : Option PeerFire
  state : Option PeerState
  deriving DecidableEq, Repr

/-- The kind of frame that made a peer update (R170). -/
inductive UpdateKind where
  | state
  | alarm
  deriving DecidableEq, Repr

/-- Query subjects (R180). -/
inductive Subject where
  | slots
  | custody
  | consignment
  | history
  | peers
  | episode
  deriving DecidableEq, Repr

/-- A place of the answer queue (R180). -/
structure Query where
  subject : Subject
  start : Nat
  consignment : Nat
  source : Nat
  deriving DecidableEq, Repr

/-- Classes of frames to send, in the arbiter's order (R172, R173). -/
inductive TxClass where
  | alarm
  | handover
  | answer
  | report
  | state
  deriving DecidableEq, Repr

/-- A frame built for sending: its kind code and the frame with its check appended (R166, R167). -/
structure SentFrame where
  kind : Byte
  frame : Frame
  deriving DecidableEq, Repr

/-- The frame on the line: its class, its characters, and whether it is a STATE that carries the reports-lost flag. -/
structure Transmission where
  cls : TxClass
  sent : SentFrame
  carriesLost : Bool
  deriving DecidableEq, Repr

/-- The line controller (10_the_vault_line.md). LINE_STUCK, LINE_NOISY and STATION_CONFLICT are troubles. The peer of
station number n stands at index n - 1. -/
structure LineController where
  receiving : Bool
  peers : List Peer
  alarmQueued : Bool
  stateQueued : Bool
  answers : List Query
  reports : List Report
  handoverRetry : Option SentFrame
  answerRetry : Option SentFrame
  reportRetry : Option SentFrame
  tx : Option Transmission
  reportsLost : Bool
  droppedSinceTake : Bool
  discards : Nat
  mismatches : Nat
  windowMismatch : Bool
  conflictTimer : Option Nat
  statusTimer : Option Nat
  deriving DecidableEq, Repr

/-! ## Output drivers (R187 to R190) -/

/-- What the output drivers keep (R187, R189): the two values of each trouble, the settled contacts (absent before
their first settled value), the clearing delay of MAINS_FAIL and the door-forced timer. -/
structure OutputDrivers where
  active : TroubleBits
  reported : TroubleBits
  doorOpen : Option Bool
  mainsFail : Option Bool
  mainsClear : Option Nat
  doorForced : Option Nat
  deriving DecidableEq, Repr

/-! ## The whole station -/

/-- Where the start stands (R185, R186). -/
inductive Phase where
  /-- under the reset pin, or power just applied: the straps are not read yet -/
  | unstarted
  /-- the straps are read and the image is being read (R185) -/
  | readingImage
  /-- a RESTART was taken and the image is being read again (R186) -/
  | restarting
  /-- every block runs (R185 step 4) -/
  | running
  deriving DecidableEq, Repr

/-- The state of one WS240. `pending` is the queue of waiting commands, `minuteLeft` the seconds to the next whole
minute of uptime and `freeCount` the counter of the free values used so far. -/
structure State where
  phase : Phase
  own : Strap
  role : Role
  uptime : BitVec 24
  minuteLeft : Nat
  cfg : Settings
  sup : Supervisor
  fire : FireRecord
  climate : ClimateRecord
  allot : Allotter
  scanner : Scanner
  reader : ReaderPort
  consignments : List Consignment
  custody : CustodyRecord
  hold : HoldUnit
  line : LineController
  out : OutputDrivers
  freeCount : Nat
  pending : List Instr
  deriving DecidableEq, Repr

/-- Reasons a step can stop the machine. There are none: the spec lets no event stop a WS240, since every fault of
the room, the line or the reader is a trouble that the state holds (R187). -/
inductive Fault where
  deriving DecidableEq, Repr

/-- Reasons a command can be refused. -/
inductive Refusal where
  /-- A command that has no meaning yet, by its mnemonic. Raised by no arm of `exec`; safe, since it stops. -/
  | notModelled (mnemonic : String)
  deriving DecidableEq, Repr

/-! ## Reset -/

/-- The record of an input that has not been converted yet, of the default type DETECTOR (R17). -/
def InputRecord.atReset : InputRecord := { settled := .unsettled, candidate := none, stage := .withheld }

/-- A peer table entry of which nothing has been heard (R182). -/
def Peer.unheard : Peer :=
  { heard := false, fresh := false, age := 3, awaiting := false, fire := none, state := none }

/-- The state right after reset: the reset pin is held, every block has its power-on values (R17, R44, R64, R77, R97,
R110, R130, R150, R163, R182, R187, R189), and neither the straps nor the image have been read. The straps and the
configured values before their reading are DESIGN CHOICES (unsafe, log 1). -/
def State.reset : State where
  phase := .unstarted
  own := 0
  role := .bay
  uptime := 0
  minuteLeft := 60
  cfg := Settings.defaults
  sup :=
    { inputs := List.replicate 6 InputRecord.atReset, conv := .idle, scanPending := false, seq := none, owed := 0,
      climateTimer := none, badChecks := 0, goodChecks := 0 }
  fire :=
    { state := .stabilizing, latches := List.replicate 6 Latch.none, ownAbort := [], countdown := none,
      manual := false, isolated := false, silence := none, stabTimer := none, releasePulse := none,
      testTimer := none, testPulse := none, cadence := none }
  climate :=
    { state := .starting, bay := none, holdTimer := none, excursion := .inBand, excursionTimer := none,
      history := [], storedSinceStart := false,
      episode := { status := .none, extremes := none, count := 0, discharged := false } }
  allot := { running := false, request := false, minRun := none, minOff := none, forced := true }
  scanner := { slots := [], drive := 1, inventory := none }
  reader :=
    { transaction := none, readPending := false, signalPending := none, timeouts := 0, lastId := none,
      bounce := none, recovery := none, waiting := false }
  consignments := []
  custody := { entries := [], replies := [], suspended := false }
  hold := { seconds := 60, paused := true }
  line :=
    { receiving := false, peers := List.replicate 30 Peer.unheard, alarmQueued := false, stateQueued := false,
      answers := [], reports := [], handoverRetry := none, answerRetry := none, reportRetry := none, tx := none,
      reportsLost := false, droppedSinceTake := false, discards := 0, mismatches := 0, windowMismatch := false,
      conflictTimer := none, statusTimer := none }
  out :=
    { active := 0, reported := 0, doorOpen := none, mainsFail := none, mainsClear := none, doorForced := none }
  freeCount := 0
  pending := []

end Sys2Proof.Machine
end

