-- ==== Sys2Proof/Machine/Operands.lean ====
section
/-! DEFINITION. The operand forms of the commands: bytes and numbers, the CRC, the lengths of the frame kinds, the
configuration image and the reader's response, as 13_frame_and_record_formats.md lays them out. -/

namespace Sys2Proof.Machine

/-! ## Bytes and numbers -/

/-- A number of two bytes, high byte first (00_scope.md, Numbers). -/
def be16 (hi lo : Byte) : Nat := hi.toNat * 256 + lo.toNat

/-- A signed 16-bit number in two's complement (13_frame_and_record_formats.md). -/
def signed16 (n : Nat) : Int := if n < 32768 then (n : Int) else (n : Int) - 65536

/-- The byte at an index of a list of bytes; 0 beyond its end, which the length test of R168 keeps from mattering. -/
def byteAt (l : List Byte) (k : Nat) : Byte := l.getD k 0

/-- The two-byte number at an index. -/
def wordAt (l : List Byte) (k : Nat) : Nat := be16 (byteAt l k) (byteAt l (k + 1))

/-- The 8-byte identifier that starts at an index. -/
def tagAt (l : List Byte) (k : Nat) : Tag :=
  BitVec.ofNat 64 (((List.range 8).map fun i => (byteAt l (k + i)).toNat).foldl (fun n b => n * 256 + b) 0)

/-- An identifier of eight zero bytes is read as absent (R191). -/
def optTag (t : Tag) : Option Tag := if t = 0 then none else some t

/-- A consignment number of 0 is read as no consignment (R191). -/
def optNumber (n : Nat) : Option Nat := if n = 0 then none else some n

/-- The low byte of a number. -/
def toByte (n : Nat) : Byte := BitVec.ofNat 8 n

/-- A number as two bytes, high byte first. -/
def bytes16 (n : Nat) : List Byte := [toByte (n / 256), toByte n]

/-- A signed number as two bytes in two's complement, high byte first. -/
def signedBytes16 (z : Int) : List Byte := bytes16 (BitVec.ofInt 16 z).toNat

/-- An identifier as its eight bytes in order. -/
def tagBytes (t : Tag) : List Byte :=
  [t.extractLsb' 56 8, t.extractLsb' 48 8, t.extractLsb' 40 8, t.extractLsb' 32 8,
   t.extractLsb' 24 8, t.extractLsb' 16 8, t.extractLsb' 8 8, t.extractLsb' 0 8]

/-- A flag as one bit of a flag byte. -/
def flagBit (b : Bool) (i : Nat) : Nat := if b then 2 ^ i else 0

/-- A number clamped to a range: replaced by the nearer limit when it lies outside (00_scope.md, Numbers). -/
def clampNat (lo hi n : Nat) : Nat := max lo (min hi n)

/-- A signed number clamped to a range. -/
def clampInt (lo hi z : Int) : Int := max lo (min hi z)

/-! ## The check (R167) -/

/-- One bit of the CRC with generator x^16 + x^12 + x^5 + 1. -/
def crcBit (reg : Check) : Check := if reg.msb then (reg <<< 1) ^^^ 0x1021#16 else reg <<< 1

/-- One byte fed in, most significant bit first. -/
def crcByte (reg : Check) (b : Byte) : Check :=
  crcBit (crcBit (crcBit (crcBit (crcBit (crcBit (crcBit (crcBit (reg ^^^ (b.zeroExtend 16 <<< 8)))))))))

/-- The check over a list of bytes: preset to all ones, no final inversion (R167). -/
def crc (l : List Byte) : Check := l.foldl crcByte 0xFFFF#16

/-- The bytes of a frame from the destination to the last payload byte (R166). -/
def frameBytes (kind : Byte) (dst src : Byte) (payload : List Byte) : List Byte :=
  dst :: src :: kind :: toByte payload.length :: payload

/-- A frame with its check appended, as the sender builds it (R167). -/
def buildFrame (kind : Byte) (dst src : Nat) (payload : List Byte) : SentFrame :=
  { kind := kind,
    frame :=
      { dst := toByte dst, src := toByte src, payload := payload,
        check := crc (frameBytes kind (toByte dst) (toByte src) payload) } }

/-- Whether the check of a received frame is good (R167). -/
def checkGood (kind : Byte) (f : Frame) : Bool := crc (frameBytes kind f.dst f.src f.payload) == f.check

/-! ## Frame kinds (13_frame_and_record_formats.md) -/

def kindState : Byte := 1
def kindAlarm : Byte := 2
def kindConsign : Byte := 3
def kindEntry : Byte := 4
def kindCancel : Byte := 5
def kindOffer : Byte := 6
def kindTaken : Byte := 7
def kindCleared : Byte := 8
def kindWithdraw : Byte := 9
def kindLate : Byte := 10
def kindRefuse : Byte := 11
def kindQuery : Byte := 12
def kindAnswer : Byte := 13
def kindReport : Byte := 14
def kindCommand : Byte := 15

/-- The payload lengths allowed for a kind; a kind that is none of the fifteen is not tested (R168). -/
def lengthAllowed (kind : Byte) (n : Nat) : Bool :=
  match kind.toNat with
  | 1 => n == 19
  | 2 => n == 5
  | 3 => n == 14
  | 4 => n == 13 || n == 24 || n == 35
  | 5 => n == 2
  | 6 => n == 14
  | 7 => n == 10
  | 8 => n == 10
  | 9 => n == 10
  | 10 => n == 10
  | 11 => n == 11
  | 12 => n == 4
  | 13 => 3 ≤ n && n ≤ 48
  | 14 => n == 17
  | 15 => n == 1 || n == 2 || n == 10
  | _ => true

/-- Kinds that are acted on only from the console (R169). -/
def consoleKind (kind : Byte) : Bool :=
  kind == kindConsign || kind == kindEntry || kind == kindCancel || kind == kindQuery || kind == kindCommand

/-- The command codes (13_frame_and_record_formats.md). -/
def codeFireReset : Byte := 1
def codeSilence : Byte := 2
def codeTestStart : Byte := 3
def codeTestEnd : Byte := 4
def codeIsolateOn : Byte := 5
def codeIsolateOff : Byte := 6
def codeClearQuarantine : Byte := 7
def codeResolve : Byte := 8
def codeRestart : Byte := 9

/-- The payload length a command code takes (13_frame_and_record_formats.md). -/
def commandLength (code : Byte) : Nat :=
  if code = codeClearQuarantine then 2 else if code = codeResolve then 10 else 1

/-! ## The configuration image (R184, R193) -/

/-- A byte of the image; one that the memory did not send reads as the pulled-up level (R184). -/
def imageByte (img : List Byte) (k : Nat) : Byte := img.getD k 0xFF

/-- A field of one byte. -/
def image8 (img : List Byte) (k : Nat) : Nat := (imageByte img k).toNat

/-- A field of two bytes, high byte first. -/
def image16 (img : List Byte) (k : Nat) : Nat := be16 (imageByte img k) (imageByte img (k + 1))

/-- A signed field of two bytes. -/
def imageSigned (img : List Byte) (k : Nat) : Int := signed16 (image16 img k)

/-- The 64 bytes as read. -/
def imageBytes (img : List Byte) : List Byte := (List.range 64).map (imageByte img)

/-- An input type code; a code that names none takes the default DETECTOR (R184, R193). -/
def inputTypeOfCode (n : Nat) : InputType :=
  match n with
  | 0 => .unused
  | 1 => .detector
  | 2 => .manualRelease
  | 3 => .pressure
  | 4 => .abort
  | _ => .detector

/-- A store policy code; a code that names none takes the default CHANGE (R184, R193). -/
def policyOfCode (n : Nat) : StorePolicy :=
  match n with
  | 0 => .every
  | 1 => .change
  | 2 => .excursion
  | _ => .change

/-- The slot count as R79 rounds it. -/
def roundSlotCount (n : Nat) : Nat :=
  if n = 0 then 0 else if n < 16 then 16 else if 128 < n then 128 else n / 16 * 16

/-- The fields of an image that passed the check, each clamped or defaulted (R184, R193). -/
def imageSettings (img : List Byte) : Settings where
  console := clampNat 0 30 (image8 img 1)
  dockStation := clampNat 0 30 (image8 img 2)
  releaseEnabled := image8 img 3 / 64 == 1
  spaceGroup := image8 img 3 / 8 % 8
  policy := policyOfCode (image8 img 3 % 4)
  inputTypes :=
    [inputTypeOfCode (image8 img 4 / 16), inputTypeOfCode (image8 img 4 % 16),
     inputTypeOfCode (image8 img 5 / 16), inputTypeOfCode (image8 img 5 % 16),
     inputTypeOfCode (image8 img 6 / 16), inputTypeOfCode (image8 img 6 % 16)]
  verifyTime := clampNat 0 60 (image8 img 7)
  preDischargeDelay := clampNat 10 60 (image8 img 8)
  manualDelay := clampNat 0 30 (image8 img 9)
  abortRestart := clampNat 10 60 (image8 img 10)
  releasePulse := clampNat 1 10 (image8 img 11)
  statusInterval := clampNat 2 20 (image8 img 12)
  climateInterval := clampNat 1 60 (image8 img 13)
  cap := clampNat 1 30 (image8 img 14 / 8)
  averaging := image8 img 14 % 8
  rhAgree := clampNat 10 100 (image8 img 15)
  tAgree := clampNat 10 100 (image8 img 16)
  deadband := clampNat 1 100 (image8 img 17)
  bandUp := clampNat 10 100 (image8 img 18)
  bandDown := clampNat 10 100 (image8 img 19)
  slotCount := roundSlotCount (clampNat 0 128 (image8 img 20))
  h0 := clampNat 0 240 (image8 img 21)
  kt := clampNat 0 120 (image8 img 22)
  kh := clampNat 0 60 (image8 img 23)
  aux1Mask := imageByte img 24
  aux2Mask := imageByte img 25
  climateHoldLimit := clampNat 60 1800 (image16 img 26)
  rhTarget := clampNat 200 700 (image16 img 28)
  rhHigh := clampNat 300 950 (image16 img 30)
  rhLow := clampNat 50 600 (image16 img 32)
  tHigh := clampInt 0 500 (imageSigned img 34)
  tLow := clampInt (-300) 300 (imageSigned img 36)
  excursionDelay := clampNat 0 3600 (image16 img 38)
  minRunTime := clampNat 0 3600 (image16 img 40)
  minOffTime := clampNat 0 1800 (image16 img 42)
  pullWindow := clampNat 30 600 (image16 img 44)
  returnWindow := clampNat 60 3600 (image16 img 46)
  courierWindow := clampNat 120 3600 (image16 img 48)
  handoverWindow := clampNat 60 1800 (image16 img 50)
  hMax := clampNat 60 1440 (image16 img 52) / 10 * 10
  tReference := clampInt 100 300 (imageSigned img 54)
  damageTHigh := clampInt 0 700 (imageSigned img 56)
  damageTLow := clampInt (-400) 0 (imageSigned img 58)
  damageRh := clampNat 0 1000 (image16 img 60)

/-- The judgement of an image, in the order of R184: unanswered, check failure, wrong format version, good.
`none` for an image that is set aside whole. -/
def judgeImage (img : List Byte) : Option Settings :=
  if (imageBytes img).all (· == 0xFF) then none
  else if crc ((imageBytes img).take 62) != BitVec.ofNat 16 (image16 img 62) then none
  else if image8 img 0 != 1 then none
  else some (imageSettings img)

/-! ## The reader's response (R99, R101) -/

/-- Tag kinds of an OK response (R99). -/
inductive TagKind where
  | cartridge
  | badge
  | case
  deriving DecidableEq, Repr

/-- A good READ response (R99). -/
inductive ReadStatus where
  | noTag
  | multiple
  | ok (kind : TagKind) (id : Tag) (climate : Option CaseClimate)
  deriving DecidableEq, Repr

/-- The judgement of the characters read so far (R101). -/
inductive Judged where
  | incomplete
  | malformed
  | good (r : ReadStatus)
  deriving DecidableEq, Repr

/-- The case climate record of a CASE response, after its ID (13_frame_and_record_formats.md, Reader line). -/
def caseClimateAt (l : List Byte) (k : Nat) : CaseClimate :=
  { tMin := signed16 (wordAt l k), tMax := signed16 (wordAt l (k + 2)), rhMax := wordAt l (k + 4),
    valid := byteAt l (k + 6) != 0 }

/-- The judgement of the characters from the first one that is not the busy character. -/
def judgeResponse (l : List Byte) : Judged :=
  match l with
  | [] => .incomplete
  | status :: rest =>
    if status = 2 then .good .noTag
    else if status = 3 then .good .multiple
    else if status = 1 then
      match rest with
      | [] => .incomplete
      | kind :: body =>
        if kind = 1 then (if body.length < 8 then .incomplete else .good (.ok .cartridge (tagAt body 0) none))
        else if kind = 2 then (if body.length < 8 then .incomplete else .good (.ok .badge (tagAt body 0) none))
        else if kind = 3 then
          (if body.length < 15 then .incomplete
           else .good (.ok .case (tagAt body 0) (some (caseClimateAt body 8))))
        else .malformed
    else .malformed

/-- A READ response: the first character other than the busy character begins it (R101). -/
def readResponseOf (chars : List Byte) : Judged := judgeResponse (chars.dropWhile (· == 0))

/-- The acknowledge character of a signal, A5h, and the busy character, 00h. -/
def ackChar : Byte := 0xA5
def busyChar : Byte := 0x00

end Sys2Proof.Machine
end

