-- ==== Sys2Proof/Machine/Flags.lean ====
section
/-! DEFINITION. The codes of the spec's named values, and every condition, count and output the spec computes from the
state without changing it: the own alarm count, the conditions of the fire controller, excess, the forced-off
conditions, the running count and the rank, the pause, and the output pins. -/

namespace Sys2Proof.Machine

/-! ## Codes (13_frame_and_record_formats.md, Codes) -/

/-- Fire state codes. -/
def FireState.code (f : FireState) : Nat :=
  match f with
  | .stabilizing => 0
  | .normal => 1
  | .alert => 2
  | .confirmed => 3
  | .preDischarge => 4
  | .held => 5
  | .discharged => 6
  | .test => 7

/-- Climate state codes. -/
def ClimateState.code (c : ClimateState) : Nat :=
  match c with
  | .starting => 0
  | .active => 1
  | .degraded => 2
  | .holding => 3
  | .lost => 4

/-- Excursion state codes. -/
def ExcursionState.code (e : ExcursionState) : Nat :=
  match e with
  | .inBand => 0
  | .pending => 1
  | .excursion => 2

/-- The slot state a kept prior state stands for (R86). -/
def PriorState.state (p : PriorState) : SlotState :=
  match p with
  | .empty => .empty
  | .out => .out
  | .awaited => .awaited

/-- Slot state codes. -/
def SlotState.code (st : SlotState) : Nat :=
  match st with
  | .empty => 1
  | .occupied => 2
  | .pullPending => 3
  | .pulled => 4
  | .out => 5
  | .awaited => 6
  | .returnPending => 7
  | .hold => 8
  | .quarantine => 9
  | .evacuated => 10
  | .unexpectedRemoval => 11
  | .unexpectedPresence _ => 11

/-- The detail byte of a slot record (R192). -/
def SlotState.detail (st : SlotState) : Nat :=
  match st with
  | .unexpectedPresence p => p.state.code
  | _ => 0

/-- Custody state codes. -/
def CustodyState.code (c : CustodyState) : Nat :=
  match c with
  | .held => 1
  | .offered => 2
  | .suspended => 3
  | .expected => 4
  | .taking => 5
  | .released => 6
  | .loaded => 7
  | .adrift => 8
  | .disputed => 9

/-- Consignment state codes. -/
def ConsignmentState.code (c : ConsignmentState) : Nat :=
  match c with
  | .opening => 1
  | .active => 2
  | .staging => 3
  | .courierPresent => 4
  | .waitingCourier => 5
  | .receiving => 6
  | .distributing => 7

/-- Direction codes. -/
def Direction.code (d : Direction) : Nat :=
  match d with
  | .outbound => 1
  | .inbound => 2

/-- Failure reason codes. -/
def FailReason.code (r : FailReason) : Nat :=
  match r with
  | .station => 1
  | .slotRange => 2
  | .duplicate => 3
  | .slotState => 4
  | .pullUnverified => 5
  | .refused => 6
  | .adrift => 7
  | .disputed => 8
  | .missing => 9
  | .leftBehind => 10
  | .expired => 11
  | .cancelled => 12
  | .overflow => 13

/-- Entry state codes. -/
def EntryState.code (e : EntryState) : Nat :=
  match e with
  | .waiting => 1
  | .active => 2
  | .done => 3
  | .failed _ => 4

/-- The failure reason code of an entry, absent unless it is FAILED (R112). -/
def EntryState.reasonCode (e : EntryState) : Option Nat :=
  match e with
  | .failed r => some r.code
  | _ => none

/-- REFUSE reason codes. -/
def RefuseReason.code (r : RefuseReason) : Nat :=
  match r with
  | .fire => 1
  | .full => 2
  | .noConsignment => 3
  | .duplicate => 4
  | .slotNotReady => 5

/-- Tag kind codes. -/
def TagKind.code (k : TagKind) : Nat :=
  match k with
  | .cartridge => 1
  | .badge => 2
  | .case => 3

/-- Query subject codes. -/
def Subject.code (q : Subject) : Nat :=
  match q with
  | .slots => 1
  | .custody => 2
  | .consignment => 3
  | .history => 4
  | .peers => 5
  | .episode => 6

/-- Episode status codes. -/
def EpisodeStatus.code (e : EpisodeStatus) : Nat :=
  match e with
  | .none => 0
  | .opened => 1
  | .closed => 2

/-- Role codes of a STATE. -/
def roleCode (r : Role) : Nat :=
  match r with
  | .bay => 1
  | .dock => 2

/-- Report kind codes. -/
def ReportKind.code (k : ReportKind) : Nat :=
  match k with
  | .pullDone => 1
  | .pullUnverified => 2
  | .unexpectedRemoval => 3
  | .unexpectedPresence => 4
  | .evacuated => 5
  | .seated => 6
  | .returnOverdue => 7
  | .inventoryRestart => 8
  | .holdDone => 9
  | .quarantined => 10
  | .entryRejected => 11
  | .consignmentRefused => 12
  | .consignmentAbandoned => 13
  | .consignmentClosed => 14
  | .courierTimeout => 15
  | .leftBehind => 16
  | .handoverRefused => 17
  | .adrift => 18
  | .disputed => 19
  | .expectedLapsed => 20
  | .unknownTag => 21
  | .unverifiedAlarm => 22
  | .testAlarm => 23
  | .excursionStart => 24
  | .excursionEnd => 25
  | .commandRefused => 26
  | .doorForced => 27
  | .troubleSet => 28
  | .troubleClear => 29

/-- The trouble codes, which are the bit numbers of the trouble summary. -/
def Trouble.code (t : Trouble) : Nat :=
  match t with
  | .inputOpen i => i.val
  | .inputShort i => 6 + i.val
  | .releaseCircuit => 12
  | .releaseIsolated => 13
  | .probeFault => 14
  | .probeDisagree => 15
  | .climateLost => 16
  | .climateStarved => 17
  | .lineStuck => 18
  | .lineNoisy => 19
  | .stationConflict => 20
  | .readerFault => 21
  | .configDefault => 22
  | .strapInvalid => 23
  | .mainsFail => 24

/-- The input number a trouble report carries: 1 to 6 for the input troubles, else 0. -/
def Trouble.inputNumber (t : Trouble) : Nat :=
  match t with
  | .inputOpen i => i.val + 1
  | .inputShort i => i.val + 1
  | _ => 0

/-- The six supervised inputs in order. -/
def allInputs : List InputNo := [0, 1, 2, 3, 4, 5]

/-- The 25 troubles in the order of the trouble set (R187). -/
def allTroubles : List Trouble :=
  allInputs.map Trouble.inputOpen ++ allInputs.map Trouble.inputShort ++
    [.releaseCircuit, .releaseIsolated, .probeFault, .probeDisagree, .climateLost, .climateStarved, .lineStuck,
     .lineNoisy, .stationConflict, .readerFault, .configDefault, .strapInvalid, .mainsFail]

/-! ## The station -/

/-- The own number as a number, 0 to 31 (R183). -/
def ownNumber (s : State) : Nat := s.own.toNat

/-- Whether the own number is valid, 1 to 30 (R183). -/
def strapValid (own : Strap) : Bool := 1 ≤ own.toNat && own.toNat ≤ 30

/-- The active value of a trouble (R187). -/
def troubleActive (t : Trouble) (s : State) : Bool := s.out.active.getLsbD t.code

/-- The type of an input (R2). -/
def inputType (i : InputNo) (s : State) : InputType := s.cfg.inputTypes.getD i.val .unused

/-- The record of an input (R2). -/
def inputRecord (i : InputNo) (s : State) : InputRecord := s.sup.inputs.getD i.val InputRecord.atReset

/-- The latch of an input (R19). -/
def latchOf (i : InputNo) (s : State) : Latch := s.fire.latches.getD i.val Latch.none

/-- The slot count in use: that of the image at a bay, 0 at the dock (R79). -/
def slotCount (s : State) : Nat := if s.role = .dock then 0 else s.cfg.slotCount

/-- Whether a drive line is used: the lines 1 to count ÷ 16 are (R79). -/
def lineUsed (d : Nat) (s : State) : Bool := 16 * d ≤ slotCount s

/-! ## Fire conditions -/

/-- A raised state: ALERT or higher (R19). -/
def FireState.raised (f : FireState) : Bool :=
  match f with
  | .alert => true
  | .confirmed => true
  | .preDischarge => true
  | .held => true
  | .discharged => true
  | _ => false

/-- The order of the states, lowest to highest (R19): 0 below ALERT. -/
def FireState.level (f : FireState) : Nat :=
  match f with
  | .alert => 1
  | .confirmed => 2
  | .held => 3
  | .preDischarge => 4
  | .discharged => 5
  | _ => 0

/-- The states in which offers are refused and givers suspended (R140, R143). -/
def FireState.blocksHandover (f : FireState) : Bool :=
  match f with
  | .preDischarge => true
  | .held => true
  | .discharged => true
  | _ => false

/-- Whether an input counts as an own alarm: typed DETECTOR and holding a FIRE latch (R19). -/
def countsAsAlarm (s : State) (i : InputNo) : Bool :=
  inputType i s == .detector && latchOf i s == .fire

/-- The own alarm count (R19). -/
def ownAlarmCount (s : State) : Nat := (allInputs.filter (countsAsAlarm s)).length

/-- Own abort is active while the set of own abort inputs is not empty (R21). -/
def ownAbortActive (s : State) : Bool := !s.fire.ownAbort.isEmpty

/-- The fire fields of an entry when it is fresh and of the own space group. -/
def sameSpaceFields (group : Nat) (p : Peer) : Option PeerFire :=
  match p.fire with
  | some f => if p.fresh && f.group == group then some f else none
  | none => none

/-- The same-space peers: the fire fields of the fresh entries whose space group is the own one (R22). -/
def sameSpacePeers (s : State) : List PeerFire := s.line.peers.filterMap (sameSpaceFields s.cfg.spaceGroup)

/-- The space alarm count (R22). -/
def spaceAlarmCount (s : State) : Nat := ownAlarmCount s + ((sameSpacePeers s).map (·.alarms)).sum

/-- Abort is active for the station (R21). -/
def abortActive (s : State) : Bool := ownAbortActive s || (sameSpacePeers s).any (·.abort)

/-- The station is armed: release enabled in the image and isolation off (R23). -/
def armed (s : State) : Bool := s.cfg.releaseEnabled && !s.fire.isolated

/-- The fire state codes that raise the alert condition (R26). -/
def raisedCode (c : Nat) : Bool := 2 ≤ c && c ≤ 6

/-- The alert condition (R26). -/
def alertCondition (s : State) : Bool :=
  1 ≤ spaceAlarmCount s || (sameSpacePeers s).any (fun p => raisedCode p.fire)

/-- The same-space peers in PRE_DISCHARGE. -/
def countingPeers (s : State) : List PeerFire :=
  (sameSpacePeers s).filter (fun p => p.fire == FireState.preDischarge.code)

/-- The confirmation condition (R27). -/
def confirmationCondition (s : State) : Bool := 2 ≤ spaceAlarmCount s || !(countingPeers s).isEmpty

/-- A recorded countdown, a 0 taken as 1 (R27, R30). -/
def peerCountdown (p : PeerFire) : Nat := max 1 p.countdown

/-- The lowest countdown of the same-space peers in PRE_DISCHARGE, absent when there is none (R27). -/
def lowestCountdown (s : State) : Option Nat := ((countingPeers s).map peerCountdown).min?

/-- Some own MANUAL_RELEASE input holds a FIRE latch (R24). -/
def manualLatched (s : State) : Bool :=
  allInputs.any fun i => inputType i s == .manualRelease && latchOf i s == .fire

/-- The four values the fire controller reports (R43). -/
structure ReportedFire where
  state : FireState
  alarms : Nat
  abort : Bool
  manual : Bool
  deriving DecidableEq, Repr

/-- The reported alarm count and abort-active are 0 and clear in TEST (R38, R43). -/
def reportedFire (s : State) : ReportedFire :=
  { state := s.fire.state,
    alarms := if s.fire.state = .test then 0 else ownAlarmCount s,
    abort := if s.fire.state = .test then false else ownAbortActive s,
    manual := s.fire.manual }

/-! ## Climate, allotter and pause -/

/-- Excess: how far RH_bay lies above the RH target, 0 while the bay values are absent (R53). -/
def excess (s : State) : Nat :=
  match s.climate.bay with
  | some b => b.rh - s.cfg.rhTarget
  | none => 0

/-- The climate states without bay values (R46). -/
def ClimateState.blind (c : ClimateState) : Bool :=
  match c with
  | .starting => true
  | .lost => true
  | _ => false

/-- The forced-off conditions of the allotter (R68). -/
def forcedCondition (s : State) : Bool :=
  s.fire.state == .stabilizing || s.fire.state.raised || troubleActive .mainsFail s || s.climate.state.blind

/-- A peer recorded as running, fresh or stale (R70). -/
def Peer.isRunning (p : Peer) : Bool :=
  match p.state with
  | some f => f.running
  | none => false

/-- The running count (R70). -/
def runningCount (s : State) : Nat := (s.line.peers.filter Peer.isRunning).length

/-- Whether the peer of a station number waits ahead of the own station (R71). -/
def waitsAhead (own ownExcess number : Nat) (p : Peer) : Bool :=
  match p.state with
  | some f =>
    p.fresh && f.requesting && !f.running && (ownExcess < f.excess || (f.excess == ownExcess && number < own))
  | none => false

/-- The number of waiting stations ahead in a list of entries whose first is that of station `number`. -/
def rankFrom (own ownExcess : Nat) : Nat → List Peer → Nat
  | _, [] => 0
  | number, p :: rest =>
    (if waitsAhead own ownExcess number p then 1 else 0) + rankFrom own ownExcess (number + 1) rest

/-- The rank (R71). -/
def rank (s : State) : Nat := rankFrom (ownNumber s) (excess s) 1 s.line.peers

/-- The pause conditions of the hold countdown (R160). -/
def pauseCondition (s : State) : Bool :=
  s.climate.excursion == .excursion || s.climate.state.blind || s.fire.state.raised

/-! ## Output pins -/

/-- Whether the outputs of the blocks are driven: not from power-on until the image is judged (R185). -/
def outputsDriven (s : State) : Bool := s.phase == .running || s.phase == .restarting

/-- The channel being converted of a sequence in progress, 0 to 3 for RH-A, T-A, RH-B, T-B (R15). -/
def Sequence.channel (q : Sequence) : Nat := q.done % 4

/-- The channel of the probe conversion in progress (R1, R15). -/
def probeChannel (s : State) : Option Nat :=
  match s.sup.conv with
  | .probe => s.sup.seq.map Sequence.channel
  | _ => none

/-- PEXA: the excitation of probe A, on from the start of each conversion of RH-A or T-A to its end (R1, log 47). -/
def probeAExcited (s : State) : Bool := (probeChannel s).any fun k => k < 2

/-- PEXB: the excitation of probe B, on from the start of each conversion of RH-B or T-B to its end (R1, log 47). -/
def probeBExcited (s : State) : Bool := (probeChannel s).any fun k => 2 ≤ k

/-- The matrix line that the scanner drives: while the scan runs, the line of the present drive position, and none at an
unused one (R80, log 50). -/
def drivenLine (s : State) : Option Nat :=
  if s.phase = .running ∧ lineUsed s.scanner.drive s = true then some s.scanner.drive else none

/-- DRV1 to DRV8, by their number (R80, log 50). -/
def driveLineOn (d : Nat) (s : State) : Bool := drivenLine s == some d

/-- RELEASE: energized exactly while the release pulse timer runs (R34). -/
def releaseOn (s : State) : Bool := s.fire.releasePulse.isSome

/-- SOUNDER: a test pulse, else off under a silence level, else the cadence of the state, steady in DISCHARGED (R39, R41). -/
def sounderOn (s : State) : Bool :=
  if s.fire.testPulse.isSome then true
  else if s.fire.silence.isSome then false
  else if s.fire.state = .discharged then true
  else match s.fire.cadence with
    | some c => c.phaseOn
    | none => false

/-- HVAC_SHUTDOWN: on while the fire state is raised (R42). -/
def hvacShutdown (s : State) : Bool := s.fire.state.raised

/-- DEHUMIDIFIER: on in RUNNING (R66). -/
def dehumidifierOn (s : State) : Bool := s.allot.running

/-- The slot states that free the door at a bay (R129). -/
def SlotState.freesDoor (st : SlotState) : Bool :=
  match st with
  | .pullPending => true
  | .pulled => true
  | .returnPending => true
  | _ => false

/-- Whether a slot is held by a record in the table, in a state that frees the door (R129). -/
def slotFreesDoor (s : State) (sl : Slot) : Bool :=
  match sl.consignment with
  | some n => sl.state.freesDoor && s.consignments.any (fun c => c.number == n)
  | none => false

/-- A courier is present under the record (R129). -/
def Consignment.courierHere (c : Consignment) : Bool := c.state == .courierPresent || c.state == .receiving

/-- DOOR_LOCK is released (R129); otherwise it is engaged. -/
def doorReleased (s : State) : Bool :=
  s.fire.state.raised ||
    (if s.role = .bay then s.scanner.slots.any (slotFreesDoor s) else s.consignments.any Consignment.courierHere)

/-- TROUBLE: on while at least one trouble is active, held off until the image has been judged (R185, R187). -/
def troubleOn (s : State) : Bool := outputsDriven s && s.out.active != 0

/-- The eight conditions of the steered outputs, in the order of their mask bits (R188, R193). -/
def auxConditions (s : State) : List Bool :=
  [s.fire.state.raised,
   s.fire.state == .preDischarge,
   s.fire.state == .discharged,
   troubleOn s,
   s.climate.excursion == .excursion,
   s.custody.entries.any (fun e => e.state == .adrift || e.state == .disputed),
   s.scanner.slots.any (fun sl => sl.state == .quarantine),
   s.out.doorForced.isSome]

/-- Whether a condition that the mask selects holds, from mask bit `k` on. -/
def auxFrom (mask : Byte) : Nat → List Bool → Bool
  | _, [] => false
  | k, c :: rest => (mask.getLsbD k && c) || auxFrom mask (k + 1) rest

/-- A steered output: off while the image is read (R185, R186), else on while a selected condition holds (R188). -/
def auxOn (mask : Byte) (s : State) : Bool := s.phase == .running && auxFrom mask 0 (auxConditions s)

/-- AUX1 and AUX2 (R188). -/
def aux1On (s : State) : Bool := auxOn s.cfg.aux1Mask s
def aux2On (s : State) : Bool := auxOn s.cfg.aux2Mask s

end Sys2Proof.Machine
end

