-- ==== Sys2Proof/Machine/Ops.lean ====
section
/-! DEFINITION. The named operations that every block's commands use: queuing a report, setting and clearing a trouble,
queuing an ALARM or a STATE, updating one input's record or latch, and running one event. -/

namespace Sys2Proof.Machine

/-! ## Reports (R179) -/

/-- Reports leave the station: the console number is neither 0 nor the own number, and the strap is valid (R179). -/
def reportsGoOut (s : State) : Bool :=
  s.cfg.console != 0 && s.cfg.console != ownNumber s && !troubleActive .strapInvalid s

/-- A report added as the newest; a full queue drops its oldest and the reports-lost flag is set (R179). -/
def pushReport (r : Report) (l : LineController) : LineController :=
  if l.reports.length < Config.reportMax then { l with reports := l.reports ++ [r] }
  else { l with reports := l.reports.tail ++ [r], reportsLost := true, droppedSinceTake := true }

/-- A report is queued for the console, or dropped as it arises where none leaves the station (R179). -/
def queueReport (r : Report) (s : State) : State :=
  if reportsGoOut s then { s with line := pushReport r s.line } else s

/-- Several reports queued one after another. -/
def queueReports (rs : List Report) (s : State) : State := rs.foldl (fun s r => queueReport r s) s

/-- REPORT COMMAND_REFUSED with the command code, the slot of CLEAR_QUARANTINE and the tag of RESOLVE. -/
def refuseCommand (code : Byte) (slot : Nat) (tag : Tag) (s : State) : State :=
  queueReport { kind := .commandRefused, number := slot, tag := tag, code := code.toNat } s

/-! ## Troubles (R187) -/

/-- A trouble bit set or cleared. -/
def setTroubleBit (v : TroubleBits) (i : Nat) (b : Bool) : TroubleBits :=
  if b then v ||| BitVec.twoPow 25 i else v &&& ~~~(BitVec.twoPow 25 i)

/-- The active value of a trouble follows its owner at once (R187). -/
def setActive (t : Trouble) (b : Bool) (s : State) : State :=
  { s with out := { s.out with active := setTroubleBit s.out.active t.code b } }

/-- The reported value of a trouble: the value the console was last told (R187). -/
def setReported (t : Trouble) (b : Bool) (s : State) : State :=
  { s with out := { s.out with reported := setTroubleBit s.out.reported t.code b } }

/-- REPORT TROUBLE_SET or TROUBLE_CLEAR. -/
def troubleReport (t : Trouble) (b : Bool) : Report :=
  { kind := if b then .troubleSet else .troubleClear, number := t.inputNumber, code := t.code }

/-- The console is told a trouble's value, and the reported value takes it (R187). -/
def tellTrouble (t : Trouble) (b : Bool) (s : State) : State := setReported t b (queueReport (troubleReport t b) s)

/-- An owner sets or clears a trouble: a change outside STABILIZING is reported at once; one during STABILIZING
changes the active value only; no change gives no report (R187). -/
def setTrouble (t : Trouble) (b : Bool) (s : State) : State :=
  if troubleActive t s = b then s
  else if s.fire.state = .stabilizing then setActive t b s
  else tellTrouble t b (setActive t b s)

/-- The end of STABILIZING at one trouble: a report when its two values differ (R187). -/
def settleTrouble (s : State) (t : Trouble) : State :=
  if troubleActive t s = s.out.reported.getLsbD t.code then s else tellTrouble t (troubleActive t s) s

/-- The end of STABILIZING at the output drivers: every trouble in the order of the set (R187). -/
def settleTroubles (s : State) : State := allTroubles.foldl settleTrouble s

/-! ## The ALARM and STATE slots (R173) -/

/-- An ALARM queued for its slot. -/
def queueAlarm (s : State) : State := { s with line := { s.line with alarmQueued := true } }

/-- A STATE queued for its slot. -/
def queueState (s : State) : State := { s with line := { s.line with stateQueued := true } }

/-- After an event the four reported values are compared with those before it; one ALARM is queued if any of them
differs (R43). -/
def queueAlarmIfChanged (before after : State) : State :=
  if reportedFire after = reportedFire before then after else queueAlarm after

/-! ## Single records -/

/-- The record of one input written. -/
def setInput (i : InputNo) (r : InputRecord) (s : State) : State :=
  { s with sup := { s.sup with inputs := s.sup.inputs.set i.val r } }

/-- The latch of one input written. -/
def setLatch (i : InputNo) (l : Latch) (s : State) : State :=
  { s with fire := { s.fire with latches := s.fire.latches.set i.val l } }

/-- A timer started at a number of seconds; one of 0 s does not start (R73, R74). -/
def startTimer (n : Nat) : Option Nat := if n = 0 then none else some n

/-! ## Running one event -/

/-- One event of a running station: its effect, then the comparison of R43. An event that reaches a station whose
blocks have not started finds nothing to act on: no timer runs, nothing is received, converted, sampled or read
(R17, R185, R186). -/
def runEvent (effect : State → State) (s : State) : Host.Outcome State Fault Refusal :=
  .next (if s.phase = .running then queueAlarmIfChanged s (effect s) else s)

end Sys2Proof.Machine
end

