-- ==== Sys2Proof/Machine/Allot.lean ====
section
/-! DEFINITION. The dehumidifier allotter: the request, forcing, the grant, starting and stopping (R66 to R78). -/

namespace Sys2Proof.Machine

/-- The set threshold: the RH target plus the band up (R67). -/
def setThreshold (cfg : Settings) : Nat := cfg.rhTarget + cfg.bandUp

/-- The clear threshold: the RH target less the band down (R67). -/
def clearThreshold (cfg : Settings) : Nat := cfg.rhTarget - cfg.bandDown

/-- A start: RUNNING with the minimum-run timer, and a STATE queued (R73). -/
def startDehumidifier (s : State) : State :=
  queueState
    { s with allot := { s.allot with running := true, minRun := startTimer s.cfg.minRunTime, minOff := none } }

/-- A stop: OFF with the minimum-off timer, and a STATE queued (R74). -/
def stopDehumidifier (s : State) : State :=
  queueState
    { s with allot := { s.allot with running := false, minRun := none, minOff := startTimer s.cfg.minOffTime } }

/-- Whether the grant evaluation starts the dehumidifier (R72). -/
def granted (s : State) : Bool :=
  !s.allot.running && !s.allot.forced && s.allot.request && s.allot.minOff.isNone &&
    runningCount s + rank s < s.cfg.cap

/-- The grant evaluation (R72). -/
def evaluateGrant (s : State) : State := if granted s then startDehumidifier s else s

/-- The request after a sample, by the hysteresis table (R67). -/
def judgedRequest (s : State) : Bool :=
  match s.climate.bay with
  | some b =>
    if setThreshold s.cfg ≤ b.rh then true
    else if b.rh ≤ clearThreshold s.cfg then false
    else s.allot.request
  | none => s.allot.request

/-- The request at the end of forcing, by the set threshold alone (R69). -/
def requestAtForcingEnd (s : State) : Bool :=
  match s.climate.bay with
  | some b => setThreshold s.cfg ≤ b.rh
  | none => false

/-- The start of forcing: the request clears and a RUNNING dehumidifier stops at once (R68). -/
def beginForcing (s : State) : State :=
  let t := { s with allot := { s.allot with forced := true, request := false } }
  if t.allot.running then stopDehumidifier t else t

/-- The end of forcing: the request is judged and a grant evaluation runs (R69). -/
def endForcing (s : State) : State :=
  evaluateGrant { s with allot := { s.allot with forced := false, request := requestAtForcingEnd s } }

/-- The forced-off conditions looked at again, at every event that can change one (R68, R69). -/
def reevaluateForced (s : State) : State :=
  if forcedCondition s && !s.allot.forced then beginForcing s
  else if !forcedCondition s && s.allot.forced then endForcing s
  else s

/-- A RUNNING dehumidifier with its request clear and its minimum run over stops; one that is OFF is evaluated
for a grant (R72, R74). -/
def stopOrGrant (s : State) : State :=
  if s.allot.running then
    (if !s.allot.request && s.allot.minRun.isNone then stopDehumidifier s else s)
  else evaluateGrant s

/-- The sample-taken notice at the allotter: forcing, then the request, then the stop or the grant (R67, R68, R72). -/
def allotSampleTaken (s : State) : State :=
  let t := reevaluateForced s
  if t.allot.forced then t
  else stopOrGrant { t with allot := { t.allot with request := judgedRequest t } }

/-! ## Commands -/

/-- MIN_RUN_TIMER_EXPIRY (R75). -/
def minRunExpired (s : State) : State :=
  if s.allot.minRun.isNone then s
  else
    let t := { s with allot := { s.allot with minRun := none } }
    if t.allot.running && !t.allot.request then stopDehumidifier t else t

def execMinRunTimerExpiry (s : State) : Host.Outcome State Fault Refusal := runEvent minRunExpired s

/-- MIN_OFF_TIMER_EXPIRY (R76). -/
def minOffExpired (s : State) : State :=
  if s.allot.minOff.isNone then s else evaluateGrant { s with allot := { s.allot with minOff := none } }

def execMinOffTimerExpiry (s : State) : Host.Outcome State Fault Refusal := runEvent minOffExpired s

end Sys2Proof.Machine
end

