-- ==== Sys2Proof/Machine/Custody.lean ====
section
/-! DEFINITION. The handover engine's own operations: the custody list, the reply list, the owed OFFER, and what the
fire state does to givers and takers (R131 to R135, R139, R140, R143, R147). -/

namespace Sys2Proof.Machine

/-! ## The lists -/

/-- The custody entry of a tag (R131). -/
def findCustody (t : Tag) (s : State) : Option CustodyEntry := s.custody.entries.find? fun e => e.tag == t

/-- The custody entry of the tag a frame names; an absent tag names none (R191). -/
def custodyNamed (t : Option Tag) (s : State) : Option CustodyEntry := t.bind fun t => findCustody t s

/-- The custody list written. -/
def withCustody (es : List CustodyEntry) (s : State) : State := { s with custody := { s.custody with entries := es } }

/-- Every custody entry changed. -/
def mapCustody (f : CustodyEntry → CustodyEntry) (s : State) : State := withCustody (s.custody.entries.map f) s

/-- The custody entry of one tag changed. -/
def updateCustody (t : Tag) (f : CustodyEntry → CustodyEntry) (s : State) : State :=
  mapCustody (fun e => if e.tag = t then f e else e) s

/-- The custody entry of one tag removed; the others keep their order (R147). -/
def removeCustody (t : Tag) (s : State) : State := withCustody (s.custody.entries.filter fun e => e.tag != t) s

/-- A new entry is the newest (R131). -/
def addCustody (e : CustodyEntry) (s : State) : State := withCustody (s.custody.entries ++ [e]) s

/-- A new entry in a state, with its wait reason, mark and count as at creation (R131). -/
def newCustody (t : Tag) (st : CustodyState) (num peer slot : Option Nat) : CustodyEntry :=
  { tag := t, state := st, consignment := num, peer := peer, slot := slot, hold := 0, quarantine := false,
    wait := .none, timer := none, attempts := 0, owed := none }

/-- The custody list holds 24 entries (R131). -/
def custodyFull (s : State) : Bool := Config.custodyMax ≤ s.custody.entries.length

/-- A reply list with one more reply: not a second time, and none where the list is full (R132). -/
def pushReply (rs : List Reply) (r : Reply) : List Reply :=
  if rs.contains r || Config.replyMax ≤ rs.length then rs else rs ++ [r]

/-- A reply added as the newest (R132). -/
def addReply (r : Reply) (s : State) : State :=
  { s with custody := { s.custody with replies := pushReply s.custody.replies r } }

/-! ## The offering rule -/

/-- The record of a number is in the table and RECEIVING (R135). -/
def recordReceiving (num : Nat) (s : State) : Bool :=
  s.consignments.any fun c => c.number == num && c.state == .receiving

/-- What a HELD entry owes, by its consignment number (R135). -/
def offerOwed (s : State) (e : CustodyEntry) : Bool :=
  match e.consignment with
  | some num => e.peer.isSome && e.wait == .none && !recordReceiving num s
  | none => false

/-- The mark of a HELD entry under the offering rule; entries in other states keep theirs (R135). -/
def settleOffer (s : State) (e : CustodyEntry) : CustodyEntry :=
  if e.state = .held then { e with owed := if offerOwed s e then some .offer else none } else e

/-- The offering rule applied to the list, after an event that may make its conditions hold or end (R135). -/
def settleOffers (s : State) : State := mapCustody (settleOffer s) s

/-- An entry's consignment number cleared, and with it its wait reason (R139). -/
def CustodyEntry.dropNumber (e : CustodyEntry) : CustodyEntry := { e with consignment := none, wait := .none }

/-- The reports of this block carry the peer station, the number (0 when absent), the tag and a code (R149). -/
def custodyReport (k : ReportKind) (e : CustodyEntry) (code : Nat) : Report :=
  { kind := k, number := e.peer.getD 0, consignment := e.consignment.getD 0, tag := e.tag, code := code }

/-! ## Fire at the giver and the taker -/

/-- An OFFERED entry suspended, its timer paused (R140). -/
def suspendEntry (e : CustodyEntry) : CustodyEntry :=
  if e.state = .offered then { e with state := .suspended } else e

/-- A SUSPENDED entry resumed, its timer running again (R140). -/
def resumeEntry (e : CustodyEntry) : CustodyEntry :=
  if e.state = .suspended then { e with state := .offered } else e

/-- The REFUSE FIRE that goes with the removal of an EXPECTED entry (R143). -/
def fireRefusal (e : CustodyEntry) : Reply :=
  { kind := .refuse .fire, dst := e.peer.getD 0, consignment := e.consignment.getD 0, tag := e.tag }

/-- The entries in EXPECTED. -/
def expectedEntries (es : List CustodyEntry) : List CustodyEntry := es.filter fun e => e.state == .expected

/-- The entries that are not in EXPECTED. -/
def notExpected (es : List CustodyEntry) : List CustodyEntry := es.filter fun e => e.state != .expected

/-- Entry to PRE_DISCHARGE, HELD or DISCHARGED: givers are suspended and EXPECTED entries removed (R140, R143). The REFUSE
replies of several removed entries are added in the order of the custody list, oldest entry first: R143 gives no order
(DESIGN CHOICE, log 45). -/
def custodyFireStart (s : State) : State :=
  { s with custody :=
      { entries := (notExpected s.custody.entries).map suspendEntry,
        replies := ((expectedEntries s.custody.entries).map fireRefusal).foldl pushReply s.custody.replies,
        suspended := true } }

/-- Entry to NORMAL: the giver suspension flag is cleared and SUSPENDED entries resume (R140). -/
def custodyFireEnd (s : State) : State :=
  { s with custody :=
      { s.custody with entries := s.custody.entries.map resumeEntry, suspended := false } }

/-! ## The end of a wait -/

/-- Whether a peer update from an entry's peer ends its wait (R139). -/
def waitEnds (n : Nat) (kind : UpdateKind) (p : Peer) (e : CustodyEntry) : Bool :=
  e.state == .held && e.peer == some n && p.fresh &&
    (match e.wait with
     | .none => false
     | .fire => (p.fire.map fun f => f.fire) == some FireState.normal.code
     | .full => kind == .state && (match p.state with | some f => f.custody < Config.custodyMax | none => false))

/-- The re-offer checks of one peer update (R139). -/
def reofferChecks (n : Nat) (kind : UpdateKind) (p : Peer) (s : State) : State :=
  settleOffers (mapCustody (fun e => if waitEnds n kind p e then { e with wait := .none } else e) s)

end Sys2Proof.Machine
end

