-- ==== Sys2Proof/Machine/Holds.lean ====
section
/-! DEFINITION. The hold unit: the hold computation, the pause and the countdown (R152 to R164). -/

namespace Sys2Proof.Machine

/-! ## The computation -/

/-- The three values a hold is computed from (R153). -/
structure HoldClimate where
  tMin : Int
  tMax : Int
  rhMax : Nat
  deriving DecidableEq, Repr

/-- A case climate record is valid when its flag is set, its values lie in range and its minimum is not above its
maximum (R153). -/
def caseClimateValid (c : CaseClimate) : Bool :=
  c.valid && (-400 ≤ c.tMin && c.tMin ≤ 700) && (-400 ≤ c.tMax && c.tMax ≤ 700) && c.rhMax ≤ 1000 && c.tMin ≤ c.tMax

/-- The record a stored case climate record gives, if it is present and valid (R153). -/
def caseHoldClimate (c : Option CaseClimate) : Option HoldClimate :=
  match c with
  | some c => if caseClimateValid c then some { tMin := c.tMin, tMax := c.tMax, rhMax := c.rhMax } else none
  | none => none

/-- The record the fire episode gives: OPEN or CLOSED with at least one counted sample (R153). -/
def episodeHoldClimate (e : Episode) : Option HoldClimate :=
  if e.status = .none then none
  else if e.count = 0 then none
  else match e.extremes with
    | some x => some { tMin := x.tMin, tMax := x.tMax, rhMax := x.rhMax }
    | none => none

/-- The larger distance of the two extremes from the T reference, without sign (R154 step 2). -/
def holdDeltaT (cfg : Settings) (c : HoldClimate) : Nat :=
  max (c.tMax - cfg.tReference).natAbs (c.tMin - cfg.tReference).natAbs

/-- How far RHmax lies above the RH target (R154 step 2). -/
def holdDeltaH (cfg : Settings) (c : HoldClimate) : Nat := c.rhMax - cfg.rhTarget

/-- Tenths rounded up to a whole unit (R154 step 4). -/
def wholeUp (n : Nat) : Nat := (n + 9) / 10

/-- The raw hold (R154 step 4). -/
def rawHold (cfg : Settings) (c : HoldClimate) : Nat :=
  cfg.h0 + cfg.kt * wholeUp (holdDeltaT cfg c) + cfg.kh * wholeUp (holdDeltaH cfg c)

/-- The hold of a climate record, absent for an invalid one: Hmax, the quiet exemption, or the raw hold rounded up to
a multiple of 10 and clamped (R154). -/
def computeHold (cfg : Settings) (c : Option HoldClimate) : Nat :=
  match c with
  | none => cfg.hMax
  | some c =>
    if holdDeltaT cfg c ≤ 20 && holdDeltaH cfg c == 0 then 0
    else min cfg.hMax (wholeUp (rawHold cfg c) * 10)

/-- The quarantine flag of a case climate record (R155). -/
def caseQuarantine (cfg : Settings) (c : Option CaseClimate) : Bool :=
  match caseHoldClimate c with
  | some h => cfg.damageTHigh < h.tMax || h.tMin < cfg.damageTLow || cfg.damageRh < h.rhMax
  | none => false

/-- The post-fire hold, from the fire episode as it stands (R157). -/
def postFireHold (s : State) : Nat := computeHold s.cfg (episodeHoldClimate s.climate.episode)

/-! ## The countdown -/

/-- REPORT HOLD_DONE of a slot. -/
def holdDoneReport (sl : Slot) : Report := { kind := .holdDone, number := sl.number, tag := sl.tag.getD 0 }

/-- Whether a HOLD slot ends its hold at this expiry (R161). -/
def holdEnds (sl : Slot) : Bool := sl.state == .hold && sl.hold.getD 0 ≤ 1

/-- One minute taken from a slot in HOLD; at 0 it becomes OCCUPIED (R161, R96). -/
def countSlotDown (sl : Slot) : Slot :=
  if sl.state = .hold then
    (if sl.hold.getD 0 ≤ 1 then { sl with state := .occupied, hold := none }
     else { sl with hold := some (sl.hold.getD 0 - 1) })
  else sl

/-- The countdown of every HOLD slot, its reports in slot number order, and the timer reloaded (R160, R161). -/
def countHoldsDown (s : State) : State :=
  let ended := (s.scanner.slots.filter holdEnds).map holdDoneReport
  queueReports ended
    { s with scanner := { s.scanner with slots := s.scanner.slots.map countSlotDown },
             hold := { s.hold with seconds := Config.minuteSeconds } }

/-- The pause judged again at a notice or transition: an expiry that fell in the pause is taken when it ends (R160). -/
def judgePause (s : State) : State :=
  let now := pauseCondition s
  let t := { s with hold := { s.hold with paused := now } }
  if s.hold.paused && !now && s.hold.seconds == 0 then countHoldsDown t else t

/-! ## Commands -/

/-- MINUTE_TIMER_EXPIRY (R161). One that falls in the pause stops the timer at the moment of its expiry (R160). -/
def execMinuteTimerExpiry (s : State) : Host.Outcome State Fault Refusal :=
  runEvent (fun s => if s.hold.paused then { s with hold := { s.hold with seconds := 0 } } else countHoldsDown s) s

end Sys2Proof.Machine
end

