-- ==== Sys2Proof/Machine/Slots.lean ====
section
/-! DEFINITION. The slot table's own operations: finding and writing a slot, one tag per slot, and the requests that
other blocks send the slot scanner: pull, verification, await, return and revert (R79, R82, R83, R88, R89, R91, R92,
R95). -/

namespace Sys2Proof.Machine

/-- The record of a slot number, if the table has it (R79). -/
def findSlot (n : Nat) (s : State) : Option Slot := s.scanner.slots.find? fun sl => sl.number == n

/-- Every slot record changed. -/
def mapSlots (f : Slot → Slot) (s : State) : State :=
  { s with scanner := { s.scanner with slots := s.scanner.slots.map f } }

/-- The record of one slot number changed. -/
def updateSlot (n : Nat) (f : Slot → Slot) (s : State) : State :=
  mapSlots (fun sl => if sl.number = n then f sl else sl) s

/-- A slot loses the tag that another slot takes; an OUT slot becomes EMPTY with its number cleared (R83). -/
def loseTag (sl : Slot) : Slot :=
  if sl.state = .out then { sl with tag := none, state := .empty, consignment := none } else { sl with tag := none }

/-- A slot is given a tag, and any other slot that holds it loses it (R83); eight zero bytes stand for no tag. -/
def giveTag (n : Nat) (t : Tag) (s : State) : State :=
  mapSlots
    (fun sl =>
      if sl.number = n then { sl with tag := optTag t }
      else if sl.tag = some t then loseTag sl
      else sl)
    s

/-- A slot's tag as a report carries it, 0 when unknown. -/
def Slot.reportTag (sl : Slot) : Tag := sl.tag.getD 0

/-- Whether a pull request for a slot is taken: an absent tag of the entry equals no known tag (R88, R191). -/
def pullAllowed (t : Option Tag) (sl : Slot) : Bool := sl.state == .occupied && (sl.tag.isNone || sl.tag == t)

/-- The pull request: PULL_PENDING with the number recorded; absent when refused (R88). -/
def pullRequest (n : Nat) (t : Option Tag) (num : Nat) (s : State) : Option State :=
  match findSlot n s with
  | some sl =>
    if pullAllowed t sl then
      some (updateSlot n (fun sl => { sl with state := .pullPending, consignment := some num }) s)
    else none
  | none => none

/-- REPORT PULL_DONE. -/
def pullDoneReport (n : Nat) (t : Tag) (num : Option Nat) : Report :=
  { kind := .pullDone, number := n, tag := t, consignment := num.getD 0 }

/-- The verification request: a PULLED slot becomes OUT with the read tag; absent when refused (R89). -/
def verifyRequest (n : Nat) (t : Tag) (s : State) : Option State :=
  match findSlot n s with
  | some sl =>
    if sl.state = .pulled then
      some
        (queueReport (pullDoneReport n t sl.consignment)
          (giveTag n t (updateSlot n (fun sl => { sl with state := .out, window := none }) s)))
    else none
  | none => none

/-- The states in which another slot's tag stands in the way of an await request (R91). -/
def SlotState.blocksAwait (st : SlotState) : Bool :=
  match st with
  | .pullPending => true
  | .pulled => true
  | .returnPending => true
  | .occupied => true
  | .hold => true
  | .quarantine => true
  | _ => false

/-- Whether a slot holds a tag so that no other slot may await it; no slot holds an absent tag (R91, R191). -/
def holdsAgainstAwait (t : Option Tag) (sl : Slot) : Bool :=
  t.isSome && ((sl.state.blocksAwait && sl.tag == t) || (sl.state == .awaited && sl.expected == t))

/-- Whether a slot itself may await a tag: EMPTY, or OUT with that tag, which then is known (R91, R191). -/
def awaitAllowed (t : Option Tag) (sl : Slot) : Bool :=
  sl.state == .empty || (sl.state == .out && t.isSome && sl.tag == t)

/-- The await request: AWAITED with the expected tag and the number; absent when refused (R91). -/
def awaitRequest (n : Nat) (t : Option Tag) (num : Nat) (s : State) : Option State :=
  match findSlot n s with
  | some sl =>
    if awaitAllowed t sl && !s.scanner.slots.any (fun o => o.number != n && holdsAgainstAwait t o) then
      some (updateSlot n (fun sl => { sl with state := .awaited, expected := t, consignment := some num }) s)
    else none
  | none => none

/-- Whether a slot is AWAITED with a tag as its expected tag (R92, R141). -/
def awaits (t : Tag) (sl : Slot) : Bool := sl.state == .awaited && sl.expected == some t

/-- The return request: RETURN_PENDING with its tag and the return window; absent when refused (R92). -/
def returnRequest (n : Nat) (t : Tag) (s : State) : Option State :=
  match findSlot n s with
  | some sl =>
    if awaits t sl then
      some
        (giveTag n t
          (updateSlot n
            (fun sl => { sl with state := .returnPending, expected := none, window := some s.cfg.returnWindow }) s))
    else none
  | none => none

/-- An AWAITED slot that is no longer awaited: OUT if its tag is known, otherwise EMPTY (R95, R98). -/
def afterAwaited (sl : Slot) : SlotState := if sl.tag.isSome then .out else .empty

/-- The same for AWAITED kept as a prior state (R87, R98). -/
def priorAfterAwaited (sl : Slot) : PriorState := if sl.tag.isSome then .out else .empty

/-- REPORT PULL_UNVERIFIED. -/
def pullUnverifiedReport (n num : Nat) : Report := { kind := .pullUnverified, number := n, consignment := num }

/-- One slot that carries the number of a closing consignment (R95). -/
def revertSlot (num : Nat) (sl : Slot) : Slot :=
  if sl.consignment = some num then
    match sl.state with
    | .pullPending => { sl with state := .occupied, consignment := none }
    | .pulled => { sl with state := .unexpectedRemoval, window := none, consignment := none }
    | .awaited => { sl with state := afterAwaited sl, expected := none, consignment := none }
    | .unexpectedPresence .awaited =>
      { sl with state := .unexpectedPresence (priorAfterAwaited sl), expected := none, consignment := none }
    | _ => { sl with consignment := none }
  else sl

/-- The report a reverted slot gives (R95). -/
def revertReport (num : Nat) (sl : Slot) : Option Report :=
  if sl.consignment = some num && sl.state == .pulled then some (pullUnverifiedReport sl.number num) else none

/-- The revert request of a closing consignment (R95). The PULL_UNVERIFIED reports of several PULLED slots are queued in
slot number order, which R95 and R128 leave open (DESIGN CHOICE, log 49). -/
def revertRequest (num : Nat) (s : State) : State :=
  queueReports (s.scanner.slots.filterMap (revertReport num)) (mapSlots (revertSlot num) s)

end Sys2Proof.Machine
end

