-- ==== Sys2Proof/Machine/Verify.lean ====
section
/-! DEFINITION. The re-verification notice and the end of withholding at the input supervisor (R7, R9, R11, R12). -/

namespace Sys2Proof.Machine

/-- A verification begun or restarted by a notice: the full verify time for a detector that has one, else a count of 0
(R11). -/
def noticeVerification (i : InputNo) (s : State) : Verification :=
  if inputType i s = .detector ∧ s.cfg.verifyTime ≠ 0 then .timer s.cfg.verifyTime else .count 0

/-- A running verification restarted (R11). -/
def restartVerification (cfg : Settings) (v : Verification) : Verification :=
  match v with
  | .timer _ => .timer cfg.verifyTime
  | .count _ => .count 0

/-- An input in ALARM re-verified: UNSETTLED, no candidate, VERIFYING (R11). -/
def reverified (i : InputNo) (s : State) : InputRecord :=
  { settled := .unsettled, candidate := none, stage := .verifying (noticeVerification i s) }

/-- The record of an input after a re-verification notice that names it (R11). -/
def noticedRecord (i : InputNo) (s : State) : InputRecord :=
  let r := inputRecord i s
  if inputType i s = .abort then r
  else match r.stage with
    | .latched => if r.settled = .alarm then reverified i s else { r with stage := .ready }
    | .verifying v => { r with stage := .verifying (restartVerification s.cfg v) }
    | .ready => r
    | .withheld => r

/-- The re-verification notice for one input (R11). -/
def reverify (i : InputNo) (s : State) : State := setInput i (noticedRecord i s) s

/-- The re-verification notice for several inputs. -/
def reverifyAll (is : List InputNo) (s : State) : State := is.foldl (fun s i => reverify i s) s

/-- The record of an input at the end of STABILIZING (R12). -/
def releasedRecord (i : InputNo) (s : State) : InputRecord :=
  let r := inputRecord i s
  if r.stage = .withheld then (if r.settled = .alarm then reverified i s else { r with stage := .ready }) else r

/-- The end of STABILIZING at the input supervisor: withheld inputs are re-verified or made READY (R12). -/
def endWithholding (s : State) : State := allInputs.foldl (fun s i => setInput i (releasedRecord i s) s) s

end Sys2Proof.Machine
end

