-- ==== Sys2Proof/Machine/Fire.lean ====
section
/-! DEFINITION. The fire controller: the evaluation, the manual rule, the countdown, discharge, isolation, reset, test
mode and the sounder, with the fire episode that follows each move (R19 to R43, R62, R63). -/

namespace Sys2Proof.Machine

/-! ## The fire episode (R62, R63) -/

/-- A freshly opened episode (R62). -/
def openedEpisode : Episode := { status := .opened, extremes := none, count := 0, discharged := false }

/-- The episode after a move of the fire state: opened on entry to a raised state from NORMAL or STABILIZING, marked on
entry to DISCHARGED while it is OPEN (R62). -/
def episodeAfterMove (before after : FireState) (e : Episode) : Episode :=
  let opened := if (before = .normal ∨ before = .stabilizing) ∧ after.raised then openedEpisode else e
  if after = .discharged ∧ opened.status = .opened then { opened with discharged := true } else opened

/-- The episode closed with its fields kept (R63). -/
def closeEpisode (s : State) : State :=
  { s with climate := { s.climate with episode := { s.climate.episode with status := .closed } } }

/-! ## Moves -/

/-- A move to a state; the countdown and its timer go unless the state is PRE_DISCHARGE (R29), and the episode follows
(R42). -/
def moveFire (f : FireState) (s : State) : State :=
  { s with
    fire := { s.fire with state := f, countdown := if f = .preDischarge then s.fire.countdown else none },
    climate := { s.climate with episode := episodeAfterMove s.fire.state f s.climate.episode } }

/-- The manual flag written. -/
def setManual (b : Bool) (s : State) : State := { s with fire := { s.fire with manual := b } }

/-- The countdown remaining written (R29). -/
def setCountdown (n : Nat) (s : State) : State := { s with fire := { s.fire with countdown := some n } }

/-- Entry to PRE_DISCHARGE with a remaining and a manual flag (R27, R28, R32). -/
def enterPreDischarge (n : Nat) (manual : Bool) (s : State) : State :=
  setManual manual (setCountdown n (moveFire .preDischarge s))

/-- The release pulse begins where the station is armed (R34). -/
def startRelease (s : State) : State :=
  if armed s then { s with fire := { s.fire with releasePulse := some s.cfg.releasePulse } } else s

/-- Entry to DISCHARGED (R33, R34). -/
def enterDischarged (s : State) : State := startRelease (moveFire .discharged s)

/-! ## The evaluation (R24) -/

/-- Confirmation entry (R27). -/
def confirmationEntry (s : State) : State :=
  if !armed s then setManual false (moveFire .confirmed s)
  else if abortActive s then setManual false (moveFire .held s)
  else enterPreDischarge ((lowestCountdown s).getD s.cfg.preDischargeDelay) false s

/-- The end of the stabilization period: the timer goes, withheld inputs are re-verified or made READY, and the output
drivers report what they held back (R25). -/
def endStabilization (s : State) : State :=
  settleTroubles (endWithholding { s with fire := { s.fire with stabTimer := none } })

/-- The manual rule's entry: the countdown at the manual delay, or DISCHARGED at once when it is 0 (R28). -/
def manualEntry (s : State) : State :=
  if s.cfg.manualDelay = 0 then setManual true (enterDischarged s) else enterPreDischarge s.cfg.manualDelay true s

/-- The manual rule in PRE_DISCHARGE at an armed station: the flag, and the lower of remaining and delay (R28). -/
def manualShorten (s : State) : State :=
  if s.cfg.manualDelay = 0 then setManual true (enterDischarged s)
  else setManual true (setCountdown (min (s.fire.countdown.getD s.cfg.manualDelay) s.cfg.manualDelay) s)

/-- The manual rule (R28). Moved out of STABILIZING, the period ends (R25). -/
def manualRule (s : State) : State :=
  match s.fire.state with
  | .stabilizing => endStabilization (if armed s then manualEntry s else moveFire .confirmed s)
  | .normal => if armed s then manualEntry s else moveFire .confirmed s
  | .alert => if armed s then manualEntry s else moveFire .confirmed s
  | .confirmed => if armed s then manualEntry s else s
  | .held => if armed s then manualEntry s else moveFire .confirmed s
  | .preDischarge => if armed s then manualShorten s else s
  | .discharged => s
  | .test => s

/-- The fire evaluation: at most one transition, by the current state (R24). -/
def evaluateFire (s : State) : State :=
  match s.fire.state with
  | .normal =>
    if confirmationCondition s then confirmationEntry s
    else if alertCondition s then moveFire .alert s
    else s
  | .alert => if confirmationCondition s then confirmationEntry s else s
  | .confirmed =>
    if armed s && manualLatched s then manualRule s
    else if armed s && confirmationCondition s then confirmationEntry s
    else s
  | .preDischarge => if abortActive s && !s.fire.manual then moveFire .held s else s
  | .held => if !abortActive s then enterPreDischarge s.cfg.abortRestart false s else s
  | .stabilizing => s
  | .discharged => s
  | .test => s

/-! ## The sounder (R41) -/

/-- The on and off times of a state's cadence in milliseconds, absent where it has none (R41). -/
def cadenceTimes (f : FireState) : Option (Nat × Nat) :=
  match f with
  | .alert => some (1000, 1000)
  | .confirmed => some (250, 250)
  | .preDischarge => some (250, 250)
  | .held => some (500, 1500)
  | _ => none

/-- The cadence of a state started with its on phase (R41). -/
def startCadence (f : FireState) : Option Cadence :=
  (cadenceTimes f).map fun t => { phaseOn := true, reloadMs := t.1 }

/-- The cadence at an expiry of its reload timer: the other phase (R41). -/
def toggleCadence (f : FireState) (c : Cadence) : Option Cadence :=
  (cadenceTimes f).map fun t => { phaseOn := !c.phaseOn, reloadMs := if c.phaseOn then t.2 else t.1 }

/-- The silence level after entry into a state: absent when the state is higher (R37). -/
def silenceAfter (f : FireState) (level : Option FireState) : Option FireState :=
  match level with
  | some l => if l.level < f.level then none else some l
  | none => none

/-! ## What the other blocks are given (R42) -/

/-- The handover engine at a transition (R140, R143). -/
def custodyAfterMove (s : State) : State :=
  if s.fire.state.blocksHandover then custodyFireStart s
  else if s.fire.state = .normal then custodyFireEnd s
  else s

/-- The sounder at a transition (R37, R41). -/
def sounderAfterMove (s : State) : State :=
  let level := silenceAfter s.fire.state s.fire.silence
  { s with fire :=
      { s.fire with silence := level, cadence := if level.isSome then none else startCadence s.fire.state } }

/-- The end of an event that reached the fire controller: the outputs and the other blocks are given the state at the
end of the event, if it differs from the one before it (R42). -/
def settleFire (before : FireRecord) (s : State) : State :=
  if s.fire.state = before.state then
    (if before.silence.isSome && s.fire.silence.isNone then sounderAfterMove s else s)
  else judgePause (custodyAfterMove (reevaluateForced (sounderAfterMove s)))

/-- An event at the fire controller. -/
def fireEvent (effect : State → State) (s : State) : State := settleFire s.fire (effect s)

/-! ## Indications (R20, R21, R39) -/

/-- REPORT TEST_ALARM and a test pulse (R39). -/
def testAlarm (i : InputNo) (s : State) : State :=
  queueReport { kind := .testAlarm, number := i.val + 1 }
    { s with fire := { s.fire with testPulse := some Config.testPulseSeconds } }

/-- The states from which an own PRESSURE alarm discharges (R33). -/
def FireState.pressureDischarges (f : FireState) : Bool :=
  match f with
  | .normal => true
  | .alert => true
  | .confirmed => true
  | .preDischarge => true
  | .held => true
  | _ => false

/-- What a FIRE latch just given does, by the input's type (R20). -/
def actOnAlarm (i : InputNo) (s : State) : State :=
  match inputType i s with
  | .detector => evaluateFire s
  | .manualRelease => manualRule s
  | .pressure => if s.fire.state.pressureDischarges then enterDischarged s else s
  | .abort => s
  | .unused => s

/-- The indication alarm verified (R20, R39). -/
def alarmVerified (i : InputNo) (s : State) : State :=
  fireEvent
    (fun s =>
      if s.fire.state = .test then testAlarm i (setLatch i (.test Config.testLatchSeconds) s)
      else actOnAlarm i (setLatch i .fire s))
    s

/-- The set of own abort inputs with one more (R19). -/
def insertAbort (i : InputNo) (l : List InputNo) : List InputNo := if l.contains i then l else l ++ [i]

/-- The set of own abort inputs written. -/
def withAborts (l : List InputNo) (s : State) : State := { s with fire := { s.fire with ownAbort := l } }

/-- The indication abort on (R21, R39). -/
def abortOn (i : InputNo) (s : State) : State :=
  fireEvent
    (fun s =>
      let t := withAborts (insertAbort i s.fire.ownAbort) s
      evaluateFire (if s.fire.state = .test then testAlarm i t else t))
    s

/-- The indication abort off (R21). -/
def abortOff (i : InputNo) (s : State) : State :=
  fireEvent
    (fun s => evaluateFire (withAborts (s.fire.ownAbort.filter fun j => j != i) s)) s

/-! ## Peer updates (R22, R30, R33, R40) -/

/-- The end of TEST (R40). -/
def endTest (s : State) : State :=
  let held := allInputs.filter fun i => match latchOf i s with
    | .test _ => true
    | _ => false
  let s := held.foldl (fun s i => setLatch i Latch.none s) s
  let s := reverifyAll held s
  let s := { s with fire := { s.fire with testTimer := none, testPulse := none } }
  evaluateFire (moveFire .normal s)

/-- A peer update is a DISCHARGED edge (R22). -/
def dischargedEdge (earlier : Option PeerFire) (now : PeerFire) : Bool :=
  now.fire == FireState.discharged.code && (earlier.map fun f => f.fire) != some FireState.discharged.code

/-- The states that a DISCHARGED edge takes to DISCHARGED (R33). -/
def FireState.followsEdge (f : FireState) : Bool :=
  match f with
  | .alert => true
  | .confirmed => true
  | .preDischarge => true
  | .held => true
  | _ => false

/-- Adoption of a lower countdown (R30). -/
def adopt (p : PeerFire) (s : State) : State :=
  match s.fire.countdown with
  | some r =>
    if s.fire.state = .preDischarge ∧ p.fire = FireState.preDischarge.code ∧ peerCountdown p < r then
      setCountdown (peerCountdown p) s
    else s
  | none => s

/-- A peer update from a fresh same-space peer, before the evaluation it starts. -/
def samePeerUpdate (earlier : Option PeerFire) (now : PeerFire) (s : State) : State :=
  if dischargedEdge earlier now && s.fire.state.followsEdge then enterDischarged s else adopt now s

/-- A peer update at the fire controller: the entry before the frame and after it (R22). -/
def firePeerUpdate (before after : Peer) (s : State) : State :=
  fireEvent
    (fun s =>
      match sameSpaceFields s.cfg.spaceGroup after with
      | some now =>
        if s.fire.state = .test then
          (if now.fire = FireState.preDischarge.code ∨ now.fire = FireState.discharged.code then endTest s else s)
        else evaluateFire (samePeerUpdate before.fire now s)
      | none => evaluateFire s)
    s

/-- A staleness notice at the fire controller (R22). -/
def fireStale (s : State) : State := fireEvent evaluateFire s

/-! ## Console commands on the fire controller -/

/-- A FIRE latch removed; a TEST latch stays. -/
def Latch.afterReset (l : Latch) : Latch :=
  match l with
  | .fire => .none
  | l => l

/-- The post-fire hold of one slot at a reset out of DISCHARGED (R158, R96). -/
def holdAfterFire (hold : Nat) (sl : Slot) : Slot :=
  if sl.state = .occupied ∨ sl.state = .hold then
    (if max (sl.hold.getD 0) hold = 0 then { sl with state := .occupied, hold := none }
     else { sl with state := .hold, hold := some (max (sl.hold.getD 0) hold) })
  else sl

/-- The post-fire holds of a reset (R158). -/
def applyPostFireHolds (s : State) : State := mapSlots (holdAfterFire (postFireHold s)) s

/-- The states in which FIRE_RESET is accepted (R36). -/
def FireState.resettable (f : FireState) : Bool :=
  match f with
  | .normal => true
  | .alert => true
  | .confirmed => true
  | .held => true
  | .discharged => true
  | _ => false

/-- What FIRE_RESET clears in the fire record (R36). -/
def clearForReset (s : State) : State :=
  { s with fire :=
      { s.fire with releasePulse := none, latches := s.fire.latches.map Latch.afterReset, manual := false,
                    silence := none } }

/-- FIRE_RESET accepted (R36, R63, R158). -/
def acceptReset (s : State) : State :=
  let t := reverifyAll allInputs (clearForReset s)
  let t := if s.fire.state.raised then closeEpisode t else t
  let t := if s.fire.state = .discharged then applyPostFireHolds t else t
  evaluateFire (moveFire .normal t)

/-- FIRE_RESET (R36). -/
def fireReset (s : State) : State :=
  if s.fire.state.resettable then fireEvent acceptReset s else refuseCommand codeFireReset 0 0 s

/-- The states in which SILENCE is accepted (R37). -/
def FireState.silenceable (f : FireState) : Bool :=
  match f with
  | .alert => true
  | .confirmed => true
  | .held => true
  | _ => false

/-- SILENCE (R37). -/
def silenceCommand (s : State) : State :=
  if s.fire.state.silenceable then
    { s with fire := { s.fire with silence := some s.fire.state, cadence := none } }
  else refuseCommand codeSilence 0 0 s

/-- TEST_START (R38). -/
def testStart (s : State) : State :=
  if s.fire.state = .normal then
    fireEvent (fun s =>
      moveFire .test { s with fire := { s.fire with testTimer := some Config.testSeconds } }) s
  else refuseCommand codeTestStart 0 0 s

/-- TEST_END (R40). -/
def testEnd (s : State) : State :=
  if s.fire.state = .test then fireEvent endTest s else refuseCommand codeTestEnd 0 0 s

/-- The isolation written, with its trouble (R23). -/
def setIsolation (b : Bool) (s : State) : State :=
  setTrouble .releaseIsolated b { s with fire := { s.fire with isolated := b } }

/-- ISOLATE_ON on the fire state, before the evaluation (R35). -/
def isolateState (s : State) : State :=
  match s.fire.state with
  | .preDischarge => setManual false (moveFire .confirmed s)
  | .held => setManual false (moveFire .confirmed s)
  | .discharged => { s with fire := { s.fire with releasePulse := none } }
  | _ => s

/-- ISOLATE_ON (R35). -/
def isolateOn (s : State) : State :=
  if s.fire.isolated then s else fireEvent (fun s => evaluateFire (isolateState (setIsolation true s))) s

/-- ISOLATE_OFF (R35). -/
def isolateOff (s : State) : State :=
  if s.fire.isolated then fireEvent (fun s => evaluateFire (setIsolation false s)) s else s

/-! ## Timers -/

/-- STABILIZATION_TIMER_EXPIRY (R25). -/
def stabilizationOver (s : State) : State :=
  if s.fire.stabTimer.isSome && s.fire.state == .stabilizing then
    fireEvent (fun s => evaluateFire (endStabilization (moveFire .normal s))) s
  else s

def execStabilizationTimerExpiry (s : State) : Host.Outcome State Fault Refusal := runEvent stabilizationOver s

/-- COUNTDOWN_EXPIRY (R29). -/
def countdownOver (s : State) : State :=
  match s.fire.state, s.fire.countdown with
  | .preDischarge, some r => if r ≤ 1 then fireEvent enterDischarged s else setCountdown (r - 1) s
  | _, _ => s

def execCountdownExpiry (s : State) : Host.Outcome State Fault Refusal := runEvent countdownOver s

/-- RELEASE_PULSE_EXPIRY (R34). -/
def releasePulseOver (s : State) : State := { s with fire := { s.fire with releasePulse := none } }

def execReleasePulseExpiry (s : State) : Host.Outcome State Fault Refusal := runEvent releasePulseOver s

/-- TEST_TIMER_EXPIRY (R40). -/
def testTimerOver (s : State) : State :=
  if s.fire.testTimer.isSome && s.fire.state == .test then fireEvent endTest s else s

def execTestTimerExpiry (s : State) : Host.Outcome State Fault Refusal := runEvent testTimerOver s

/-- TEST_LATCH_CLEAR_EXPIRY (R39). -/
def testLatchOver (i : InputNo) (s : State) : State :=
  match latchOf i s with
  | .test _ => reverify i (setLatch i Latch.none s)
  | _ => s

def execTestLatchClearExpiry (input : InputNo) (s : State) : Host.Outcome State Fault Refusal :=
  runEvent (testLatchOver input) s

/-- TEST_PULSE_END (R39). -/
def testPulseOver (s : State) : State := { s with fire := { s.fire with testPulse := none } }

def execTestPulseEnd (s : State) : Host.Outcome State Fault Refusal := runEvent testPulseOver s

/-- SOUNDER_CADENCE_EXPIRY (R41). -/
def cadenceOver (s : State) : State :=
  match s.fire.cadence with
  | some c => { s with fire := { s.fire with cadence := toggleCadence s.fire.state c } }
  | none => s

def execSounderCadenceExpiry (s : State) : Host.Outcome State Fault Refusal := runEvent cadenceOver s

end Sys2Proof.Machine
end

