-- ==== Sys2Proof/Machine/Climate.lean ====
section
/-! DEFINITION. The climate unit: from codes to probe values, combining, troubles, excursions, the history, the episode's
samples and the notices (R47 to R62). -/

namespace Sys2Proof.Machine

/-! ## From codes to probe values -/

/-- The average code of a channel (R47). -/
def averageCode (n sum : Nat) : Nat := if n = 0 then sum else (sum + 2 ^ (n - 1)) / 2 ^ n

/-- A channel with a code at an end of the range (R48). -/
def channelFaulted (c : Channel) : Bool := c.low ≤ 8 || 4087 ≤ c.high

/-- The humidity of an average code (R49). -/
def humidityOf (a : Nat) : Nat := (a * 1000 + 2047) / 4095

/-- The temperature of an average code (R49). -/
def temperatureOf (a : Nat) : Int := ((a * 1100 + 2047) / 4095 : Nat) - 400

/-- A probe's humidity and temperature, absent when it is faulted (R48, R49). -/
def probeValue (n : Nat) (rh t : Channel) : Option Bay :=
  if channelFaulted rh || channelFaulted t then none
  else some { rh := humidityOf (averageCode n rh.sum), t := temperatureOf (averageCode n t.sum) }

/-! ## Combining (R50) -/

/-- Two probes agree (R50). -/
def probesAgree (cfg : Settings) (a b : Bay) : Bool :=
  (a.rh - b.rh) + (b.rh - a.rh) ≤ cfg.rhAgree && (a.t - b.t).natAbs ≤ cfg.tAgree

/-- The bay values of two agreeing probes, each half rounded down (R50). -/
def meanBay (a b : Bay) : Bay := { rh := (a.rh + b.rh) / 2, t := Int.fdiv (a.t + b.t) 2 }

/-- The bay values and the climate state that a sample with a good probe gives; absent when both are faulted (R50). -/
def combine (cfg : Settings) (a b : Option Bay) : Option (Bay × ClimateState) :=
  match a, b with
  | some a, some b =>
    if probesAgree cfg a b then some (meanBay a b, .active)
    else some (if a.rh < b.rh then b else a, .degraded)
  | some a, none => some (a, .degraded)
  | none, some b => some (b, .degraded)
  | none, none => none

/-- The climate record's state, bay values and hold timer after a sample with both probes faulted (R51). -/
def bothFaulted (cfg : Settings) (c : ClimateRecord) : ClimateRecord :=
  match c.state with
  | .active => { c with state := .holding, holdTimer := some cfg.climateHoldLimit }
  | .degraded => { c with state := .holding, holdTimer := some cfg.climateHoldLimit }
  | .holding => c
  | .lost => c
  | .starting => { c with state := .lost, bay := none }

/-- The climate record after a sample is combined (R50, R51). -/
def combined (cfg : Settings) (a b : Option Bay) (c : ClimateRecord) : ClimateRecord :=
  match combine cfg a b with
  | some (bay, st) => { c with state := st, bay := some bay, holdTimer := none }
  | none => bothFaulted cfg c

/-- Both probes good and not agreeing (R52). -/
def probesDisagree (cfg : Settings) (a b : Option Bay) : Bool :=
  match a, b with
  | some a, some b => !probesAgree cfg a b
  | _, _ => false

/-- The troubles a sample sets and clears (R52). -/
def sampleTroubles (a b : Option Bay) (s : State) : State :=
  setTrouble .climateLost (s.climate.state == .lost)
    (setTrouble .probeDisagree (probesDisagree s.cfg a b)
      (setTrouble .probeFault (a.isNone || b.isNone) s))

/-! ## Excursions (R55 to R58) -/

/-- Out of band (R55). -/
def outOfBand (cfg : Settings) (b : Bay) : Bool :=
  cfg.rhHigh ≤ b.rh || b.rh ≤ cfg.rhLow || cfg.tHigh ≤ b.t || b.t ≤ cfg.tLow

/-- Well in band (R55). -/
def wellInBand (cfg : Settings) (b : Bay) : Bool :=
  b.rh + 20 ≤ cfg.rhHigh && cfg.rhLow + 20 ≤ b.rh && b.t + 20 ≤ cfg.tHigh && cfg.tLow + 20 ≤ b.t

/-- The excursion state and its timer written. -/
def setExcursion (e : ExcursionState) (timer : Option Nat) (s : State) : State :=
  { s with climate := { s.climate with excursion := e, excursionTimer := timer } }

/-- REPORT EXCURSION_START or EXCURSION_END with the bay values. -/
def excursionReport (k : ReportKind) (b : Bay) : Report := { kind := k, value1 := (b.rh : Int), value2 := b.t }

/-- The delay begins: PENDING with its timer, or EXCURSION at once when the delay is 0 (R56, R57, R58). -/
def beginDelay (b : Bay) (s : State) : State :=
  if s.cfg.excursionDelay = 0 then queueReport (excursionReport .excursionStart b) (setExcursion .excursion none s)
  else setExcursion .pending (some s.cfg.excursionDelay) s

/-- The evaluation of the excursion state on a sample's bay values; `leftLost` for a sample that left LOST
(R56, R58). -/
def judgeExcursion (leftLost : Bool) (b : Bay) (s : State) : State :=
  match s.climate.excursion with
  | .inBand => if outOfBand s.cfg b then beginDelay b s else s
  | .pending =>
    if outOfBand s.cfg b then (if leftLost then beginDelay b s else s) else setExcursion .inBand none s
  | .excursion =>
    if wellInBand s.cfg b then
      queueReport (excursionReport .excursionEnd b) (setExcursion .inBand none s)
    else s

/-- The excursion part of a sample: frozen in LOST (R56, R58). -/
def sampleExcursion (before : ClimateState) (s : State) : State :=
  match s.climate.state, s.climate.bay with
  | .lost, _ => setExcursion s.climate.excursion none s
  | _, some b => judgeExcursion (before == .lost) b s
  | _, none => s

/-! ## The history (R59 to R61) -/

/-- The history record of a sample (R59). -/
def sampleRecord (s : State) : HistoryRecord :=
  { stamp := s.uptime, bay := s.climate.bay, climate := s.climate.state, running := s.allot.running,
    fireRaised := s.fire.state.raised, excursion := s.climate.excursion }

/-- Bay values that differ by at least the deadband, compared only when both records have them (R60). -/
def beyondDeadband (d : Nat) (a b : Option Bay) : Bool :=
  match a, b with
  | some a, some b => d ≤ ((a.rh : Int) - (b.rh : Int)).natAbs || d ≤ (a.t - b.t).natAbs
  | _, _ => false

/-- The policy CHANGE (R60). -/
def changed (d : Nat) (last : Option HistoryRecord) (r : HistoryRecord) : Bool :=
  match last with
  | some l => r.climate != l.climate || beyondDeadband d r.bay l.bay
  | none => true

/-- Whether a sample's record is stored (R60). -/
def storeRecord (s : State) (before : ExcursionState) (r : HistoryRecord) : Bool :=
  !s.climate.storedSinceStart ||
    (match s.cfg.policy with
     | .every => true
     | .change => changed s.cfg.deadband s.climate.history.getLast? r
     | .excursion => r.excursion != .inBand || before != .inBand)

/-- The ring with one more record; a full ring loses its oldest (R61). -/
def pushHistory (h : List HistoryRecord) (r : HistoryRecord) : List HistoryRecord :=
  if h.length < Config.historyMax then h ++ [r] else h.tail ++ [r]

/-- The history part of a sample (R59, R60). -/
def sampleHistory (before : ExcursionState) (s : State) : State :=
  let r := sampleRecord s
  if storeRecord s before r then
    { s with climate := { s.climate with history := pushHistory s.climate.history r, storedSinceStart := true } }
  else s

/-! ## The episode (R62) -/

/-- The extremes with one more sample (R62). -/
def widen (x : Option Extremes) (b : Bay) : Extremes :=
  match x with
  | some x => { tMin := min x.tMin b.t, tMax := max x.tMax b.t, rhMax := max x.rhMax b.rh }
  | none => { tMin := b.t, tMax := b.t, rhMax := b.rh }

/-- An OPEN episode takes a sample that leaves the bay values present (R62). -/
def countSample (bay : Option Bay) (e : Episode) : Episode :=
  match bay with
  | some b =>
    if e.status = .opened then
      { e with extremes := some (widen e.extremes b), count := min Config.episodeCountMax (e.count + 1) }
    else e
  | none => e

/-- The episode part of a sample (R62). -/
def sampleEpisode (s : State) : State :=
  { s with climate := { s.climate with episode := countSample s.climate.bay s.climate.episode } }

/-! ## A climate sample -/

/-- The notices of a sample (R54): first the state change (R51), which the hold unit's pause and the forced-off
condition are judged on, then the sample-taken notice to the allotter (DEDUCED, log 36). -/
def sampleNotices (s : State) : State := allotSampleTaken (judgePause s)

/-- A climate sample, in the order of R54: the history record is made before the sample-taken notice (R59). That it
is made before the state change notice for leaving STARTING or LOST as well, whose end of forcing may start the
dehumidifier (R69), R54 and R59 leave open (DESIGN CHOICE, log 51). -/
def takeSample (a b : Option Bay) (s : State) : State :=
  let before := s.climate
  let s := sampleTroubles a b { s with climate := combined s.cfg a b s.climate }
  let s := sampleExcursion before.state s
  let s := sampleHistory before.excursion s
  sampleNotices (sampleEpisode s)

/-- A sequence result handed over (R47 to R49). -/
def takeResult (n : Nat) (q : Sequence) (s : State) : State :=
  takeSample (probeValue n q.rhA q.tA) (probeValue n q.rhB q.tB) s

/-! ## Timers -/

/-- CLIMATE_HOLD_TIMER_EXPIRY: entry to LOST (R51, R53, R58). -/
def climateHoldOver (s : State) : State :=
  if s.climate.holdTimer.isSome then
    let t := { s with climate :=
      { s.climate with state := .lost, bay := none, holdTimer := none, excursionTimer := none } }
    judgePause (reevaluateForced (setTrouble .climateLost true t))
  else s

def execClimateHoldTimerExpiry (s : State) : Host.Outcome State Fault Refusal := runEvent climateHoldOver s

/-- The bay values as a report carries them. -/
def bayOrZero (b : Option Bay) : Bay := b.getD { rh := 0, t := 0 }

/-- EXCURSION_DELAY_EXPIRY (R57). -/
def excursionDelayOver (s : State) : State :=
  if s.climate.excursionTimer.isSome then
    judgePause
      (queueReport (excursionReport .excursionStart (bayOrZero s.climate.bay)) (setExcursion .excursion none s))
  else s

def execExcursionDelayExpiry (s : State) : Host.Outcome State Fault Refusal := runEvent excursionDelayOver s

end Sys2Proof.Machine
end

