-- ==== Sys2Proof/Machine/Inputs.lean ====
section
/-! DEFINITION. The input supervisor: bands, settling, verification, the release circuit check, the converter arbiter and
the climate sample sequences (R1 to R16). -/

namespace Sys2Proof.Machine

/-! ## Bands (R4) -/

/-- The plain band of a code. -/
def plainBand (c : Code) : Band :=
  if c.toNat < 400 then .openBand else if c.toNat < 1600 then .normal else if c.toNat < 3400 then .alarm else .short

/-- Whether a code leaves a settled band (R4). -/
def leavesBand (b : Band) (c : Code) : Bool :=
  match b with
  | .unsettled => true
  | .openBand => 464 ≤ c.toNat
  | .normal => c.toNat ≤ 336 || 1664 ≤ c.toNat
  | .alarm => c.toNat ≤ 1536 || 3464 ≤ c.toNat
  | .short => c.toNat ≤ 3336

/-- The scan band of a code at an input settled in a band (R4). -/
def scanBand (b : Band) (c : Code) : Band := if leavesBand b c then plainBand c else b

/-! ## Settling and verification (R5 to R10) -/

/-- The troubles of an input that has settled in a band (R6). -/
def bandTroubles (i : InputNo) (b : Band) (s : State) : State :=
  setTrouble (.inputShort i) (b == .short) (setTrouble (.inputOpen i) (b == .openBand) s)

/-- An input settles in a band by agreement; an ABORT input that leaves ALARM gives abort off (R5, R6, R10). -/
def settleBand (i : InputNo) (b : Band) (s : State) : State :=
  let r := inputRecord i s
  let t := bandTroubles i b (setInput i { r with settled := b, candidate := none } s)
  if inputType i s = .abort ∧ r.settled = .alarm ∧ b ≠ .alarm then abortOff i t else t

/-- A verification begun by a scan (R7, R9). -/
def scanVerification (i : InputNo) (s : State) : Verification :=
  if inputType i s = .detector ∧ s.cfg.verifyTime ≠ 0 then .timer s.cfg.verifyTime else .count 1

/-- A code judged outside verification, in the order of R5. -/
def judgeSettled (i : InputNo) (c : Code) (s : State) : State :=
  let r := inputRecord i s
  let b := scanBand r.settled c
  if b = r.settled then setInput i { r with candidate := none } s
  else if b = .alarm ∧ r.stage = .ready then
    setInput i { r with candidate := none, stage := .verifying (scanVerification i s) } s
  else if r.candidate = some b then settleBand i b s
  else setInput i { r with candidate := some b } s

/-- An alarm verified: ALARM settles, the stage follows the type, and the indication is given (R7, R9, R10). -/
def verified (i : InputNo) (s : State) : State :=
  let stage := if inputType i s = .abort then Stage.ready else Stage.latched
  let t := bandTroubles i .alarm (setInput i { settled := .alarm, candidate := none, stage := stage } s)
  if inputType i s = .abort then abortOn i t else alarmVerified i t

/-- REPORT UNVERIFIED_ALARM. -/
def unverifiedReport (i : InputNo) : Report := { kind := .unverifiedAlarm, number := i.val + 1 }

/-- A verification ends unverified, and the code is judged again outside verification (R8, R9). -/
def unverified (i : InputNo) (c : Code) (s : State) : State :=
  let t := setInput i { inputRecord i s with stage := .ready } s
  judgeSettled i c (if inputType i s = .detector then queueReport (unverifiedReport i) t else t)

/-- A code that gives ALARM during verification (R7, R9). -/
def continueVerification (i : InputNo) (v : Verification) (s : State) : State :=
  match v with
  | .timer _ => s
  | .count n =>
    if n = 0 then setInput i { inputRecord i s with stage := .verifying (.count 1) } s else verified i s

/-- The judgement of one code (R4, R5, R7 to R9). -/
def judgeCode (i : InputNo) (c : Code) (s : State) : State :=
  match (inputRecord i s).stage with
  | .verifying v => if scanBand .alarm c = .alarm then continueVerification i v s else unverified i c s
  | _ => judgeSettled i c s

/-! ## Release circuit supervision (R13) -/

/-- The two counts after a check, and the trouble they set or clear (R13). -/
def countCheck (c : CircuitCheck) (s : State) : State :=
  match c with
  | .good =>
    let n := min 2 (s.sup.goodChecks + 1)
    let t := { s with sup := { s.sup with goodChecks := n, badChecks := 0 } }
    if n = 2 then setTrouble .releaseCircuit false t else t
  | _ =>
    let n := min 2 (s.sup.badChecks + 1)
    let t := { s with sup := { s.sup with badChecks := n, goodChecks := 0 } }
    if n = 2 then setTrouble .releaseCircuit true t else t

/-- The release circuit check of one expiry: taken while RELEASE is off and release is enabled (R13). -/
def releaseCheck (c : CircuitCheck) (s : State) : State :=
  if !releaseOn s && s.cfg.releaseEnabled then countCheck c s else s

/-! ## The arbiter (R3, R14) -/

/-- What the converter converts, written. -/
def setConv (c : Converting) (s : State) : State := { s with sup := { s.sup with conv := c } }

/-- The first used input at or after an index (R3). -/
def usedFrom (k : Nat) (s : State) : Option InputNo :=
  allInputs.find? fun i => k ≤ i.val && inputType i s != .unused

/-- The next probe conversion of a sequence in progress, or idle (R14). -/
def probeOrIdle (s : State) : State := setConv (if s.sup.seq.isSome then .probe else .idle) s

/-- The arbiter with no scan in progress: a pending scan, then a sequence, then idle (R14). -/
def beginNext (s : State) : State :=
  if s.sup.scanPending then
    let t := { s with sup := { s.sup with scanPending := false } }
    match usedFrom 0 s with
    | some i => setConv (.input i) t
    | none => probeOrIdle t
  else probeOrIdle s

/-- The arbiter after a supervised conversion: the scan's next input, else as with no scan in progress (R14). -/
def continueScan (i : InputNo) (s : State) : State :=
  match usedFrom (i.val + 1) s with
  | some j => setConv (.input j) s
  | none => beginNext s

/-- The arbiter where something becomes ready: it acts only on an idle converter (R14). -/
def wakeArbiter (s : State) : State := if s.sup.conv = .idle then beginNext s else s

/-! ## Sequences (R15, R16) -/

/-- A channel before its first code. -/
def Channel.fresh : Channel := { sum := 0, low := 4095, high := 0 }

/-- A sequence before its first conversion (R15). -/
def Sequence.fresh : Sequence :=
  { done := 0, rhA := Channel.fresh, tA := Channel.fresh, rhB := Channel.fresh, tB := Channel.fresh }

/-- A code added to a channel (R15). -/
def Channel.add (c : Channel) (code : Code) : Channel :=
  { sum := c.sum + code.toNat, low := min c.low code.toNat, high := max c.high code.toNat }

/-- A code added to the sequence, in rounds of RH-A, T-A, RH-B, T-B (R15). -/
def Sequence.add (q : Sequence) (code : Code) : Sequence :=
  match q.channel with
  | 0 => { q with done := q.done + 1, rhA := q.rhA.add code }
  | 1 => { q with done := q.done + 1, tA := q.tA.add code }
  | 2 => { q with done := q.done + 1, rhB := q.rhB.add code }
  | _ => { q with done := q.done + 1, tB := q.tB.add code }

/-- A sequence starts (R15, R16). -/
def startSequence (s : State) : State := { s with sup := { s.sup with seq := some Sequence.fresh } }

/-- What follows a completed sequence: an owed one starts at once (R16). -/
def afterSequence (s : State) : State :=
  if s.sup.owed = 0 then s
  else
    let t := startSequence { s with sup := { s.sup with owed := s.sup.owed - 1 } }
    if t.sup.owed = 0 then setTrouble .climateStarved false t else t

/-- One probe conversion added; the last one completes the sequence (R15, R16). -/
def addProbeCode (code : Code) (q : Sequence) (s : State) : State :=
  let q := q.add code
  if 4 * 2 ^ s.cfg.averaging ≤ q.done then
    afterSequence (takeResult s.cfg.averaging q { s with sup := { s.sup with seq := none } })
  else { s with sup := { s.sup with seq := some q } }

/-! ## Commands -/

/-- SCAN_TIMER_EXPIRY (R3, R13, R14). -/
def scanTimerOver (c : CircuitCheck) (s : State) : State :=
  wakeArbiter (releaseCheck c { s with sup := { s.sup with scanPending := true } })

def execScanTimerExpiry (check : CircuitCheck) (s : State) : Host.Outcome State Fault Refusal :=
  runEvent (scanTimerOver check) s

/-- INPUT_CONVERSION_END (R3 to R10, R14). -/
def inputConverted (c : Code) (s : State) : State :=
  match s.sup.conv with
  | .input i => continueScan i (judgeCode i c s)
  | _ => s

def execInputConversionEnd (code : Code) (s : State) : Host.Outcome State Fault Refusal :=
  runEvent (inputConverted code) s

/-- PROBE_CONVERSION_END (R14 to R16). -/
def probeConverted (c : Code) (s : State) : State :=
  match s.sup.conv, s.sup.seq with
  | .probe, some q => beginNext (addProbeCode c q s)
  | _, _ => s

def execProbeConversionEnd (code : Code) (s : State) : Host.Outcome State Fault Refusal :=
  runEvent (probeConverted code) s

/-- VERIFY_TIMER_EXPIRY (R7). -/
def verifyOver (i : InputNo) (s : State) : State :=
  match (inputRecord i s).stage with
  | .verifying (.timer _) => verified i s
  | _ => s

def execVerifyTimerExpiry (input : InputNo) (s : State) : Host.Outcome State Fault Refusal :=
  runEvent (verifyOver input) s

/-- A request of the climate sample timer (R16). -/
def requestSequence (s : State) : State :=
  if s.sup.seq.isNone then wakeArbiter (startSequence s)
  else if s.sup.owed < Config.owedMax then { s with sup := { s.sup with owed := s.sup.owed + 1 } }
  else setTrouble .climateStarved true s

/-- CLIMATE_TIMER_EXPIRY: the timer reloads and requests a sequence (R16). -/
def climateTimerOver (s : State) : State :=
  requestSequence { s with sup := { s.sup with climateTimer := some s.cfg.climateInterval } }

def execClimateTimerExpiry (s : State) : Host.Outcome State Fault Refusal := runEvent climateTimerOver s

end Sys2Proof.Machine
end

