-- ==== Sys2Proof/Machine/Consign.lean ====
section
/-! DEFINITION. The consignment table: records and entries, opening, validation, notices, courier sessions, sign-off and
closing (R111 to R128). -/

namespace Sys2Proof.Machine

/-! ## Records and entries -/

/-- The record of a number (R111). -/
def findRecord (num : Nat) (s : State) : Option Consignment := s.consignments.find? fun c => c.number == num

/-- Every record changed. -/
def mapRecords (f : Consignment → Consignment) (s : State) : State :=
  { s with consignments := s.consignments.map f }

/-- The record of one number changed. -/
def updateRecord (num : Nat) (f : Consignment → Consignment) (s : State) : State :=
  mapRecords (fun c => if c.number = num then f c else c) s

/-- The record of a number removed with its entries and timers. -/
def removeRecord (num : Nat) (s : State) : State :=
  { s with consignments := s.consignments.filter fun c => c.number != num }

/-- An entry in progress is WAITING or ACTIVE (R112). -/
def Entry.inProgress (e : Entry) : Bool := e.state == .waiting || e.state == .active

/-- DONE and FAILED entries. -/
def Entry.isDone (e : Entry) : Bool := e.state == .done
def Entry.isFailed (e : Entry) : Bool :=
  match e.state with
  | .failed _ => true
  | _ => false

/-- The first entry that satisfies a test is given a state. -/
def setFirst (test : Entry → Bool) (st : EntryState) : List Entry → List Entry
  | [] => []
  | e :: rest => if test e then { e with state := st } :: rest else e :: setFirst test st rest

/-- The entry at an index is given a state. -/
def setEntryAt (st : EntryState) : Nat → List Entry → List Entry
  | _, [] => []
  | 0, e :: rest => { e with state := st } :: rest
  | k + 1, e :: rest => e :: setEntryAt st k rest

/-- The entry at an index of a record is given a state. -/
def markEntry (num k : Nat) (st : EntryState) (s : State) : State :=
  updateRecord num (fun c => { c with entries := setEntryAt st k c.entries }) s

/-- REPORT ENTRY_REJECTED. -/
def entryRejected (num : Nat) (e : Entry) (r : FailReason) : Report :=
  { kind := .entryRejected, number := e.slot, consignment := num, tag := e.tag.getD 0, code := r.code }

/-! ## Closing (R128) -/

/-- Closing causes (13_frame_and_record_formats.md). -/
inductive CloseCause where
  | complete
  | signedOff
  | expired
  | cancelled
  deriving DecidableEq, Repr

/-- Closing cause codes. -/
def CloseCause.code (c : CloseCause) : Nat :=
  match c with
  | .complete => 1
  | .signedOff => 2
  | .expired => 3
  | .cancelled => 4

/-- The reason an entry in progress fails with at a closing; COMPLETE and SIGNED_OFF find no such entry (R128 step 1). -/
def CloseCause.reason (c : CloseCause) : FailReason :=
  match c with
  | .expired => .expired
  | _ => .cancelled

/-- An entry in progress fails with a reason. -/
def failInProgress (r : FailReason) (e : Entry) : Entry := if e.inProgress then { e with state := .failed r } else e

/-- A custody entry survives the closing of a number: not a RELEASED one that owes no CLEARED (R128 step 3). -/
def staysAtClosing (num : Nat) (e : CustodyEntry) : Bool :=
  !(e.consignment == some num && e.state == .released && e.owed != some .cleared)

/-- A custody entry that carries the closing number loses it (R128 step 3). -/
def loseNumber (num : Nat) (e : CustodyEntry) : CustodyEntry := if e.consignment = some num then e.dropNumber else e

/-- The handover engine's part of a closing (R128 step 3). -/
def closeCustody (num : Nat) (s : State) : State :=
  withCustody ((s.custody.entries.filter (staysAtClosing num)).map (loseNumber num)) s

/-- REPORT CONSIGNMENT_CLOSED, with the case ID at the dock (R128 step 4). -/
def closedReport (role : Role) (c : Consignment) (cause : CloseCause) : Report :=
  { kind := .consignmentClosed, consignment := c.number,
    tag := if role = .dock then c.caseId.getD 0 else 0,
    code := cause.code,
    value1 := ((c.entries.filter Entry.isDone).length : Nat),
    value2 := ((c.entries.filter Entry.isFailed).length : Nat) }

/-- The closing of a record, in the five steps of R128. -/
def closeRecord (c : Consignment) (cause : CloseCause) (s : State) : State :=
  let failed := { c with entries := c.entries.map (failInProgress cause.reason) }
  let s := if s.role = .bay then revertRequest c.number s else s
  let s := closeCustody c.number s
  let s := queueReport (closedReport s.role failed cause) s
  settleOffers (removeRecord c.number s)

/-- The completion test of a record (R128). -/
def completionTest (num : Nat) (s : State) : State :=
  match findRecord num s with
  | some c => if c.state ≠ .opening && !c.entries.any Entry.inProgress then closeRecord c .complete s else s
  | none => s

/-! ## Notices (R117, R118, R120) -/

/-- A notice: in the record of the number, the first entry that satisfies the test takes a state, and the completion
test follows; where no entry does, the table is unchanged (R120). -/
def notice (num : Nat) (test : Entry → Bool) (st : EntryState) (s : State) : State :=
  match findRecord num s with
  | some c =>
    if c.entries.any test then
      completionTest num (updateRecord num (fun c => { c with entries := setFirst test st c.entries }) s)
    else s
  | none => s

/-- The same for a custody entry, which may carry no number and then sends no notice (R120). -/
def noticeOf (num : Option Nat) (test : Entry → Bool) (st : EntryState) (s : State) : State :=
  match num with
  | some n => notice n test st s
  | none => s

/-- An entry of a tag in ACTIVE. -/
def activeWith (t : Tag) (e : Entry) : Bool := e.tag == some t && e.state == .active

/-- An entry of a tag in WAITING. -/
def waitingWith (t : Tag) (e : Entry) : Bool := e.tag == some t && e.state == .waiting

/-- An entry of a tag in progress. -/
def progressWith (t : Tag) (e : Entry) : Bool := e.tag == some t && e.inProgress

/-- The released notice (R120). -/
def releasedNotice (num : Option Nat) (t : Tag) (s : State) : State := noticeOf num (activeWith t) .done s

/-- A custody entry loses its number, and the offering rule is looked at again. -/
def clearNumber (t : Tag) (s : State) : State := settleOffers (updateCustody t CustodyEntry.dropNumber s)

/-- The refused, final notice (R120). -/
def refusedNotice (num : Option Nat) (t : Tag) (s : State) : State :=
  noticeOf num (activeWith t) (.failed .refused) (clearNumber t s)

/-- The adrift notice (R120). -/
def adriftNotice (num : Option Nat) (t : Tag) (s : State) : State :=
  noticeOf num (activeWith t) (.failed .adrift) (clearNumber t s)

/-- The disputed notice (R120). -/
def disputedNotice (num : Option Nat) (t : Tag) (s : State) : State :=
  noticeOf num (progressWith t) (.failed .disputed) (clearNumber t s)

/-- The received notice, at the dock and for an OUTBOUND record (R120). -/
def receivedNotice (num : Option Nat) (t : Tag) (s : State) : State :=
  match num with
  | some n =>
    if s.consignments.any (fun c => c.number == n && c.direction == .outbound) then
      notice n (waitingWith t) .active s
    else s
  | none => s

/-- The seated notice (R118). -/
def seatedNotice (num : Nat) (t : Tag) (s : State) : State := notice num (activeWith t) .done s

/-- The pull failed notice, which names the slot (R90, R117). -/
def pullFailedNotice (num slot : Nat) (s : State) : State :=
  notice num (fun e => e.slot == slot && e.state == .active) (.failed .pullUnverified) s

/-! ## Questions (R119) -/

/-- Whether a tag is expected from a giver under a number (R119, first question). -/
def expected (s : State) (num : Nat) (t : Tag) (source : Nat) : Bool :=
  s.consignments.any fun c =>
    c.number == num &&
      (if s.role = .bay then
        c.direction == .inbound && c.state == .active && c.peer == some source && c.entries.any (activeWith t)
      else
        c.direction == .outbound && (c.state == .staging || c.state == .courierPresent) &&
          c.entries.any (fun e => waitingWith t e && e.station == source))

/-- Whether a tag is in a WAITING entry of an INBOUND record (R119, second question). -/
def waitingInbound (s : State) (t : Tag) : Bool :=
  s.consignments.any fun c => c.direction == .inbound && c.entries.any (waitingWith t)

/-! ## Opening (R113) -/

/-- The fields of a CONSIGN payload. -/
structure ConsignFields where
  number : Nat
  direction : Option Direction
  badge : Option Tag
  deadline : Nat
  peer : Nat
  deriving DecidableEq, Repr

/-- A direction code. -/
def directionOfCode (n : Nat) : Option Direction :=
  match n with
  | 1 => some .outbound
  | 2 => some .inbound
  | _ => none

/-- The CONSIGN payload read (13_frame_and_record_formats.md). -/
def consignFields (p : List Byte) : ConsignFields :=
  { number := wordAt p 0, direction := directionOfCode (byteAt p 2).toNat, badge := optTag (tagAt p 3),
    deadline := wordAt p 11, peer := (byteAt p 13).toNat }

/-- REPORT CONSIGNMENT_REFUSED: FORM 1, PEER 2, FULL 3. -/
def consignmentRefused (num reason : Nat) : Report :=
  { kind := .consignmentRefused, consignment := num, code := reason }

/-- The record that a CONSIGN opens (R113). -/
def openedRecord (role : Role) (f : ConsignFields) (d : Direction) : Consignment :=
  { number := f.number, direction := d, state := .opening,
    badge := if role = .dock then f.badge else none,
    peer := if role = .bay then some f.peer else none,
    deadline := f.deadline, openingTimer := some Config.openingSeconds, deadlineTimer := none, courierTimer := none,
    caseId := none, caseClimate := none, entries := [] }

/-- A CONSIGN from the console (R113). -/
def takeConsign (p : List Byte) (s : State) : State :=
  let f := consignFields p
  if (findRecord f.number s).isSome then s
  else match f.direction with
    | none => queueReport (consignmentRefused f.number 1) s
    | some d =>
      if f.number = 0 ∨ f.deadline < 1 ∨ 1440 < f.deadline then queueReport (consignmentRefused f.number 1) s
      else if s.role = .bay ∧ (f.peer = 0 ∨ f.peer ≠ s.cfg.dockStation) then
        queueReport (consignmentRefused f.number 2) s
      else if Config.consignmentMax ≤ s.consignments.length then queueReport (consignmentRefused f.number 3) s
      else { s with consignments := s.consignments ++ [openedRecord s.role f d] }

/-! ## Validation (R116) -/

/-- The STATION test (R116). -/
def stationTest (s : State) (e : Entry) : Bool :=
  if s.role = .bay then e.station == ownNumber s
  else 1 ≤ e.station && e.station ≤ 30 && e.station != ownNumber s && e.station != s.cfg.console

/-- The SLOT_RANGE test (R116). -/
def slotRangeTest (s : State) (d : Direction) (e : Entry) : Bool :=
  if s.role = .bay then 1 ≤ e.slot && e.slot ≤ slotCount s
  else match d with
    | .outbound => e.slot == 0
    | .inbound => 1 ≤ e.slot && e.slot ≤ 128

/-- The DUPLICATE test finds the tag in use: an earlier entry of the record, an entry in progress of another record, or
a custody entry; an absent tag is in use nowhere (R116, R191). -/
def tagInUse (s : State) (num : Nat) (earlier : List Entry) (t : Option Tag) : Bool :=
  t.any fun t =>
    earlier.any (fun e => e.tag == some t) ||
      s.consignments.any (fun c => c.number != num && c.entries.any (progressWith t)) ||
      (findCustody t s).isSome

/-- The request that the SLOT_STATE test sends the slot scanner at a bay (R116). -/
def slotRequest (d : Direction) (num : Nat) (e : Entry) (s : State) : Option State :=
  match d with
  | .outbound => pullRequest e.slot e.tag num s
  | .inbound => awaitRequest e.slot e.tag num s

/-- An entry that fails a test (R116). -/
def rejectEntry (num k : Nat) (e : Entry) (r : FailReason) (s : State) : State :=
  queueReport (entryRejected num e r) (markEntry num k (.failed r) s)

/-- One entry put to the four tests (R116). -/
def validateEntry (d : Direction) (num k : Nat) (earlier : List Entry) (e : Entry) (s : State) : State :=
  if !stationTest s e then rejectEntry num k e .station s
  else if !slotRangeTest s d e then rejectEntry num k e .slotRange s
  else if tagInUse s num earlier e.tag then rejectEntry num k e .duplicate s
  else if s.role = .bay then
    match slotRequest d num e s with
    | some t => markEntry num k .active t
    | none => rejectEntry num k e .slotState s
  else s

/-- The entries of a list validated one after another, the first of them at index `k` after the `earlier` ones. -/
def validateFrom (d : Direction) (num : Nat) : Nat → List Entry → List Entry → State → State
  | _, _, [], s => s
  | k, earlier, e :: rest, s =>
    validateFrom d num (k + 1) (earlier ++ [e]) rest (validateEntry d num k earlier e s)

/-- The first state after OPENING (R116). -/
def firstState (role : Role) (d : Direction) : ConsignmentState :=
  match role, d with
  | .bay, _ => .active
  | .dock, .outbound => .staging
  | .dock, .inbound => .waitingCourier

/-- Minutes as the seconds a timer holds. -/
def minutes (n : Nat) : Nat := n * 60

/-- The end of OPENING: validation, the first state, the deadline and the completion test (R114, R116). -/
def endOpening (num : Nat) (s : State) : State :=
  match findRecord num s with
  | some c =>
    let s := updateRecord num (fun c => { c with openingTimer := none }) s
    let s := validateFrom c.direction num 0 [] c.entries s
    let s := updateRecord num
      (fun c => { c with state := firstState s.role c.direction, deadlineTimer := some (minutes c.deadline) }) s
    completionTest num s
  | none => s

/-- The entry at a byte of an ENTRY payload; a tag of eight zero bytes is absent (R191). -/
def entryAt (p : List Byte) (k : Nat) : Entry :=
  { tag := optTag (tagAt p k), station := (byteAt p (k + 8)).toNat, slot := (byteAt p (k + 9)).toNat,
    last := byteAt p (k + 10) != 0, state := .waiting }

/-- The entries of an ENTRY payload, in the order the frame gives them. -/
def entryList (p : List Byte) : List Entry :=
  (List.range ((p.length - 2) / 11)).map fun i => entryAt p (2 + 11 * i)

/-- One entry appended, or dropped with OVERFLOW (R114). -/
def appendEntry (num : Nat) (e : Entry) (s : State) : State :=
  match findRecord num s with
  | some c =>
    if c.entries.length < Config.entryMax then updateRecord num (fun c => { c with entries := c.entries ++ [e] }) s
    else queueReport (entryRejected num e .overflow) s
  | none => s

/-- The entries of a frame taken one after another; the one with the last flag ends OPENING (R114). -/
def takeEntries (num : Nat) : List Entry → State → State
  | [], s => s
  | e :: rest, s =>
    let t := appendEntry num e s
    if e.last then endOpening num t else takeEntries num rest t

/-- An ENTRY from the console (R114). -/
def takeEntry (p : List Byte) (s : State) : State :=
  let num := wordAt p 0
  match findRecord num s with
  | some c => if c.state = .opening then takeEntries num (entryList p) s else s
  | none => s

/-- A CANCEL from the console (R115, R127). -/
def takeCancel (p : List Byte) (s : State) : State :=
  let num := wordAt p 0
  match findRecord num s with
  | some c =>
    if c.state = .opening then
      queueReport { kind := .consignmentClosed, consignment := num, code := CloseCause.cancelled.code }
        (removeRecord num s)
    else closeRecord c .cancelled s
  | none => s

/-! ## Courier sessions (R122 to R125) -/

/-- The start of a courier session (R122). -/
def startSession (num : Nat) (s : State) : State :=
  settleOffers
    (updateRecord num
      (fun c =>
        { c with state := if c.state = .staging then .courierPresent else .receiving,
                 courierTimer := some s.cfg.courierWindow })
      s)

/-- The custody entry of a tag is in a state and carries a number. -/
def custodyIs (t : Tag) (st : CustodyState) (num : Nat) (s : State) : Bool :=
  match findCustody t s with
  | some e => e.state == st && e.consignment == some num
  | none => false

/-- An ACTIVE entry of a known tag settled at an outbound sign-off (R123). -/
def signOffActive (num k : Nat) (t : Tag) (s : State) : State :=
  if custodyIs t .loaded num s then removeCustody t (markEntry num k .done s)
  else if custodyIs t .held num s then
    clearNumber t
      (queueReport { kind := .leftBehind, consignment := num, tag := t } (markEntry num k (.failed .leftBehind) s))
  else markEntry num k (.failed .missing) s

/-- One entry settled at an outbound sign-off (R123); an entry with no tag has no custody entry (R191). -/
def signOffEntry (num k : Nat) (e : Entry) (s : State) : State :=
  match e.state with
  | .active =>
    match e.tag with
    | some t => signOffActive num k t s
    | none => markEntry num k (.failed .missing) s
  | .waiting => markEntry num k (.failed .missing) s
  | _ => s

/-- The entries of an outbound record settled in arrival order (R123). -/
def signOffFrom (num : Nat) : Nat → List Entry → State → State
  | _, [], s => s
  | k, e :: rest, s => signOffFrom num (k + 1) rest (signOffEntry num k e s)

/-- The outbound sign-off (R123). -/
def signOffOutbound (c : Consignment) (s : State) : State :=
  let s := updateRecord c.number (fun c => { c with courierTimer := none }) s
  let s := signOffFrom c.number 0 c.entries s
  match findRecord c.number s with
  | some c => closeRecord c .signedOff s
  | none => s

/-- A WAITING entry is MISSING at an inbound sign-off (R124 step 1). -/
def missingEntry (e : Entry) : Entry := if e.state = .waiting then { e with state := .failed .missing } else e

/-- The hold and the flag of a sign-off written into the HELD custody entries of the ACTIVE entries (R124, R156). -/
def writeHold (c : Consignment) (hold : Nat) (quarantine : Bool) (e : CustodyEntry) : CustodyEntry :=
  if e.state == .held && c.entries.any (activeWith e.tag) then { e with hold := hold, quarantine := quarantine }
  else e

/-- The inbound sign-off (R124). -/
def signOffInbound (c : Consignment) (s : State) : State :=
  let hold := computeHold s.cfg (caseHoldClimate c.caseClimate)
  let quarantine := caseQuarantine s.cfg c.caseClimate
  let s := updateRecord c.number
    (fun c =>
      { c with courierTimer := none, entries := c.entries.map missingEntry, state := .distributing }) s
  let s := settleOffers (mapCustody (writeHold c hold quarantine) s)
  completionTest c.number s

/-- REPORT COURIER_TIMEOUT. -/
def courierTimeoutReport (c : Consignment) : Report :=
  { kind := .courierTimeout, consignment := c.number, code := c.state.code }

/-- A LOADED custody entry of a record returns to HELD at its courier timeout (R125). -/
def unloadEntry (num : Nat) (e : CustodyEntry) : CustodyEntry :=
  if e.state = .loaded ∧ e.consignment = some num then { e with state := .held } else e

/-- The courier window of a record runs out (R125). -/
def courierWindowOver (c : Consignment) (s : State) : State :=
  let s := queueReport (courierTimeoutReport c) s
  match c.state with
  | .courierPresent =>
    settleOffers
      (mapCustody (unloadEntry c.number)
        (updateRecord c.number (fun c => { c with courierTimer := none, state := .staging }) s))
  | .receiving => signOffInbound c s
  | _ => updateRecord c.number (fun c => { c with courierTimer := none }) s

/-! ## Timers -/

/-- OPENING_TIMER_EXPIRY (R115). -/
def openingOver (num : Nat) (s : State) : State :=
  match findRecord num s with
  | some c =>
    if c.openingTimer.isSome then
      queueReport { kind := .consignmentAbandoned, consignment := num } (removeRecord num s)
    else s
  | none => s

def execOpeningTimerExpiry (number : Nat) (s : State) : Host.Outcome State Fault Refusal :=
  runEvent (openingOver number) s

/-- COURIER_WINDOW_EXPIRY (R125). -/
def courierOver (num : Nat) (s : State) : State :=
  match findRecord num s with
  | some c => if c.courierTimer.isSome then courierWindowOver c s else s
  | none => s

def execCourierWindowExpiry (number : Nat) (s : State) : Host.Outcome State Fault Refusal :=
  runEvent (courierOver number) s

/-- DEADLINE_TIMER_EXPIRY (R126). -/
def deadlineOver (num : Nat) (s : State) : State :=
  match findRecord num s with
  | some c => if c.deadlineTimer.isSome then closeRecord c .expired s else s
  | none => s

def execDeadlineTimerExpiry (number : Nat) (s : State) : Host.Outcome State Fault Refusal :=
  runEvent (deadlineOver number) s

end Sys2Proof.Machine
end

