-- ==== Sys2Proof/Machine/Handover.lean ====
section
/-! DEFINITION. The handover protocol: what an arriving handover frame does, the three custody timers and RESOLVE
(R136 to R138, R141, R142, R144, R145, R148). The frames as commands stand in Machine/Frames.lean. -/

namespace Sys2Proof.Machine

/-! ## Payload fields (13_frame_and_record_formats.md) -/

/-- The consignment number of a handover frame. -/
def handoverNumber (p : List Byte) : Nat := wordAt p 0

/-- The tag field of a handover frame, which a reply to it carries. -/
def handoverTag (p : List Byte) : Tag := tagAt p 2

/-- The tag that a handover frame names; eight zero bytes name none (R191). -/
def handoverNames (p : List Byte) : Option Tag := optTag (handoverTag p)

/-- A REFUSE reason code. -/
def refuseReasonOfCode (n : Nat) : Option RefuseReason :=
  match n with
  | 1 => some .fire
  | 2 => some .full
  | 3 => some .noConsignment
  | 4 => some .duplicate
  | 5 => some .slotNotReady
  | _ => none

/-! ## The taker -/

/-- The reason the tests of R141 refuse an OFFER with, the first that applies; an absent tag is held by no entry, expected
under no number and awaited by no slot (R191). -/
def offerRefusal (num : Nat) (t : Option Tag) (source slot : Nat) (s : State) : Option RefuseReason :=
  if s.fire.state.blocksHandover then some .fire
  else if (custodyNamed t s).isSome then some .duplicate
  else if !t.any (fun t => expected s num t source) then some .noConsignment
  else if t.any (waitingInbound s) then some .duplicate
  else if s.role = .bay ∧ ¬ t.any (fun t => (findSlot slot s).any (awaits t)) then some .slotNotReady
  else if custodyFull s then some .full
  else none

/-- The EXPECTED entry of an accepted OFFER, its hold clamped to 1440 (R141, R156). -/
def expectedEntry (p : List Byte) (source : Nat) (s : State) : CustodyEntry :=
  { newCustody (handoverTag p) .expected (optNumber (handoverNumber p)) (some source)
      (if s.role = .bay then some (byteAt p 10).toNat else none) with
    hold := min Config.offerHoldMax (wordAt p 11),
    quarantine := byteAt p 13 != 0,
    timer := some (s.cfg.handoverWindow + Config.lapseExtraSeconds) }

/-- An arriving OFFER (R141). -/
def takeOffer (source : Nat) (p : List Byte) (s : State) : State :=
  match offerRefusal (handoverNumber p) (handoverNames p) source (byteAt p 10).toNat s with
  | some r =>
    addReply { kind := .refuse r, dst := source, consignment := handoverNumber p, tag := handoverTag p } s
  | none => addCustody (expectedEntry p source s) s

/-- A read claims an EXPECTED entry: TAKING with TAKEN owed (R142). -/
def claimExpected (t : Tag) (s : State) : State :=
  updateCustody t (fun e => { e with state := .taking, timer := none, attempts := 1, owed := some .taken }) s

/-- Causes of REPORT DISPUTED (13_frame_and_record_formats.md). -/
inductive DisputeCause where
  | noAnswer
  | late
  | withdrawn
  | slot
  deriving DecidableEq, Repr

/-- DISPUTED cause codes. -/
def DisputeCause.code (c : DisputeCause) : Nat :=
  match c with
  | .noAnswer => 1
  | .late => 2
  | .withdrawn => 3
  | .slot => 4

/-- The custody entry `e` becomes DISPUTED with its report and its notice (R144, R145). -/
def disputeEntry (e : CustodyEntry) (cause : DisputeCause) (s : State) : State :=
  let s := updateCustody e.tag (fun e => { e with state := .disputed, timer := none, owed := none }) s
  let s := queueReport (custodyReport .disputed e cause.code) s
  disputedNotice e.consignment e.tag s

/-- A TAKING entry confirmed by CLEARED: HELD with its peer cleared; at a bay the return request, whose refusal makes
the entry DISPUTED, and at the dock the received notice (R145). -/
def confirmTaking (e : CustodyEntry) (s : State) : State :=
  let held := { e with state := .held, peer := none, timer := none, owed := none }
  let s := settleOffers (updateCustody e.tag (fun _ => held) s)
  if s.role = .bay then
    match returnRequest (e.slot.getD 0) e.tag s with
    | some t => t
    | none => disputeEntry held .slot s
  else receivedNotice e.consignment e.tag s

/-- The entry of the tag a frame names whose peer station is the frame's source (R145, R191). -/
def entryFrom (source : Nat) (t : Option Tag) (s : State) : Option CustodyEntry :=
  match custodyNamed t s with
  | some e => if e.peer = some source then some e else none
  | none => none

/-- An arriving CLEARED (R145). -/
def takeCleared (source : Nat) (p : List Byte) (s : State) : State :=
  match entryFrom source (handoverNames p) s with
  | some e => if e.state = .taking then confirmTaking e s else s
  | none => s

/-- An arriving LATE (R145). -/
def takeLate (source : Nat) (p : List Byte) (s : State) : State :=
  match entryFrom source (handoverNames p) s with
  | some e => if e.state = .taking then disputeEntry e .late s else s
  | none => s

/-- An arriving WITHDRAW (R142, R145). -/
def takeWithdraw (source : Nat) (p : List Byte) (s : State) : State :=
  match entryFrom source (handoverNames p) s with
  | some e =>
    if e.state = .taking then disputeEntry e .withdrawn s
    else if e.state = .expected then removeCustody e.tag s
    else s
  | none => s

/-! ## The giver -/

/-- LATE added to the reply list, addressed to a frame's source (R136). -/
def replyLate (source : Nat) (p : List Byte) (s : State) : State :=
  addReply { kind := .late, dst := source, consignment := handoverNumber p, tag := handoverTag p } s

/-- An entry owes a frame, which replaces one it owes already (R133). -/
def owe (t : Tag) (f : OwedFrame) (s : State) : State := updateCustody t (fun e => { e with owed := some f }) s

/-- A TAKEN releases an OFFERED or SUSPENDED entry: CLEARED owed, then the released notice (R136). -/
def releaseEntry (e : CustodyEntry) (s : State) : State :=
  releasedNotice e.consignment e.tag
    (updateCustody e.tag (fun e => { e with state := .released, timer := none, owed := some .cleared }) s)

/-- An arriving TAKEN (R136). -/
def takeTaken (source : Nat) (p : List Byte) (s : State) : State :=
  match entryFrom source (handoverNames p) s with
  | some e =>
    match e.state with
    | .offered => releaseEntry e s
    | .suspended => releaseEntry e s
    | .released => owe e.tag .cleared s
    | .adrift => owe e.tag .late s
    | _ => replyLate source p s
  | none => replyLate source p s

/-- The wait reason a REFUSE reason gives: FIRE and FULL wait, the others are final (R138). -/
def RefuseReason.wait (r : RefuseReason) : WaitReason :=
  match r with
  | .fire => .fire
  | .full => .full
  | _ => .none

/-- A REFUSE returns an OFFERED or SUSPENDED entry to HELD (R138). -/
def refuseEntry (e : CustodyEntry) (r : RefuseReason) (s : State) : State :=
  let s := settleOffers
    (updateCustody e.tag (fun e => { e with state := .held, timer := none, owed := none, wait := r.wait }) s)
  let s := queueReport (custodyReport .handoverRefused e r.code) s
  if r.wait = .none then refusedNotice e.consignment e.tag s else s

/-- An arriving REFUSE (R138). -/
def takeRefuse (source : Nat) (p : List Byte) (s : State) : State :=
  match refuseReasonOfCode (byteAt p 10).toNat, entryFrom source (handoverNames p) s with
  | some r, some e => if e.state = .offered ∨ e.state = .suspended then refuseEntry e r s else s
  | _, _ => s

/-! ## Timers -/

/-- HANDOVER_TIMER_EXPIRY: an OFFERED entry becomes ADRIFT with WITHDRAW owed; a paused timer does not expire
(R137, R140). -/
def handoverOver (t : Tag) (s : State) : State :=
  match findCustody t s with
  | some e =>
    if e.state = .offered ∧ e.timer.isSome then
      let s := updateCustody t (fun e => { e with state := .adrift, timer := none, owed := some .withdraw }) s
      let s := queueReport (custodyReport .adrift e 1) s
      adriftNotice e.consignment t s
    else s
  | none => s

def execHandoverTimerExpiry (tag : Tag) (s : State) : Host.Outcome State Fault Refusal :=
  runEvent (handoverOver tag) s

/-- LAPSE_TIMER_EXPIRY (R142). -/
def lapseOver (t : Tag) (s : State) : State :=
  match findCustody t s with
  | some e =>
    if e.state = .expected ∧ e.timer.isSome then
      queueReport (custodyReport .expectedLapsed e 0) (removeCustody t s)
    else s
  | none => s

def execLapseTimerExpiry (tag : Tag) (s : State) : Host.Outcome State Fault Refusal := runEvent (lapseOver tag) s

/-- CONFIRM_TIMER_EXPIRY (R144). -/
def confirmOver (t : Tag) (s : State) : State :=
  match findCustody t s with
  | some e =>
    if e.state = .taking ∧ e.timer.isSome then
      (if e.attempts < 3 then
        updateCustody t (fun e => { e with timer := none, attempts := e.attempts + 1, owed := some .taken }) s
       else disputeEntry e .noAnswer s)
    else s
  | none => s

def execConfirmTimerExpiry (tag : Tag) (s : State) : Host.Outcome State Fault Refusal := runEvent (confirmOver tag) s

/-! ## RESOLVE (R148) -/

/-- RESOLVE is accepted for an ADRIFT or DISPUTED entry, and for a HELD one with no consignment number (R148). -/
def resolvable (e : CustodyEntry) : Bool :=
  e.state == .adrift || e.state == .disputed || (e.state == .held && e.consignment.isNone)

/-- An entry kept by RESOLVE; one that is HELD already stays as it is (R148). -/
def keptEntry (e : CustodyEntry) : CustodyEntry :=
  if e.state = .held then e
  else
    { e with state := .held, peer := none, consignment := none, wait := .none, timer := none, attempts := 0,
             owed := none }

/-- The return request that a KEEP sends where an AWAITED slot at a bay expects the tag (R148). -/
def returnKept (t : Tag) (s : State) : State :=
  if s.role = .bay then
    match s.scanner.slots.find? (awaits t) with
    | some sl => (returnRequest sl.number t s).getD s
    | none => s
  else s

/-- RESOLVE with its arguments, a tag and an action; an absent tag is held by no entry (R148, R191). -/
def resolveWith (args : List Byte) (s : State) : State :=
  let t := tagAt args 0
  let action := (byteAt args 8).toNat
  match custodyNamed (optTag t) s with
  | some e =>
    if resolvable e ∧ action = 1 then returnKept t (updateCustody t keptEntry s)
    else if resolvable e ∧ action = 2 then removeCustody t s
    else refuseCommand codeResolve 0 t s
  | none => refuseCommand codeResolve 0 t s

end Sys2Proof.Machine
end

