-- ==== Sys2Proof/Machine/SlotScan.lean ====
section
/-! DEFINITION. The slot scanner's events: the scan, inventory, debounce, removal, presence, seating, the two windows and
CLEAR_QUARANTINE (R80, R81, R84 to R87, R90, R93, R94, R96, R97, R162). -/

namespace Sys2Proof.Machine

/-! ## Removal (R84, R85, R87) -/

/-- REPORT UNEXPECTED_REMOVAL, with the state left. -/
def removalReport (sl : Slot) : Report :=
  { kind := .unexpectedRemoval, number := sl.number, tag := sl.reportTag, code := sl.state.code }

/-- REPORT EVACUATED. -/
def evacuatedReport (sl : Slot) : Report := { kind := .evacuated, number := sl.number, tag := sl.reportTag }

/-- A removal from OCCUPIED, HOLD or QUARANTINE, by the fire state (R84, R85). -/
def removeCartridge (sl : Slot) (s : State) : State :=
  if s.fire.state.raised then
    queueReport (evacuatedReport sl)
      (updateSlot sl.number (fun sl => { sl with state := .evacuated, hold := none }) s)
  else
    queueReport (removalReport sl)
      (updateSlot sl.number (fun sl => { sl with state := .unexpectedRemoval, hold := none }) s)

/-- A removal at a slot, by its state (R84). -/
def removal (sl : Slot) (s : State) : State :=
  match sl.state with
  | .pullPending =>
    updateSlot sl.number (fun sl => { sl with state := .pulled, window := some s.cfg.pullWindow }) s
  | .occupied => removeCartridge sl s
  | .hold => removeCartridge sl s
  | .quarantine => removeCartridge sl s
  | .unexpectedPresence p => updateSlot sl.number (fun sl => { sl with state := p.state }) s
  | _ => s

/-! ## Presence (R86, R87, R93, R159) -/

/-- The state a seated slot takes from the custody entry's hold and flag (R93). -/
def seatedState (hold : Nat) (quarantine : Bool) : SlotState :=
  if quarantine then .quarantine else if hold = 0 then .occupied else .hold

/-- The hold remaining of a seated slot (R93). -/
def seatedHold (hold : Nat) (quarantine : Bool) : Option Nat :=
  if quarantine then some hold else if hold = 0 then none else some hold

/-- REPORT SEATED. -/
def seatedReport (sl : Slot) (hold : Nat) (quarantine : Bool) : Report :=
  { kind := .seated, number := sl.number, tag := sl.reportTag, code := if quarantine then 1 else 0,
    value1 := (hold : Int) }

/-- REPORT QUARANTINED. -/
def quarantinedReport (sl : Slot) : Report := { kind := .quarantined, number := sl.number, tag := sl.reportTag }

/-- The custody entry of a slot's tag, if the tag is known and an entry holds it (R93). -/
def custodyOfSlot (sl : Slot) (s : State) : Option CustodyEntry :=
  match sl.tag with
  | some t => findCustody t s
  | none => none

/-- The slot record written at a seating, under the rule of one tag per slot (R83, R93). -/
def seatSlot (sl : Slot) (hold : Nat) (quarantine : Bool) (s : State) : State :=
  giveTag sl.number sl.reportTag
    (updateSlot sl.number
      (fun sl =>
        { sl with state := seatedState hold quarantine, hold := seatedHold hold quarantine, window := none,
                  consignment := none }) s)

/-- Seating: the custody entry goes, the slot takes its hold and flag, and the reports and the notice follow (R93). With
no entry for the tag SEATED carries a hold of 0 and a clear flag, which R93 leaves open (DESIGN CHOICE, log 48). -/
def seat (sl : Slot) (s : State) : State :=
  let entry := custodyOfSlot sl s
  let hold := (entry.map fun e => e.hold).getD 0
  let quarantine := (entry.map fun e => e.quarantine).getD false
  let s := match entry with
    | some e => removeCustody e.tag s
    | none => s
  let s := queueReport (seatedReport sl hold quarantine) (seatSlot sl hold quarantine s)
  let s := if quarantine then queueReport (quarantinedReport sl) s else s
  match sl.consignment with
  | some num => seatedNotice num sl.reportTag s
  | none => s

/-- A presence in an EVACUATED slot: a post-fire hold, and no tag (R86, R159). -/
def returnEvacuee (sl : Slot) (s : State) : State :=
  let h := postFireHold s
  updateSlot sl.number
    (fun sl =>
      { sl with state := if h = 0 then .occupied else .hold, hold := if h = 0 then none else some h, tag := none }) s

/-- REPORT UNEXPECTED_PRESENCE, with the state left. -/
def presenceReport (sl : Slot) : Report :=
  { kind := .unexpectedPresence, number := sl.number, code := sl.state.code }

/-- A presence where none was expected: UNEXPECTED, keeping the prior state (R86). -/
def strayPresence (p : PriorState) (sl : Slot) (s : State) : State :=
  queueReport (presenceReport sl) (updateSlot sl.number (fun sl => { sl with state := .unexpectedPresence p }) s)

/-- A presence at a slot, by its state (R86). -/
def presence (sl : Slot) (s : State) : State :=
  match sl.state with
  | .returnPending => seat sl s
  | .evacuated => returnEvacuee sl s
  | .pulled => updateSlot sl.number (fun sl => { sl with state := .pullPending, window := none }) s
  | .empty => strayPresence .empty sl s
  | .out => strayPresence .out sl s
  | .awaited => strayPresence .awaited sl s
  | .unexpectedRemoval => updateSlot sl.number (fun sl => { sl with state := .occupied, tag := none }) s
  | _ => s

/-! ## Debounce (R81) -/

/-- One sample of one slot (R81). -/
def sampleSlot (n : Nat) (closed : Bool) (s : State) : State :=
  match findSlot n s with
  | some sl =>
    if closed = sl.present then updateSlot n (fun sl => { sl with candidate := false }) s
    else if !sl.candidate then updateSlot n (fun sl => { sl with candidate := true }) s
    else
      let t := updateSlot n (fun sl => { sl with present := closed, candidate := false }) s
      if closed then presence sl t else removal sl t
  | none => s

/-- The slot at a drive line and a sense line, both counted from 1 (R79). -/
def slotAt (drive sense : Nat) : Nat := 16 * (drive - 1) + sense

/-- The sense lines in order. -/
def senseLines : List Nat := [1, 2, 3, 4, 5, 6, 7, 8, 9, 10, 11, 12, 13, 14, 15, 16]

/-- The 16 slots of a drive line sampled in ascending slot order, each taken whole (R80, R81). -/
def sampleLine (drive : Nat) (sense : Sense) (s : State) : State :=
  senseLines.foldl (fun s k => sampleSlot (slotAt drive k) (sense.getLsbD (k - 1)) s) s

/-! ## Inventory (R97) -/

/-- A slot as inventory finds it (R97). -/
def inventorySlot (n : Nat) (closed : Bool) : Slot :=
  { number := n, state := if closed then .occupied else .empty, present := closed, candidate := false, tag := none,
    expected := none, consignment := none, hold := none, window := none }

/-- The slot records from a list of samples, the first that of slot `n`. -/
def inventorySlots : Nat → List Bool → List Slot
  | _, [] => []
  | n, b :: rest => inventorySlot n b :: inventorySlots (n + 1) rest

/-- The sense lines as samples in order. -/
def senseBits (sense : Sense) : List Bool := senseLines.map fun k => sense.getLsbD (k - 1)

/-- The samples of a drive line written over those of the pass before (R97). -/
def writeSamples (drive : Nat) (sense : Sense) (l : List Bool) : List Bool :=
  l.take (16 * (drive - 1)) ++ senseBits sense ++ l.drop (16 * drive)

/-- REPORT INVENTORY_RESTART (R97). -/
def inventoryReport (samples : List Bool) : Report :=
  { kind := .inventoryRestart, value1 := (samples.length : Int), value2 := ((samples.filter id).length : Nat) }

/-- The end of inventory: the table built from the second samples (R97). -/
def finishInventory (samples : List Bool) (s : State) : State :=
  queueReport (inventoryReport samples)
    { s with scanner := { s.scanner with slots := inventorySlots 1 samples, inventory := none } }

/-- One step of an inventory; the second full scan ends with drive line 8 (R97). -/
def inventoryStep (inv : Inventory) (sense : Sense) (s : State) : State :=
  let d := s.scanner.drive
  let samples := if lineUsed d s then writeSamples d sense inv.samples else inv.samples
  if d < 8 then { s with scanner := { s.scanner with inventory := some { inv with samples := samples } } }
  else if inv.pass < 2 then
    { s with scanner := { s.scanner with inventory := some { pass := inv.pass + 1, samples := samples } } }
  else finishInventory samples s

/-! ## Commands -/

/-- The next drive line (R80). -/
def nextDrive (d : Nat) : Nat := if d < 8 then d + 1 else 1

/-- SLOT_SCAN_STEP: the present drive position is sampled if its line is used, and so driven, and the scan steps on
(R79, R80, log 50). -/
def slotScanStep (sense : Sense) (s : State) : State :=
  let d := s.scanner.drive
  let t := match s.scanner.inventory with
    | some inv => inventoryStep inv sense s
    | none => if lineUsed d s then sampleLine d sense s else s
  { t with scanner := { t.scanner with drive := nextDrive d } }

def execSlotScanStep (sense : Sense) (s : State) : Host.Outcome State Fault Refusal := runEvent (slotScanStep sense) s

/-- PULL_WINDOW_EXPIRY (R90). -/
def pullWindowOver (n : Nat) (s : State) : State :=
  match findSlot n s with
  | some sl =>
    if sl.state = .pulled ∧ sl.window.isSome then
      let t := updateSlot n
        (fun sl => { sl with state := .unexpectedRemoval, window := none, consignment := none }) s
      let t := queueReport (pullUnverifiedReport n (sl.consignment.getD 0)) t
      match sl.consignment with
      | some num => pullFailedNotice num n t
      | none => t
    else s
  | none => s

def execPullWindowExpiry (slot : Nat) (s : State) : Host.Outcome State Fault Refusal := runEvent (pullWindowOver slot) s

/-- REPORT RETURN_OVERDUE. -/
def returnOverdueReport (sl : Slot) : Report :=
  { kind := .returnOverdue, number := sl.number, tag := sl.reportTag, consignment := sl.consignment.getD 0 }

/-- RETURN_WINDOW_EXPIRY (R94). -/
def returnWindowOver (n : Nat) (s : State) : State :=
  match findSlot n s with
  | some sl =>
    if sl.state = .returnPending ∧ sl.window.isSome then
      queueReport (returnOverdueReport sl) (updateSlot n (fun sl => { sl with window := none }) s)
    else s
  | none => s

def execReturnWindowExpiry (slot : Nat) (s : State) : Host.Outcome State Fault Refusal :=
  runEvent (returnWindowOver slot) s

/-- CLEAR_QUARANTINE with its argument, a slot (R96, R162). -/
def clearQuarantineAt (n : Nat) (s : State) : State :=
  match findSlot n s with
  | some sl =>
    if sl.state = .quarantine then updateSlot n (fun sl => { sl with state := .occupied, hold := none }) s
    else refuseCommand codeClearQuarantine n 0 s
  | none => refuseCommand codeClearQuarantine n 0 s

end Sys2Proof.Machine
end

