-- ==== Sys2Proof/Machine/Reader.lean ====
section
/-! DEFINITION. The tag reader port: transactions, the judging of responses, recovery, bounce suppression and the routing
of reads at a bay and at the dock (R99 to R110, R190). -/

namespace Sys2Proof.Machine

/-! ## The port (R100 to R102) -/

/-- The reader port's record written. -/
def withReader (r : ReaderPort) (s : State) : State := { s with reader := r }

/-- A transaction put on the line; the recovery timer goes (R102). -/
def startTransaction (t : Transaction) (r : ReaderPort) : ReaderPort :=
  { r with transaction := some t, recovery := none }

/-- The transaction of a pending signal (R100). -/
def signalTransaction (x : Signal) : Transaction :=
  match x with
  | .accept => .signalAccept
  | .reject => .signalReject

/-- With no transaction on the line: the pending READ, else the pending signal, else the recovery timer while
READER_FAULT is set (R100, R102). -/
def nextTransaction (fault : Bool) (r : ReaderPort) : ReaderPort :=
  if r.transaction.isSome ∨ r.waiting then r
  else if r.readPending then startTransaction (.read false) { r with readPending := false }
  else match r.signalPending with
    | some x => startTransaction (signalTransaction x) { r with signalPending := none }
    | none => if fault ∧ r.recovery.isNone then { r with recovery := some Config.recoverySeconds } else r

/-- The port looks for its next transaction (R100). -/
def readerNext (s : State) : State := withReader (nextTransaction (troubleActive .readerFault s) s.reader) s

/-- A good response: the count returns to 0 and READER_FAULT clears (R101, R102). -/
def goodResponse (s : State) : State :=
  setTrouble .readerFault false (withReader { s.reader with transaction := none, timeouts := 0, recovery := none } s)

/-- A timeout or a malformed response: the count rises, and at 3 READER_FAULT is set (R101). -/
def badResponse (s : State) : State :=
  let n := min Config.readerTimeoutMax (s.reader.timeouts + 1)
  let t := withReader { s.reader with transaction := none, timeouts := n } s
  if n = Config.readerTimeoutMax then setTrouble .readerFault true t else t

/-- A signal request: it replaces a signal that is pending (R100, R190). -/
def requestSignal (x : Signal) (s : State) : State := withReader { s.reader with signalPending := some x } s

/-! ## Routing (R105 to R109) -/

/-- REPORT UNKNOWN_TAG and SIGNAL_REJECT. -/
def unknownTag (k : TagKind) (id : Tag) (s : State) : State × Signal :=
  (queueReport { kind := .unknownTag, tag := id, code := k.code } s, .reject)

/-- The custody entry of a tag is in a state. -/
def inCustodyAs (t : Tag) (st : CustodyState) (s : State) : Bool :=
  match findCustody t s with
  | some e => e.state == st
  | none => false

/-- A candidate of question 2 at a bay: the record's number and the entry's slot (R105). -/
structure PullCandidate where
  number : Nat
  slot : Nat
  deriving DecidableEq, Repr

/-- The candidates in table order (R105). -/
def pullCandidates (t : Tag) (cs : List Consignment) : List PullCandidate :=
  (cs.filter fun c => c.direction == .outbound).flatMap fun c =>
    (c.entries.filter (activeWith t)).map fun e => { number := c.number, slot := e.slot }

/-- The custody entry that a verified pull creates, which owes its OFFER (R105). -/
def pulledEntry (t : Tag) (c : PullCandidate) (s : State) : CustodyEntry :=
  newCustody t .held (some c.number) (optNumber s.cfg.dockStation) (some c.slot)

/-- The first verification request that is taken, with the custody entry it creates; absent when every one is refused
(R89, R105). -/
def verifyFirst (t : Tag) : List PullCandidate → State → Option State
  | [], _ => none
  | c :: rest, s =>
    match verifyRequest c.slot t s with
    | some v => some (settleOffers (addCustody (pulledEntry t c s) v))
    | none => verifyFirst t rest s

/-- Questions 3 and 4 at a bay (R105). -/
def bayKnown (t : Tag) (s : State) : State × Signal :=
  if (findCustody t s).isSome then (s, .accept) else unknownTag .cartridge t s

/-- A CARTRIDGE read at a bay (R105). -/
def routeBayCartridge (t : Tag) (s : State) : State × Signal :=
  if inCustodyAs t .expected s then (claimExpected t s, .accept)
  else if (findCustody t s).isSome then bayKnown t s
  else match verifyFirst t (pullCandidates t s.consignments) s with
    | some v => if custodyFull s then (s, .reject) else (v, .accept)
    | none => bayKnown t s

/-- A record that a badge can reach (R107). -/
def badgeReaches (id : Tag) (c : Consignment) : Bool :=
  c.badge == some id &&
    (c.state == .staging || c.state == .courierPresent || c.state == .waitingCourier || c.state == .receiving)

/-- What a badge read does at the record it reaches (R107, R122 to R124). -/
def badgeAt (c : Consignment) (s : State) : State :=
  match c.state with
  | .courierPresent => signOffOutbound c s
  | .receiving => signOffInbound c s
  | _ => startSession c.number s

/-- A BADGE read at the dock (R107). -/
def routeDockBadge (id : Tag) (s : State) : State × Signal :=
  match s.consignments.find? (badgeReaches id) with
  | some c => (badgeAt c s, .accept)
  | none => unknownTag .badge id s

/-- A case read stored in a record; only a RECEIVING one keeps the climate record (R108). -/
def storeCase (id : Tag) (climate : Option CaseClimate) (c : Consignment) : Consignment :=
  if c.state = .receiving then { c with caseId := optTag id, caseClimate := climate }
  else { c with caseId := optTag id }

/-- A CASE read at the dock (R108). -/
def routeDockCase (id : Tag) (climate : Option CaseClimate) (s : State) : State × Signal :=
  match s.consignments.find? Consignment.courierHere with
  | some c => (updateRecord c.number (storeCase id climate) s, .accept)
  | none => unknownTag .case id s

/-- A record that receives a cartridge from the courier (R109, question 2). -/
def receives (t : Tag) (c : Consignment) : Bool :=
  c.direction == .inbound && c.state == .receiving && c.entries.any (waitingWith t)

/-- The custody entry that a received cartridge creates (R109). -/
def receivedEntry (t : Tag) (num : Nat) (e : Entry) : CustodyEntry :=
  newCustody t .held (some num) (optNumber e.station) (some e.slot)

/-- A WAITING entry received from the courier (R109, R124). -/
def receiveCartridge (t : Tag) (c : Consignment) (s : State) : State :=
  match c.entries.find? (waitingWith t) with
  | some e =>
    settleOffers
      (addCustody (receivedEntry t c.number e)
        (updateRecord c.number (fun c => { c with entries := setFirst (waitingWith t) .active c.entries }) s))
  | none => s

/-- Question 3 at the dock: HELD under an OUTBOUND record in COURIER_PRESENT (R109). -/
def loadable (t : Tag) (s : State) : Bool :=
  match findCustody t s with
  | some e =>
    e.state == .held &&
      s.consignments.any (fun c => e.consignment == some c.number && c.direction == .outbound &&
        c.state == .courierPresent)
  | none => false

/-- A HELD entry loaded (R146). -/
def loadEntry (t : Tag) (s : State) : State :=
  updateCustody t (fun e => { e with state := .loaded, wait := .none, owed := none }) s

/-- A LOADED entry unloaded (R146). -/
def unloadRead (t : Tag) (s : State) : State := settleOffers (updateCustody t (fun e => { e with state := .held }) s)

/-- Questions 3 to 5 at the dock (R109). -/
def dockKnown (t : Tag) (s : State) : State × Signal :=
  if loadable t s then (loadEntry t s, .accept)
  else if inCustodyAs t .loaded s then (unloadRead t s, .accept)
  else unknownTag .cartridge t s

/-- A CARTRIDGE read at the dock (R109). -/
def routeDockCartridge (t : Tag) (s : State) : State × Signal :=
  if inCustodyAs t .expected s then (claimExpected t s, .accept)
  else if (findCustody t s).isSome then dockKnown t s
  else match s.consignments.find? (receives t) with
    | some c => if custodyFull s then (s, .reject) else (receiveCartridge t c s, .accept)
    | none => dockKnown t s

/-- The routing of one read, by role and kind (R104 to R109). -/
def route (k : TagKind) (id : Tag) (climate : Option CaseClimate) (s : State) : State × Signal :=
  match s.role, k with
  | .bay, .cartridge => routeBayCartridge id s
  | .bay, _ => unknownTag k id s
  | .dock, .cartridge => routeDockCartridge id s
  | .dock, .badge => routeDockBadge id s
  | .dock, .case => routeDockCase id climate s

/-- A read is a bounce of the last routed one (R103). -/
def isBounce (id : Tag) (r : ReaderPort) : Bool := r.bounce.isSome && r.lastId == some id

/-- A good READ response with status OK: discarded as a bounce, or routed with its signal (R103, R104). -/
def routeRead (k : TagKind) (id : Tag) (climate : Option CaseClimate) (s : State) : State :=
  if isBounce id s.reader then s
  else
    let t := withReader { s.reader with lastId := some id, bounce := some Config.bounceSeconds } s
    let routed := route k id climate t
    requestSignal routed.2 routed.1

/-- The outcome of a good READ response (R104). -/
def goodRead (recovery : Bool) (r : ReadStatus) (s : State) : State :=
  match r with
  | .ok k id climate => routeRead k id climate s
  | .noTag => if recovery then s else requestSignal .reject s
  | .multiple => if recovery then s else requestSignal .reject s

/-! ## Commands -/

/-- ATTENTION_RISE (R100). -/
def attentionRise (s : State) : State := readerNext (withReader { s.reader with readPending := true } s)

def execAttentionRise (s : State) : Host.Outcome State Fault Refusal := runEvent attentionRise s

/-- READ_RESPONSE: a response not yet complete ends nothing (R99, R101, R104). -/
def readResponse (chars : List Byte) (s : State) : State :=
  match s.reader.transaction with
  | some (.read recovery) =>
    match readResponseOf chars with
    | .incomplete => s
    | .malformed => readerNext (badResponse s)
    | .good r => readerNext (goodRead recovery r (goodResponse s))
  | _ => s

def execReadResponse (chars : List Byte) (s : State) : Host.Outcome State Fault Refusal :=
  runEvent (readResponse chars) s

/-- The character of a signal response: busy, acknowledge, or malformed (R99, R101). -/
def signalAnswered (char : Byte) (s : State) : State :=
  if char = busyChar then s
  else if char = ackChar then readerNext (goodResponse s)
  else readerNext (badResponse s)

/-- SIGNAL_RESPONSE (R101). -/
def signalResponse (char : Byte) (s : State) : State :=
  match s.reader.transaction with
  | some .signalAccept => signalAnswered char s
  | some .signalReject => signalAnswered char s
  | _ => s

def execSignalResponse (char : Byte) (s : State) : Host.Outcome State Fault Refusal :=
  runEvent (signalResponse char) s

/-- RESPONSE_TIMEOUT (R99, R101). -/
def responseTimeout (s : State) : State :=
  if s.reader.transaction.isSome then readerNext (badResponse s) else s

def execResponseTimeout (s : State) : Host.Outcome State Fault Refusal := runEvent responseTimeout s

/-- BOUNCE_TIMER_EXPIRY (R103). -/
def bounceOver (s : State) : State := withReader { s.reader with bounce := none } s

def execBounceTimerExpiry (s : State) : Host.Outcome State Fault Refusal := runEvent bounceOver s

/-- RECOVERY_TIMER_EXPIRY: a recovery READ is started (R102). -/
def recoveryOver (s : State) : State :=
  if s.reader.recovery.isSome && s.reader.transaction.isNone then
    withReader (startTransaction (.read true) s.reader) s
  else s

def execRecoveryTimerExpiry (s : State) : Host.Outcome State Fault Refusal := runEvent recoveryOver s

/-- READER_RESTART_DELAY_EXPIRY (R110). -/
def readerDelayOver (s : State) : State := readerNext (withReader { s.reader with waiting := false } s)

def execReaderRestartDelayExpiry (s : State) : Host.Outcome State Fault Refusal := runEvent readerDelayOver s

end Sys2Proof.Machine
end

