-- ==== Sys2Proof/Machine/Line.lean ====
section
/-! DEFINITION. The line controller's receiving side: discarded frames, the acceptance tests, the peer table, queries and
the line's troubles and timers (R165 to R171, R175 to R178, R180). -/

namespace Sys2Proof.Machine

/-- The line controller's record written. -/
def withLine (l : LineController) (s : State) : State := { s with line := l }

/-! ## Discarded frames and troubles of the line (R176, R177) -/

/-- A discarded frame counted; the eighth in a window sets LINE_NOISY (R176). -/
def countDiscard (s : State) : State :=
  let t := withLine { s.line with discards := s.line.discards + 1 } s
  if t.line.discards = Config.noisyDiscards then setTrouble .lineNoisy true t else t

/-- A read-back mismatch counted; the sixteenth in a row sets LINE_NOISY (R174, R176). -/
def countMismatch (s : State) : State :=
  let t := withLine { s.line with mismatches := s.line.mismatches + 1, windowMismatch := true } s
  if t.line.mismatches = Config.noisyMismatches then setTrouble .lineNoisy true t else t

/-- STATION_CONFLICT set, with its timer started or restarted (R177). -/
def stationConflict (s : State) : State :=
  setTrouble .stationConflict true (withLine { s.line with conflictTimer := some s.cfg.statusInterval } s)

/-- Whether a frame is in progress, written (R165). -/
def setReceiving (b : Bool) (s : State) : State := withLine { s.line with receiving := b } s

/-! ## Acceptance (R168, R169) -/

/-- The judgement of a complete frame (R168). -/
inductive Verdict where
  | counted
  | conflict
  | uncounted
  | valid
  deriving DecidableEq, Repr

/-- The three tests of R168, in their order, for a station of an own number. -/
def judgeFrame (own : Nat) (kind : Byte) (f : Frame) : Verdict :=
  if !checkGood kind f then .counted
  else if f.src.toNat = own then .conflict
  else if !lengthAllowed kind f.payload.length then .counted
  else if f.src.toNat < 1 ∨ 30 < f.src.toNat then .uncounted
  else .valid

/-- A peer table entry marked heard. -/
def Peer.markHeard (p : Peer) : Peer := { p with heard := true }

/-- The peer table entry of a station number. -/
def peerOf (n : Nat) (s : State) : Peer := s.line.peers.getD (n - 1) Peer.unheard

/-- The peer table entry of a station number written. -/
def setPeer (n : Nat) (p : Peer) (s : State) : State :=
  withLine { s.line with peers := s.line.peers.set (n - 1) p } s

/-- The source of a frame as a station number. -/
def sourceOf (f : Frame) : Nat := f.src.toNat

/-- A frame addressed to this station or to all (R168). -/
def addressedHere (f : Frame) (s : State) : Bool := f.dst.toNat == 0 || f.dst.toNat == ownNumber s

/-- A valid frame: with STRAP_INVALID nothing; else its source is marked heard and, if it is accepted, its owner acts
(R168, R182). -/
def validFrame (f : Frame) (act : State → State) (s : State) : State :=
  if troubleActive .strapInvalid s then s
  else
    let t := setPeer (sourceOf f) (peerOf (sourceOf f) s).markHeard s
    if addressedHere f t then act t else t

/-- A complete frame of a kind reaches the receiver: while the station drives the line its receiver takes no frame;
else the tests of R168, and the owner's act for an accepted one. -/
def receive (kind : Byte) (f : Frame) (act : State → State) (s : State) : State :=
  if s.line.tx.isSome then s
  else
    let t := setReceiving false s
    match judgeFrame (ownNumber s) kind f with
    | .counted => countDiscard t
    | .conflict => stationConflict t
    | .uncounted => t
    | .valid => validFrame f act t

/-- The source check of R169: console frames are acted on only from the configured console. -/
def fromConsole (f : Frame) (s : State) : Bool := s.cfg.console != 0 && sourceOf f == s.cfg.console

/-- An act for the console alone (R169). -/
def consoleOnly (f : Frame) (act : State → State) (s : State) : State := if fromConsole f s then act s else s

/-! ## The peer table (R170, R171) -/

/-- The abort-active, manual, running and requesting flags of a flag byte. -/
def flagAt (b : Byte) (i : Nat) : Bool := b.getLsbD i

/-- The fire fields of a STATE payload (13_frame_and_record_formats.md). -/
def stateFire (p : List Byte) : PeerFire :=
  { group := (byteAt p 1).toNat, fire := (byteAt p 2).toNat, alarms := (byteAt p 3).toNat,
    countdown := (byteAt p 4).toNat, abort := flagAt (byteAt p 5) 0, manual := flagAt (byteAt p 5) 1 }

/-- The other fields that the peer table takes from a STATE payload. -/
def stateFields (p : List Byte) : PeerState :=
  { role := (byteAt p 0).toNat, running := flagAt (byteAt p 5) 2, requesting := flagAt (byteAt p 5) 3,
    excess := wordAt p 15, custody := (byteAt p 17).toNat }

/-- The fire fields of an ALARM payload. -/
def alarmFire (p : List Byte) : PeerFire :=
  { group := (byteAt p 4).toNat, fire := (byteAt p 0).toNat, alarms := (byteAt p 1).toNat,
    countdown := (byteAt p 2).toNat, abort := flagAt (byteAt p 3) 0, manual := flagAt (byteAt p 3) 1 }

/-- An entry after a STATE (R170). -/
def Peer.afterState (p : List Byte) (e : Peer) : Peer :=
  { e with fresh := true, age := 0, awaiting := false, fire := some (stateFire p), state := some (stateFields p) }

/-- An entry after an ALARM, which does not refresh one that awaits a STATE (R170). -/
def Peer.afterAlarm (p : List Byte) (e : Peer) : Peer :=
  if e.awaiting then { e with fresh := false, age := 3, fire := some (alarmFire p) }
  else { e with fresh := true, age := 0, fire := some (alarmFire p) }

/-- A peer update: the entry is written, and the fire controller, the allotter and the handover engine act on it
(R170). -/
def peerUpdate (n : Nat) (kind : UpdateKind) (after : Peer) (s : State) : State :=
  reofferChecks n kind after (evaluateGrant (firePeerUpdate (peerOf n s) after (setPeer n after s)))

/-- A STATE taken into the peer table (R170). -/
def takeState (n : Nat) (p : List Byte) (s : State) : State := peerUpdate n .state ((peerOf n s).afterState p) s

/-- An ALARM taken into the peer table (R170). -/
def takeAlarm (n : Nat) (p : List Byte) (s : State) : State := peerUpdate n .alarm ((peerOf n s).afterAlarm p) s

/-- A staleness notice, for one peer or for every peer: the fire controller and the allotter (R171). -/
def staleNotice (s : State) : State := evaluateGrant (fireStale s)

/-- The age of a fresh entry rises; at 3 it becomes stale (R171). -/
def Peer.grow (p : Peer) : Peer :=
  if p.fresh then
    (if p.age + 1 < Config.staleAge then { p with age := p.age + 1 }
     else { p with age := Config.staleAge, fresh := false })
  else p

/-- Whether an entry goes stale at this expiry. -/
def Peer.goesStale (p : Peer) : Bool := p.fresh && Config.staleAge ≤ p.age + 1

/-- The ages raised, with one staleness notice for each entry that goes stale (R171). -/
def raiseAges (s : State) : State :=
  (s.line.peers.filter Peer.goesStale).foldl (fun s _ => staleNotice s)
    (withLine { s.line with peers := s.line.peers.map Peer.grow } s)

/-- An entry at the clearing of LINE_STUCK (R171). -/
def Peer.recover (p : Peer) : Peer :=
  if p.heard then { p with fresh := false, age := Config.staleAge, awaiting := true } else p

/-! ## Queries (R180) -/

/-- A query subject code. -/
def subjectOfCode (n : Nat) : Option Subject :=
  match n with
  | 1 => some .slots
  | 2 => some .custody
  | 3 => some .consignment
  | 4 => some .history
  | 5 => some .peers
  | 6 => some .episode
  | _ => none

/-- An accepted QUERY takes a place of the answer queue, if it names a subject and a place is free (R180). -/
def takeQuery (source : Nat) (p : List Byte) (s : State) : State :=
  match subjectOfCode (byteAt p 0).toNat with
  | some subject =>
    if s.line.answers.length < Config.answerMax then
      withLine
        { s.line with answers := s.line.answers ++
            [{ subject := subject, start := (byteAt p 1).toNat, consignment := wordAt p 2, source := source }] } s
    else s
  | none => s

/-! ## Read-back failure (R174) -/

/-- A frame goes back to its class as a retry (R174). -/
def retryFrame (t : Transmission) (l : LineController) : LineController :=
  match t.cls with
  | .alarm => { l with alarmQueued := true }
  | .state => { l with stateQueued := true }
  | .handover => { l with handoverRetry := some t.sent }
  | .answer => { l with answerRetry := some t.sent }
  | .report => { l with reportRetry := some t.sent }

/-- A frame being sent fails read-back: it goes back to its class and the mismatch is counted (R174, R176). -/
def failReadback (s : State) : State :=
  match s.line.tx with
  | some t => countMismatch (withLine { retryFrame t s.line with tx := none } s)
  | none => s

/-! ## Commands -/

/-- A frame discarded by the receiver; none is received while the station drives the line (R165, R166, R168). -/
def discardFrame (cause : DiscardCause) (s : State) : State :=
  match cause with
  | .framingError => if s.line.tx.isSome then s else countDiscard (setReceiving false s)
  | .markedCharacter => if s.line.tx.isSome then s else countDiscard (setReceiving true s)
  | .lengthAbove48 => if s.line.tx.isSome then s else countDiscard (setReceiving false s)
  | .complete kind f => receive kind f id s

def execDiscardedFrame (cause : DiscardCause) (s : State) : Host.Outcome State Fault Refusal :=
  runEvent (discardFrame cause) s

/-- FRAME_GAP_TIMEOUT (R166). -/
def frameGap (s : State) : State := if s.line.tx.isSome then s else countDiscard (setReceiving false s)

def execFrameGapTimeout (s : State) : Host.Outcome State Fault Refusal := runEvent frameGap s

/-- LINE_STUCK_SET: the trouble is set, then a frame being received is abandoned and counted, and one being sent fails
read-back (R175). -/
def lineStuck (receiving : Bool) (s : State) : State :=
  let t := setTrouble .lineStuck true s
  failReadback (if receiving || s.line.receiving then countDiscard (setReceiving false t) else t)

def execLineStuckSet (receiving : Bool) (s : State) : Host.Outcome State Fault Refusal :=
  runEvent (lineStuck receiving) s

/-- LINE_STUCK_CLEAR: the peer table takes the recovery values, with one notice for every peer (R171, R175). -/
def lineRecovered (s : State) : State :=
  if troubleActive .lineStuck s then
    staleNotice
      (setTrouble .lineStuck false (withLine { s.line with peers := s.line.peers.map Peer.recover } s))
  else s

def execLineStuckClear (s : State) : Host.Outcome State Fault Refusal := runEvent lineRecovered s

/-- READBACK_FAILURE (R174). -/
def execReadbackFailure (s : State) : Host.Outcome State Fault Refusal := runEvent failReadback s

/-- The LINE_NOISY window closed (R176). -/
def closeWindow (s : State) : State :=
  let t := if s.line.discards = 0 ∧ ¬ s.line.windowMismatch then setTrouble .lineNoisy false s else s
  withLine { t.line with discards := 0, windowMismatch := false } t

/-- STATUS_TIMER_EXPIRY (R178). -/
def statusOver (s : State) : State :=
  closeWindow (raiseAges (queueState (withLine { s.line with statusTimer := some s.cfg.statusInterval } s)))

def execStatusTimerExpiry (s : State) : Host.Outcome State Fault Refusal := runEvent statusOver s

/-- CONFLICT_TIMER_EXPIRY (R177). -/
def conflictOver (s : State) : State :=
  if s.line.conflictTimer.isSome then
    setTrouble .stationConflict false (withLine { s.line with conflictTimer := none } s)
  else s

def execConflictTimerExpiry (s : State) : Host.Outcome State Fault Refusal := runEvent conflictOver s

end Sys2Proof.Machine
end

