-- ==== Sys2Proof/Machine/Transmit.lean ====
section
/-! DEFINITION. The line controller's sending side: the frames it builds, the answers, the transmitter arbiter and the end
of a frame (R43, R134, R172 to R174, R179 to R181, R192). -/

namespace Sys2Proof.Machine

/-! ## Payloads (13_frame_and_record_formats.md) -/

/-- The countdown a frame shows: the remaining in PRE_DISCHARGE, else 0 (R43). -/
def shownCountdown (s : State) : Nat := if s.fire.state = .preDischarge then s.fire.countdown.getD 0 else 0

/-- The flag byte of an ALARM. -/
def alarmFlags (s : State) : Nat := flagBit (reportedFire s).abort 0 + flagBit (reportedFire s).manual 1

/-- The ALARM payload (R43). -/
def alarmPayload (s : State) : List Byte :=
  [toByte s.fire.state.code, toByte (reportedFire s).alarms, toByte (shownCountdown s), toByte (alarmFlags s),
   toByte s.cfg.spaceGroup]

/-- The flag byte of a STATE. -/
def stateFlags (s : State) : Nat :=
  alarmFlags s + flagBit s.allot.running 2 + flagBit s.allot.request 3 + flagBit s.line.reportsLost 4 +
    flagBit s.climate.bay.isSome 5

/-- The trouble summary as its four bytes, high byte first. -/
def summaryBytes (v : TroubleBits) : List Byte :=
  [toByte (v.toNat / 16777216), toByte (v.toNat / 65536), toByte (v.toNat / 256), toByte v.toNat]

/-- The STATE payload (R173). -/
def statePayload (s : State) : List Byte :=
  let b := bayOrZero s.climate.bay
  [toByte (roleCode s.role), toByte s.cfg.spaceGroup, toByte s.fire.state.code, toByte (reportedFire s).alarms,
   toByte (shownCountdown s), toByte (stateFlags s)] ++
  summaryBytes s.out.active ++ [toByte s.climate.state.code] ++ bytes16 b.rh ++ signedBytes16 b.t ++
  bytes16 (excess s) ++ [toByte s.custody.entries.length, toByte s.consignments.length]

/-- A REPORT payload (13_frame_and_record_formats.md, REPORT). -/
def reportPayload (r : Report) : List Byte :=
  [toByte r.kind.code, toByte r.number] ++ bytes16 r.consignment ++ tagBytes r.tag ++ [toByte r.code] ++
    signedBytes16 r.value1 ++ signedBytes16 r.value2

/-- A REPORT frame to the console number as it stands at the take, also for a report queued before a new image was read
(R179, log 46). -/
def reportFrame (r : Report) (s : State) : SentFrame := buildFrame kindReport s.cfg.console (ownNumber s) (reportPayload r)

/-- The number and the tag that begin every handover frame. -/
def handoverHead (num : Nat) (t : Tag) : List Byte := bytes16 num ++ tagBytes t

/-- The frame of a reply (R132). -/
def replyFrame (r : Reply) (s : State) : SentFrame :=
  match r.kind with
  | .refuse reason =>
    buildFrame kindRefuse r.dst (ownNumber s) (handoverHead r.consignment r.tag ++ [toByte reason.code])
  | .late => buildFrame kindLate r.dst (ownNumber s) (handoverHead r.consignment r.tag)

/-- The kind code of an owed frame. -/
def OwedFrame.kind (f : OwedFrame) : Byte :=
  match f with
  | .offer => kindOffer
  | .taken => kindTaken
  | .cleared => kindCleared
  | .withdraw => kindWithdraw
  | .late => kindLate

/-- What an OFFER adds: the slot from the dock and 0 from a bay, the hold minutes and the flag (R135). -/
def offerTail (role : Role) (e : CustodyEntry) : List Byte :=
  [toByte (if role = .dock then e.slot.getD 0 else 0)] ++ bytes16 e.hold ++ [toByte (flagBit e.quarantine 0)]

/-- The payload of an owed frame (R133, R135). -/
def owedPayload (f : OwedFrame) (role : Role) (e : CustodyEntry) : List Byte :=
  handoverHead (e.consignment.getD 0) e.tag ++ (if f = .offer then offerTail role e else [])

/-- The frame an entry owes, to its peer station (R133, R134). -/
def owedFrame (f : OwedFrame) (e : CustodyEntry) (s : State) : SentFrame :=
  buildFrame f.kind (e.peer.getD 0) (ownNumber s) (owedPayload f s.role e)

/-! ## Answer records (R181, R192)

A byte of a record is `none` where the value is absent and the spec states no byte for it. -/

/-- A record of an answer. -/
abbrev AnswerBytes := List (Option Byte)

/-- Stated bytes. -/
def stated (l : List Byte) : AnswerBytes := l.map some

/-- A field of one byte that may be absent. -/
def optByte (n : Option Nat) : AnswerBytes :=
  match n with
  | some n => [some (toByte n)]
  | none => [none]

/-- A field of two bytes that may be absent. -/
def optWord (n : Option Nat) : AnswerBytes :=
  match n with
  | some n => stated (bytes16 n)
  | none => [none, none]

/-- A signed field of two bytes that may be absent. -/
def optSigned (z : Option Int) : AnswerBytes :=
  match z with
  | some z => stated (signedBytes16 z)
  | none => [none, none]

/-- The tag field of a slot record: the expected tag while AWAITED, also as a kept prior state (R192). -/
def slotAnswerTag (sl : Slot) : Tag :=
  match sl.state with
  | .awaited => sl.expected.getD 0
  | .unexpectedPresence .awaited => sl.expected.getD 0
  | _ => sl.reportTag

/-- A SLOTS record, 15 bytes. An UNEXPECTED slot of kind PRESENCE shows the consignment number that its kept prior state
keeps, which R82 and R192 leave open (DESIGN CHOICE, log 43). -/
def slotAnswer (sl : Slot) : AnswerBytes :=
  stated ([toByte sl.number, toByte sl.state.code, toByte sl.state.detail] ++ tagBytes (slotAnswerTag sl) ++
    bytes16 (sl.consignment.getD 0)) ++ optWord sl.hold

/-- A CUSTODY record, 18 bytes. -/
def custodyAnswer (e : CustodyEntry) : AnswerBytes :=
  stated (tagBytes e.tag ++ [toByte e.state.code, toByte (flagBit e.quarantine 0)] ++
    bytes16 (e.consignment.getD 0)) ++ optByte e.peer ++ optByte e.slot ++ stated (bytes16 e.hold) ++ optWord e.timer

/-- A CONSIGNMENT record, 13 bytes; no byte is stated for the failure reason of an entry that is not FAILED (log 3). -/
def entryAnswer (e : Entry) : AnswerBytes :=
  stated (tagBytes (e.tag.getD 0) ++ [toByte e.station, toByte e.slot, toByte (flagBit e.last 0), toByte e.state.code]) ++
    optByte e.state.reasonCode

/-- The flag byte of a HISTORY record. -/
def historyFlags (r : HistoryRecord) : Nat :=
  flagBit r.bay.isSome 0 + flagBit r.running 1 + flagBit r.fireRaised 2

/-- A HISTORY record, 10 bytes. -/
def historyAnswer (r : HistoryRecord) : AnswerBytes :=
  stated [toByte (r.stamp.toNat / 65536), toByte (r.stamp.toNat / 256), toByte r.stamp.toNat,
    toByte (historyFlags r), toByte r.climate.code, toByte r.excursion.code] ++
  optWord (r.bay.map fun b => b.rh) ++ optSigned (r.bay.map fun b => b.t)

/-- The standing code of a PEERS record: 0 unheard, 1 fresh, 2 stale. -/
def Peer.standing (p : Peer) : Nat := if !p.heard then 0 else if p.fresh then 1 else 2

/-- The flag byte of a PEERS record. -/
def Peer.flags (p : Peer) : Nat :=
  flagBit p.awaiting 0 + flagBit (p.fire.any fun f => f.abort) 1 + flagBit (p.fire.any fun f => f.manual) 2 +
    flagBit (p.state.any fun f => f.running) 3 + flagBit (p.state.any fun f => f.requesting) 4

/-- A PEERS record, 12 bytes; an absent role is 0. -/
def peerAnswer (n : Nat) (p : Peer) : AnswerBytes :=
  stated [toByte n, toByte p.standing, toByte p.flags, toByte p.age, toByte ((p.state.map fun f => f.role).getD 0)] ++
  optByte (p.fire.map fun f => f.group) ++ optByte (p.fire.map fun f => f.fire) ++
  optByte (p.fire.map fun f => f.alarms) ++ optByte (p.fire.map fun f => f.countdown) ++
  optWord (p.state.map fun f => f.excess) ++ optByte (p.state.map fun f => f.custody)

/-- The PEERS records of entries, the first that of station `n`, without the own number's. -/
def peerAnswers (own : Nat) : Nat → List Peer → List AnswerBytes
  | _, [] => []
  | n, p :: rest => if n = own then peerAnswers own (n + 1) rest else peerAnswer n p :: peerAnswers own (n + 1) rest

/-- The EPISODE record: the status byte alone in status NONE, else 10 bytes. -/
def episodeAnswer (e : Episode) : AnswerBytes :=
  if e.status = .none then stated [toByte e.status.code]
  else
    stated [toByte e.status.code, toByte (flagBit e.discharged 0 + flagBit e.extremes.isSome 1)] ++
    optSigned (e.extremes.map fun x => x.tMin) ++ optSigned (e.extremes.map fun x => x.tMax) ++
    optWord (e.extremes.map fun x => x.rhMax) ++ stated (bytes16 e.count)

/-- The records one answer carries at most (R180): the least of the subject's maximum and what fits. -/
def Subject.fit (q : Subject) : Nat :=
  match q with
  | .slots => 3
  | .custody => 2
  | .consignment => 3
  | .history => 4
  | .peers => 3
  | .episode => 1

/-- The owner's records from a query's start onward (R181). -/
def answerRecords (q : Query) (s : State) : List AnswerBytes :=
  match q.subject with
  | .slots => (s.scanner.slots.filter fun sl => max 1 q.start ≤ sl.number).map slotAnswer
  | .custody => (s.custody.entries.drop q.start).map custodyAnswer
  | .consignment =>
    match findRecord q.consignment s with
    | some c => (c.entries.drop q.start).map entryAnswer
    | none => []
  | .history => (s.climate.history.drop q.start).map historyAnswer
  | .peers => peerAnswers (ownNumber s) (max 1 q.start) (s.line.peers.drop (max 1 q.start - 1))
  | .episode => if q.start = 0 then [episodeAnswer s.climate.episode] else []

/-- The record header of a CONSIGNMENT answer, left out when the number is not in the table. -/
def answerHeader (q : Query) (s : State) : AnswerBytes :=
  if q.subject = .consignment then
    match findRecord q.consignment s with
    | some c => stated (bytes16 c.number ++ [toByte c.direction.code, toByte c.state.code])
    | none => []
  else []

/-- The bytes of an answer (R180). -/
def answerBytes (q : Query) (s : State) : AnswerBytes :=
  let records := (answerRecords q s).take q.subject.fit
  stated [toByte q.subject.code, toByte q.start, toByte records.length] ++ answerHeader q s ++ records.flatten

/-- The unstated bytes filled with free values from counter `k` on (log 3). -/
def fillFree : Nat → AnswerBytes → List Byte
  | _, [] => []
  | k, some b :: rest => b :: fillFree k rest
  | k, none :: rest => Config.freeByte k :: fillFree (k + 1) rest

/-- The unstated bytes of an answer. -/
def countFree (l : AnswerBytes) : Nat := (l.filter Option.isNone).length

/-- An ANSWER frame to the query's source (R180). -/
def answerFrame (q : Query) (s : State) : SentFrame :=
  buildFrame kindAnswer q.source (ownNumber s) (fillFree s.freeCount (answerBytes q s))

/-! ## The transmitter arbiter (R172, R173) -/

/-- The index of a class (R172). -/
def TxClass.index (c : TxClass) : Nat :=
  match c with
  | .alarm => 0
  | .handover => 1
  | .answer => 2
  | .report => 3
  | .state => 4

/-- The access gap of a class at a station number, in bit times (R172). -/
def accessGap (c : TxClass) (own : Nat) : Nat := 4 + 36 * c.index + own

/-- The oldest entry that owes a frame, passing over an owed OFFER under giver suspension (R134). -/
def owingEntry (s : State) : Option CustodyEntry :=
  s.custody.entries.find? fun e =>
    match e.owed with
    | some .offer => !s.custody.suspended
    | some _ => true
    | none => false

/-- Whether the handover engine would hand over a frame (R134). -/
def handoverWaiting (s : State) : Bool := !s.custody.replies.isEmpty || (owingEntry s).isSome

/-- Whether a class has a frame waiting (R173). -/
def classWaiting (s : State) (c : TxClass) : Bool :=
  match c with
  | .alarm => s.line.alarmQueued
  | .handover => s.line.handoverRetry.isSome || handoverWaiting s
  | .answer => s.line.answerRetry.isSome || !s.line.answers.isEmpty
  | .report => s.line.reportRetry.isSome || !s.line.reports.isEmpty
  | .state => s.line.stateQueued

/-- The classes from lowest to highest (R172). -/
def txClasses : List TxClass := [.alarm, .handover, .answer, .report, .state]

/-- The lowest class that has a frame waiting (R173). -/
def lowestWaiting (s : State) : Option TxClass := txClasses.find? (classWaiting s)

/-- A frame on the line. -/
def sending (c : TxClass) (f : SentFrame) (lost : Bool) : Option Transmission :=
  some { cls := c, sent := f, carriesLost := lost }

/-- The ALARM taken from its slot. -/
def takeAlarmSlot (s : State) : State :=
  withLine
    { s.line with alarmQueued := false,
                  tx := sending .alarm (buildFrame kindAlarm 0 (ownNumber s) (alarmPayload s)) false } s

/-- The STATE taken from its slot, with the reports-lost flag as it stands (R173, R179). -/
def takeStateSlot (s : State) : State :=
  withLine
    { s.line with stateQueued := false, droppedSinceTake := false,
                  tx := sending .state (buildFrame kindState 0 (ownNumber s) (statePayload s)) s.line.reportsLost } s

/-- What the sending of an owed frame does to its entry, whose mark is cleared (R134). -/
def afterTaken (f : OwedFrame) (window : Nat) (e : CustodyEntry) : CustodyEntry :=
  match f with
  | .offer => { e with state := .offered, timer := some window, owed := none }
  | .taken => { e with timer := some Config.confirmSeconds, owed := none }
  | _ => { e with owed := none }

/-- The entry whose owed frame is taken; a RELEASED one with no number goes with its CLEARED (R134). -/
def takeOwed (f : OwedFrame) (e : CustodyEntry) (s : State) : State :=
  if f = .cleared ∧ e.state = .released ∧ e.consignment.isNone then removeCustody e.tag s
  else updateCustody e.tag (afterTaken f s.cfg.handoverWindow) s

/-- A handover frame handed over by the handover engine: the oldest reply, else the oldest owed frame (R134). -/
def takeHandover (s : State) : State :=
  match s.custody.replies with
  | r :: rest =>
    withLine { s.line with tx := sending .handover (replyFrame r s) false }
      { s with custody := { s.custody with replies := rest } }
  | [] =>
    match owingEntry s with
    | some e =>
      match e.owed with
      | some f => withLine { s.line with tx := sending .handover (owedFrame f e s) false } (takeOwed f e s)
      | none => s
    | none => s

/-- The oldest place of the answer queue taken: its answer is built as the records stand (R180). -/
def takeAnswer (s : State) : State :=
  match s.line.answers with
  | q :: rest =>
    withLine { s.line with answers := rest, tx := sending .answer (answerFrame q s) false }
      { s with freeCount := s.freeCount + countFree (answerBytes q s) }
  | [] => s

/-- The oldest report taken (R173). -/
def takeReport (s : State) : State :=
  match s.line.reports with
  | r :: rest => withLine { s.line with reports := rest, tx := sending .report (reportFrame r s) false } s
  | [] => s

/-- The frame of a class taken, a retry before every other frame of the class (R173, R174). -/
def takeClass (c : TxClass) (s : State) : State :=
  match c with
  | .alarm => takeAlarmSlot s
  | .handover =>
    match s.line.handoverRetry with
    | some f => withLine { s.line with handoverRetry := none, tx := sending .handover f false } s
    | none => takeHandover s
  | .answer =>
    match s.line.answerRetry with
    | some f => withLine { s.line with answerRetry := none, tx := sending .answer f false } s
    | none => takeAnswer s
  | .report =>
    match s.line.reportRetry with
    | some f => withLine { s.line with reportRetry := none, tx := sending .report f false } s
    | none => takeReport s
  | .state => takeStateSlot s

/-- The transmitter takes frames: nothing is on the line, and neither LINE_STUCK nor STRAP_INVALID is set (R173). -/
def transmitterFree (s : State) : Bool :=
  s.line.tx.isNone && !troubleActive .lineStuck s && !troubleActive .strapInvalid s

/-! ## Commands -/

/-- TRANSMIT_START with the idle time of the line in bit times (R172, R173). -/
def transmitStart (idle : Nat) (s : State) : State :=
  if transmitterFree s then
    match lowestWaiting s with
    | some c => if accessGap c (ownNumber s) ≤ idle then takeClass c s else s
    | none => s
  else s

def execTransmitStart (idle : Nat) (s : State) : Host.Outcome State Fault Refusal := runEvent (transmitStart idle) s

/-- FRAME_SENT: the mismatch count returns to 0, and a STATE that carried the reports-lost flag clears it where no report
was dropped since its take (R174, R179). -/
def frameSent (s : State) : State :=
  match s.line.tx with
  | some t =>
    withLine
      { s.line with tx := none, mismatches := 0,
                    reportsLost := if t.carriesLost && !s.line.droppedSinceTake then false else s.line.reportsLost } s
  | none => s

def execFrameSent (s : State) : Host.Outcome State Fault Refusal := runEvent frameSent s

end Sys2Proof.Machine
end

