-- ==== Sys2Proof/Machine/Startup.lean ====
section
/-! DEFINITION. Start-up, configuration and the contacts: power-on, the reset pin, the image, RESTART with every owner's
restart values, uptime, the door and the mains-fail contact (R17, R18, R44, R45, R65, R78, R97, R98, R110, R130, R151,
R164, R182 to R189). -/

namespace Sys2Proof.Machine

/-! ## Power-on and the reset pin (R183, R185) -/

/-- The start begun: every block at its power-on values and the straps read; only the queue of commands and the counter
of the free values are kept (R183, R185 steps 1 and 3). -/
def beginStart (own : Strap) (role : Role) (s : State) : State :=
  setActive .strapInvalid (!strapValid own)
    { State.reset with
      phase := .readingImage, own := own, role := role, freeCount := s.freeCount, pending := s.pending }

/-- POWER_ON (R185). -/
def execPowerOn (own : Strap) (role : Role) (s : State) : Host.Outcome State Fault Refusal :=
  .next (beginStart own role s)

/-- RESET_PIN (R185). -/
def execResetPin (own : Strap) (role : Role) (s : State) : Host.Outcome State Fault Refusal :=
  .next (beginStart own role s)

/-! ## The start of every block (R185 step 4) -/

/-- The input record of a type at start (R17). -/
def startInput (t : InputType) : InputRecord :=
  { settled := .unsettled, candidate := none,
    stage := match t with
      | .detector => .withheld
      | .pressure => .withheld
      | _ => .ready }

/-- The input supervisor at start, its first scan pending and its first sequence begun (R17). -/
def startSupervisor (cfg : Settings) : Supervisor :=
  { inputs := cfg.inputTypes.map startInput, conv := .idle, scanPending := true, seq := some Sequence.fresh, owed := 0,
    climateTimer := some cfg.climateInterval, badChecks := 0, goodChecks := 0 }

/-- The slot scanner at start: a count of 0 leaves the table with no records and takes no inventory, a table of the slot
count is kept, any other is built by inventory (R97, R98). -/
def startScanner (count : Nat) (sc : Scanner) : Scanner :=
  if count = 0 then { slots := [], drive := 1, inventory := none }
  else if sc.slots.length = count then { slots := sc.slots, drive := 1, inventory := none }
  else { slots := [], drive := 1, inventory := some { pass := 1, samples := List.replicate count false } }

/-- The reader port at start; after a RESTART it waits 50 ms first (R110). ATTENTION is looked at once, when the image has
been read, also where the wait follows: R110 leaves open which of the two moments counts (DESIGN CHOICE, log 44). -/
def startReader (waiting attention : Bool) : ReaderPort :=
  { transaction := none, readPending := attention, signalPending := none, timeouts := 0, lastId := none,
    bounce := none, recovery := none, waiting := waiting }

/-- The configured values taken from an image, with CONFIG_DEFAULT; the fire state is STABILIZING, so no report is
queued (R184, R187). -/
def applyImage (image : List Byte) (s : State) : State :=
  setActive .configDefault (judgeImage image).isNone { s with cfg := (judgeImage image).getD Settings.defaults }

/-- Every block started with the configured values (R185 step 4). -/
def startBlocks (attention : Bool) (s : State) : State :=
  { s with
    phase := .running, minuteLeft := Config.minuteSeconds,
    sup := startSupervisor s.cfg,
    fire := { s.fire with stabTimer := some Config.stabilizationSeconds },
    scanner := startScanner (slotCount s) s.scanner,
    reader := startReader (s.phase == .restarting) attention,
    hold := { seconds := Config.minuteSeconds, paused := true },
    line := { s.line with statusTimer := some s.cfg.statusInterval } }

/-- The image judged and every block started, with the first release circuit check, the first scan and the reader's
first transaction (R13, R17, R110, R185, R186). -/
def startStation (image : List Byte) (attention : Bool) (check : CircuitCheck) (s : State) : State :=
  readerNext (wakeArbiter (releaseCheck check (startBlocks attention (applyImage image s))))

/-- CONFIG_IMAGE_READ: only while an image is being read (R184 to R186). -/
def execConfigImageRead (image : List Byte) (attention : Bool) (firstCheck : CircuitCheck) (s : State) :
    Host.Outcome State Fault Refusal :=
  .next
    (match s.phase with
     | .readingImage => startStation image attention firstCheck s
     | .restarting => startStation image attention firstCheck s
     | _ => s)

/-- UPTIME_MINUTE (R185). -/
def minutePassed (s : State) : State := { s with uptime := s.uptime + 1, minuteLeft := Config.minuteSeconds }

def execUptimeMinute (s : State) : Host.Outcome State Fault Refusal := runEvent minutePassed s

/-! ## RESTART (R186) -/

/-- The troubles that their owners clear at a RESTART: all but RELEASE_ISOLATED, CONFIG_DEFAULT, STRAP_INVALID and
MAINS_FAIL (R18, R65, R110, R182, R186). -/
def restartTroubles : List Trouble :=
  allInputs.map Trouble.inputOpen ++ allInputs.map Trouble.inputShort ++
    [.releaseCircuit, .probeFault, .probeDisagree, .climateLost, .climateStarved, .lineStuck, .lineNoisy,
     .stationConflict, .readerFault]

/-- The active values those troubles take; the reported values are kept (R187). -/
def clearRestartTroubles (s : State) : State := restartTroubles.foldl (fun s t => setActive t false s) s

/-- The line controller's restart values (R182). -/
def restartLine (l : LineController) : LineController :=
  { l with
    receiving := false, peers := List.replicate 30 Peer.unheard, alarmQueued := false, stateQueued := false,
    answers := [], reports := [], handoverRetry := none, answerRetry := none, reportRetry := none, tx := none,
    reportsLost := false, droppedSinceTake := false, discards := 0, mismatches := 0, windowMismatch := false,
    conflictTimer := none, statusTimer := none }

/-- The input supervisor stopped (R18). -/
def stopSupervisor (cfg : Settings) : Supervisor :=
  { inputs := cfg.inputTypes.map startInput, conv := .idle, scanPending := false, seq := none, owed := 0,
    climateTimer := none, badChecks := 0, goodChecks := 0 }

/-- The fire controller's restart values; isolation is kept (R45). -/
def restartFire (f : FireRecord) : FireRecord :=
  { state := .stabilizing, latches := List.replicate 6 Latch.none, ownAbort := [], countdown := none, manual := false,
    isolated := f.isolated, silence := none, stabTimer := none, releasePulse := none, testTimer := none,
    testPulse := none, cadence := none }

/-- An episode at a RESTART: an OPEN one is closed (R63, R65). -/
def restartEpisode (e : Episode) : Episode := if e.status = .opened then { e with status := .closed } else e

/-- The climate unit's restart values; the history and the episode are kept (R65). -/
def restartClimate (c : ClimateRecord) : ClimateRecord :=
  { state := .starting, bay := none, holdTimer := none, excursion := .inBand, excursionTimer := none,
    history := c.history, storedSinceStart := false, episode := restartEpisode c.episode }

/-- The allotter's restart values (R78). -/
def restartAllotter : Allotter := { running := false, request := false, minRun := none, minOff := none, forced := true }

/-- The state of a slot after a RESTART that keeps the table (R98). -/
def restartSlot (sl : Slot) : Slot :=
  let sl := { sl with candidate := false }
  match sl.state with
  | .pullPending => { sl with state := .occupied, consignment := none }
  | .pulled => { sl with state := .unexpectedRemoval, window := none, consignment := none }
  | .awaited => { sl with state := afterAwaited sl, expected := none, consignment := none }
  | .returnPending => { sl with state := .out, window := none, consignment := none }
  | .unexpectedPresence .awaited =>
    { sl with state := .unexpectedPresence (priorAfterAwaited sl), expected := none, consignment := none }
  | _ => { sl with consignment := none }

/-- The reader port stopped by a RESTART; it will wait 50 ms when it starts again (R110). -/
def stopReader : ReaderPort := startReader true false

/-- Whether a custody entry stays through a RESTART (R151). -/
def staysAtRestart (e : CustodyEntry) : Bool :=
  match e.state with
  | .expected => false
  | .taking => false
  | .released => false
  | _ => true

/-- An OFFERED or SUSPENDED entry, which a RESTART makes ADRIFT (R151). -/
def CustodyEntry.lostByRestart (e : CustodyEntry) : Bool := e.state == .offered || e.state == .suspended

/-- A custody entry after a RESTART (R151). -/
def restartEntry (e : CustodyEntry) : CustodyEntry :=
  let kept := { e with consignment := none, wait := .none, timer := none, attempts := 0, owed := none }
  match e.state with
  | .offered => { kept with state := .adrift, owed := some .withdraw }
  | .suspended => { kept with state := .adrift, owed := some .withdraw }
  | .adrift => kept
  | .disputed => kept
  | _ => { kept with state := .held, peer := none }

/-- The custody record after a RESTART (R151). -/
def restartCustody (c : CustodyRecord) : CustodyRecord :=
  { entries := (c.entries.filter staysAtRestart).map restartEntry, replies := [], suspended := false }

/-- REPORT ADRIFT with cause RESTART for each entry the RESTART makes ADRIFT (R151). -/
def restartAdriftReports (c : CustodyRecord) : List Report :=
  (c.entries.filter CustodyEntry.lostByRestart).map fun e => custodyReport .adrift e 2

/-- The output drivers' restart values; the mains-fail contact and its clearing delay are kept (R189). -/
def restartOutputs (o : OutputDrivers) : OutputDrivers := { o with doorOpen := none, doorForced := none }

/-- Every block's restart values, the line controller's among them (R186 steps 1 and 2). -/
def restartBlocks (s : State) : State :=
  clearRestartTroubles
    { s with
      phase := .restarting, uptime := 0, minuteLeft := Config.minuteSeconds,
      sup := stopSupervisor s.cfg, fire := restartFire s.fire, climate := restartClimate s.climate,
      allot := restartAllotter, scanner := { s.scanner with slots := s.scanner.slots.map restartSlot },
      reader := stopReader, consignments := [], custody := restartCustody s.custody,
      hold := { seconds := Config.minuteSeconds, paused := true }, line := restartLine s.line,
      out := restartOutputs s.out }

/-- A RESTART that is taken: the owners' values, then the STATE of a stopped dehumidifier and the ADRIFT reports, which
enter the emptied slot and queue (R78, R151, R186). Whether a report is queued goes by the console number of the old
image, which stands until the new one is judged (R179, log 46). -/
def takeRestart (s : State) : State :=
  let t := restartBlocks s
  queueReports (restartAdriftReports s.custody) (if s.allot.running then queueState t else t)

/-- RESTART (R186). -/
def restartCommand (s : State) : State :=
  if s.fire.state.blocksHandover then refuseCommand codeRestart 0 0 s else takeRestart s

/-! ## Contacts (R189) -/

/-- REPORT DOOR_FORCED and its timer (R189). -/
def doorForced (s : State) : State :=
  queueReport { kind := .doorForced } { s with out := { s.out with doorForced := some Config.doorForcedSeconds } }

/-- DOOR_CONTACT_SETTLED: an opening while the lock is engaged and the fire state is NORMAL is a forcing, except the
first settled value (R189). -/
def doorSettled (isOpen : Bool) (s : State) : State :=
  let t := { s with out := { s.out with doorOpen := some isOpen } }
  if s.out.doorOpen = some false ∧ isOpen ∧ ¬ doorReleased s ∧ s.fire.state = .normal then doorForced t else t

def execDoorContactSettled (isOpen : Bool) (s : State) : Host.Outcome State Fault Refusal :=
  runEvent (doorSettled isOpen) s

/-- DOOR_FORCED_TIMER_EXPIRY (R189). -/
def doorForcedOver (s : State) : State := { s with out := { s.out with doorForced := none } }

def execDoorForcedTimerExpiry (s : State) : Host.Outcome State Fault Refusal := runEvent doorForcedOver s

/-- An event of the mains-fail contact, which goes on being sampled through a RESTART (R186, R189). -/
def runMains (effect : State → State) (s : State) : Host.Outcome State Fault Refusal :=
  .next (if s.phase = .running ∨ s.phase = .restarting then effect s else s)

/-- The mains-fail contact settles in fail: MAINS_FAIL is set, a clearing is cancelled and the allotter is forced
(R68, R189). -/
def mainsFailed (s : State) : State :=
  reevaluateForced
    (setTrouble .mainsFail true { s with out := { s.out with mainsFail := some true, mainsClear := none } })

/-- The mains-fail contact settles in normal: the clearing delay starts where MAINS_FAIL is set (R189). -/
def mainsNormal (s : State) : State :=
  if s.out.mainsFail = some false then s
  else
    { s with out :=
        { s.out with mainsFail := some false,
                     mainsClear := if troubleActive .mainsFail s then some Config.mainsClearSeconds else none } }

/-- MAINS_CONTACT_SETTLED (R189). -/
def mainsSettled (isFail : Bool) (s : State) : State := if isFail then mainsFailed s else mainsNormal s

def execMainsContactSettled (isFail : Bool) (s : State) : Host.Outcome State Fault Refusal :=
  runMains (mainsSettled isFail) s

/-- MAINS_CLEAR_DELAY_EXPIRY (R69, R189). -/
def mainsCleared (s : State) : State :=
  if s.out.mainsClear.isSome then
    reevaluateForced (setTrouble .mainsFail false { s with out := { s.out with mainsClear := none } })
  else s

def execMainsClearDelayExpiry (s : State) : Host.Outcome State Fault Refusal := runMains mainsCleared s

end Sys2Proof.Machine
end

