-- ==== Sys2Proof/Machine/Frames.lean ====
section
/-! DEFINITION. The meanings of the commands that are received frames: each runs the tests of R168, the source check of
R169 where its kind has one, and its owner's act. -/

namespace Sys2Proof.Machine

/-! ## COMMAND frames (R169, R191) -/

/-- A COMMAND of a given code whose argument bytes are the frame's payload here: the check and length are those of the
whole payload, the code first. -/
def commandFrame (code : Byte) (f : Frame) : Frame := { f with payload := code :: f.payload }

/-- A COMMAND at its owner, refused where its length is not the one its code takes (R169, R191). -/
def commandAct (code : Byte) (args : List Byte) (act : State → State) (s : State) : State :=
  if args.length + 1 = commandLength code then act s else refuseCommand code 0 0 s

/-- A received COMMAND of a given code. -/
def receiveCommand (code : Byte) (f : Frame) (act : List Byte → State → State) : State → State :=
  receive kindCommand (commandFrame code f) (consoleOnly f (commandAct code f.payload (act f.payload)))

/-- FIRE_RESET (R36). -/
def execFireReset (f : Frame) (s : State) : Host.Outcome State Fault Refusal :=
  runEvent (receiveCommand codeFireReset f fun _ => fireReset) s

/-- SILENCE (R37). -/
def execSilence (f : Frame) (s : State) : Host.Outcome State Fault Refusal :=
  runEvent (receiveCommand codeSilence f fun _ => silenceCommand) s

/-- TEST_START (R38). -/
def execTestStart (f : Frame) (s : State) : Host.Outcome State Fault Refusal :=
  runEvent (receiveCommand codeTestStart f fun _ => testStart) s

/-- TEST_END (R40). -/
def execTestEnd (f : Frame) (s : State) : Host.Outcome State Fault Refusal :=
  runEvent (receiveCommand codeTestEnd f fun _ => testEnd) s

/-- ISOLATE_ON (R35). -/
def execIsolateOn (f : Frame) (s : State) : Host.Outcome State Fault Refusal :=
  runEvent (receiveCommand codeIsolateOn f fun _ => isolateOn) s

/-- ISOLATE_OFF (R35). -/
def execIsolateOff (f : Frame) (s : State) : Host.Outcome State Fault Refusal :=
  runEvent (receiveCommand codeIsolateOff f fun _ => isolateOff) s

/-- CLEAR_QUARANTINE (R162). -/
def execClearQuarantine (f : Frame) (s : State) : Host.Outcome State Fault Refusal :=
  runEvent (receiveCommand codeClearQuarantine f fun args => clearQuarantineAt (byteAt args 0).toNat) s

/-- RESOLVE (R148). -/
def execResolve (f : Frame) (s : State) : Host.Outcome State Fault Refusal :=
  runEvent (receiveCommand codeResolve f resolveWith) s

/-- RESTART (R186). -/
def execRestart (f : Frame) (s : State) : Host.Outcome State Fault Refusal :=
  runEvent (receiveCommand codeRestart f fun _ => restartCommand) s

/-- The refusal of a COMMAND that names no command, or whose argument or length is not its command's; the slot and the
tag are those of its command's own length (R169, R191). -/
def refuseInvalid (p : List Byte) (s : State) : State :=
  let code := byteAt p 0
  let slot := if code = codeClearQuarantine ∧ p.length = 2 then (byteAt p 1).toNat else 0
  let tag := if code = codeResolve ∧ p.length = 10 then tagAt p 1 else 0
  refuseCommand code slot tag s

/-- COMMAND_INVALID (R169, R191). -/
def execCommandInvalid (f : Frame) (s : State) : Host.Outcome State Fault Refusal :=
  runEvent (receive kindCommand f (consoleOnly f (refuseInvalid f.payload))) s

/-! ## The peer table's frames -/

/-- STATE_FRAME (R170). -/
def execStateFrame (f : Frame) (s : State) : Host.Outcome State Fault Refusal :=
  runEvent (receive kindState f (takeState (sourceOf f) f.payload)) s

/-- ALARM_FRAME (R170). -/
def execAlarmFrame (f : Frame) (s : State) : Host.Outcome State Fault Refusal :=
  runEvent (receive kindAlarm f (takeAlarm (sourceOf f) f.payload)) s

/-! ## The console's frames -/

/-- CONSIGN (R113). -/
def execConsign (f : Frame) (s : State) : Host.Outcome State Fault Refusal :=
  runEvent (receive kindConsign f (consoleOnly f (takeConsign f.payload))) s

/-- ENTRY (R114, R116). -/
def execEntry (f : Frame) (s : State) : Host.Outcome State Fault Refusal :=
  runEvent (receive kindEntry f (consoleOnly f (takeEntry f.payload))) s

/-- CANCEL (R115, R127). -/
def execCancel (f : Frame) (s : State) : Host.Outcome State Fault Refusal :=
  runEvent (receive kindCancel f (consoleOnly f (takeCancel f.payload))) s

/-- QUERY (R180). -/
def execQuery (f : Frame) (s : State) : Host.Outcome State Fault Refusal :=
  runEvent (receive kindQuery f (consoleOnly f (takeQuery (sourceOf f) f.payload))) s

/-! ## The handover frames -/

/-- OFFER (R141). -/
def execOffer (f : Frame) (s : State) : Host.Outcome State Fault Refusal :=
  runEvent (receive kindOffer f (takeOffer (sourceOf f) f.payload)) s

/-- TAKEN (R136). -/
def execTaken (f : Frame) (s : State) : Host.Outcome State Fault Refusal :=
  runEvent (receive kindTaken f (takeTaken (sourceOf f) f.payload)) s

/-- CLEARED (R145). -/
def execCleared (f : Frame) (s : State) : Host.Outcome State Fault Refusal :=
  runEvent (receive kindCleared f (takeCleared (sourceOf f) f.payload)) s

/-- WITHDRAW (R142, R145). -/
def execWithdraw (f : Frame) (s : State) : Host.Outcome State Fault Refusal :=
  runEvent (receive kindWithdraw f (takeWithdraw (sourceOf f) f.payload)) s

/-- LATE (R145). -/
def execLate (f : Frame) (s : State) : Host.Outcome State Fault Refusal :=
  runEvent (receive kindLate f (takeLate (sourceOf f) f.payload)) s

/-- REFUSE (R138). -/
def execRefuse (f : Frame) (s : State) : Host.Outcome State Fault Refusal :=
  runEvent (receive kindRefuse f (takeRefuse (sourceOf f) f.payload)) s

/-- VALID_FRAME_DROPPED: a valid frame addressed elsewhere, of an unknown kind, or an ANSWER or REPORT; only its source is
marked heard (R168, R169). -/
def execValidFrameDropped (kind : Byte) (f : Frame) (s : State) : Host.Outcome State Fault Refusal :=
  runEvent (receive kind f id) s

end Sys2Proof.Machine
end

