-- ==== Sys2Proof/Machine/Clock.lean ====
section
/-! DEFINITION. The passing of one second, taken on an empty queue: every running timer of whole seconds counts down, and
the expiries that fall due are queued as commands (DESIGN CHOICE, log 2). -/

namespace Sys2Proof.Machine

/-! ## One timer -/

/-- A timer after one more second. -/
def decTimer (t : Option Nat) : Option Nat := t.map fun n => n - 1

/-- A timer that runs out in the second now passing. -/
def fallsDue (t : Option Nat) : Bool :=
  match t with
  | some n => n ≤ 1
  | none => false

/-- A command when its timer falls due. -/
def whenDue (t : Option Nat) (c : Instr) : List Instr := if fallsDue t then [c] else []

/-! ## Timers inside records -/

/-- The verify timer of an input, if one runs. -/
def verifyTimer (r : InputRecord) : Option Nat :=
  match r.stage with
  | .verifying (.timer n) => some n
  | _ => none

/-- An input record after one more second. -/
def tickInput (r : InputRecord) : InputRecord :=
  match r.stage with
  | .verifying (.timer n) => { r with stage := .verifying (.timer (n - 1)) }
  | _ => r

/-- The clear timer of a latch, if one runs. -/
def latchTimer (l : Latch) : Option Nat :=
  match l with
  | .test n => some n
  | _ => none

/-- A latch after one more second. -/
def tickLatch (l : Latch) : Latch :=
  match l with
  | .test n => .test (n - 1)
  | l => l

/-- Whether the timer of a custody entry runs: it is paused in SUSPENDED (R140). -/
def CustodyEntry.timerRuns (e : CustodyEntry) : Bool := e.state != .suspended

/-- A custody entry after one more second. -/
def tickCustody (e : CustodyEntry) : CustodyEntry := if e.timerRuns then { e with timer := decTimer e.timer } else e

/-- A slot after one more second. -/
def tickSlot (sl : Slot) : Slot := { sl with window := decTimer sl.window }

/-- A consignment record after one more second. -/
def tickRecord (c : Consignment) : Consignment :=
  { c with openingTimer := decTimer c.openingTimer, courierTimer := decTimer c.courierTimer,
           deadlineTimer := decTimer c.deadlineTimer }

/-! ## What falls due -/

/-- The expiries of the inputs and of the fire controller; a test pulse ends before a new one can begin. -/
def fireDue (s : State) : List Instr :=
  whenDue s.fire.testPulse .testPulseEnd ++
  allInputs.flatMap (fun i => whenDue (verifyTimer (inputRecord i s)) (.verifyTimerExpiry i)) ++
  whenDue s.fire.stabTimer .stabilizationTimerExpiry ++
  (if s.fire.countdown.isSome then [.countdownExpiry] else []) ++
  whenDue s.fire.releasePulse .releasePulseExpiry ++
  whenDue s.fire.testTimer .testTimerExpiry ++
  allInputs.flatMap (fun i => whenDue (latchTimer (latchOf i s)) (.testLatchClearExpiry i))

/-- The expiries of the climate unit and the allotter. -/
def climateDue (s : State) : List Instr :=
  whenDue s.sup.climateTimer .climateTimerExpiry ++ whenDue s.climate.holdTimer .climateHoldTimerExpiry ++
  whenDue s.climate.excursionTimer .excursionDelayExpiry ++ whenDue s.allot.minRun .minRunTimerExpiry ++
  whenDue s.allot.minOff .minOffTimerExpiry

/-- The expiry of a slot's window, by its state. -/
def slotDue (sl : Slot) : List Instr :=
  if sl.state = .pulled then whenDue sl.window (.pullWindowExpiry sl.number)
  else if sl.state = .returnPending then whenDue sl.window (.returnWindowExpiry sl.number)
  else []

/-- The expiries of a consignment record. -/
def recordDue (c : Consignment) : List Instr :=
  whenDue c.openingTimer (.openingTimerExpiry c.number) ++ whenDue c.courierTimer (.courierWindowExpiry c.number) ++
  whenDue c.deadlineTimer (.deadlineTimerExpiry c.number)

/-- The expiry of a custody entry's timer, by its state (R131). -/
def custodyDue (e : CustodyEntry) : List Instr :=
  match e.state with
  | .offered => whenDue e.timer (.handoverTimerExpiry e.tag)
  | .expected => whenDue e.timer (.lapseTimerExpiry e.tag)
  | .taking => whenDue e.timer (.confirmTimerExpiry e.tag)
  | _ => []

/-- The expiries of the cartridge blocks and the hold unit, whose timer stands while it is paused (R160). -/
def cartridgeDue (s : State) : List Instr :=
  s.scanner.slots.flatMap slotDue ++ s.consignments.flatMap recordDue ++ s.custody.entries.flatMap custodyDue ++
  (if !s.hold.paused && s.hold.seconds ≤ 1 then [.minuteTimerExpiry] else [])

/-- The expiries of the line controller, the reader port, the output drivers and the uptime count. -/
def outsideDue (s : State) : List Instr :=
  whenDue s.line.statusTimer .statusTimerExpiry ++ whenDue s.line.conflictTimer .conflictTimerExpiry ++
  whenDue s.out.doorForced .doorForcedTimerExpiry ++ whenDue s.out.mainsClear .mainsClearDelayExpiry ++
  whenDue s.reader.bounce .bounceTimerExpiry ++ whenDue s.reader.recovery .recoveryTimerExpiry ++
  (if s.phase = .running ∧ s.minuteLeft ≤ 1 then [.uptimeMinute] else [])

/-- Every expiry that falls due in the second now passing. -/
def due (s : State) : List Instr := fireDue s ++ climateDue s ++ cartridgeDue s ++ outsideDue s

/-! ## The second -/

/-- The fire record after one more second; the countdown falls by its own expiry (R29). -/
def tickFire (f : FireRecord) : FireRecord :=
  { f with latches := f.latches.map tickLatch, stabTimer := decTimer f.stabTimer,
           releasePulse := decTimer f.releasePulse, testTimer := decTimer f.testTimer,
           testPulse := decTimer f.testPulse }

/-- One second passes, and the expiries that fall due wait in the queue. -/
def tick (s : State) : State :=
  { s with
    minuteLeft := if s.phase = .running then s.minuteLeft - 1 else s.minuteLeft,
    sup := { s.sup with inputs := s.sup.inputs.map tickInput, climateTimer := decTimer s.sup.climateTimer },
    fire := tickFire s.fire,
    climate := { s.climate with holdTimer := decTimer s.climate.holdTimer,
                                excursionTimer := decTimer s.climate.excursionTimer },
    allot := { s.allot with minRun := decTimer s.allot.minRun, minOff := decTimer s.allot.minOff },
    scanner := { s.scanner with slots := s.scanner.slots.map tickSlot },
    reader := { s.reader with bounce := decTimer s.reader.bounce, recovery := decTimer s.reader.recovery },
    consignments := s.consignments.map tickRecord,
    custody := { s.custody with entries := s.custody.entries.map tickCustody },
    hold := { s.hold with seconds := if s.hold.paused then s.hold.seconds else s.hold.seconds - 1 },
    line := { s.line with statusTimer := decTimer s.line.statusTimer,
                          conflictTimer := decTimer s.line.conflictTimer },
    out := { s.out with doorForced := decTimer s.out.doorForced, mainsClear := decTimer s.out.mainsClear },
    pending := s.pending ++ due s }

end Sys2Proof.Machine
end

