-- ==== Sys2Proof/Machine/Dispatch.lean ====
section
/-! DEFINITION. The meaning of every command: one direct call for each constructor of Instr. -/

namespace Sys2Proof.Machine

def exec (i : Instr) (s : State) : Host.Outcome State Fault Refusal :=
  match i with
  | .powerOn own role => Sys2Proof.Machine.execPowerOn own role s
  | .resetPin own role => Sys2Proof.Machine.execResetPin own role s
  | .configImageRead image attention firstCheck => Sys2Proof.Machine.execConfigImageRead image attention firstCheck s
  | .uptimeMinute => Sys2Proof.Machine.execUptimeMinute s
  | .fireReset f => Sys2Proof.Machine.execFireReset f s
  | .silence f => Sys2Proof.Machine.execSilence f s
  | .testStart f => Sys2Proof.Machine.execTestStart f s
  | .testEnd f => Sys2Proof.Machine.execTestEnd f s
  | .isolateOn f => Sys2Proof.Machine.execIsolateOn f s
  | .isolateOff f => Sys2Proof.Machine.execIsolateOff f s
  | .clearQuarantine f => Sys2Proof.Machine.execClearQuarantine f s
  | .resolve f => Sys2Proof.Machine.execResolve f s
  | .restart f => Sys2Proof.Machine.execRestart f s
  | .commandInvalid f => Sys2Proof.Machine.execCommandInvalid f s
  | .stateFrame f => Sys2Proof.Machine.execStateFrame f s
  | .alarmFrame f => Sys2Proof.Machine.execAlarmFrame f s
  | .consign f => Sys2Proof.Machine.execConsign f s
  | .entry f => Sys2Proof.Machine.execEntry f s
  | .cancel f => Sys2Proof.Machine.execCancel f s
  | .offer f => Sys2Proof.Machine.execOffer f s
  | .taken f => Sys2Proof.Machine.execTaken f s
  | .cleared f => Sys2Proof.Machine.execCleared f s
  | .withdraw f => Sys2Proof.Machine.execWithdraw f s
  | .late f => Sys2Proof.Machine.execLate f s
  | .refuse f => Sys2Proof.Machine.execRefuse f s
  | .query f => Sys2Proof.Machine.execQuery f s
  | .discardedFrame cause => Sys2Proof.Machine.execDiscardedFrame cause s
  | .frameGapTimeout => Sys2Proof.Machine.execFrameGapTimeout s
  | .lineStuckSet receiving => Sys2Proof.Machine.execLineStuckSet receiving s
  | .lineStuckClear => Sys2Proof.Machine.execLineStuckClear s
  | .transmitStart idle => Sys2Proof.Machine.execTransmitStart idle s
  | .frameSent => Sys2Proof.Machine.execFrameSent s
  | .readbackFailure => Sys2Proof.Machine.execReadbackFailure s
  | .statusTimerExpiry => Sys2Proof.Machine.execStatusTimerExpiry s
  | .conflictTimerExpiry => Sys2Proof.Machine.execConflictTimerExpiry s
  | .scanTimerExpiry check => Sys2Proof.Machine.execScanTimerExpiry check s
  | .inputConversionEnd code => Sys2Proof.Machine.execInputConversionEnd code s
  | .probeConversionEnd code => Sys2Proof.Machine.execProbeConversionEnd code s
  | .verifyTimerExpiry input => Sys2Proof.Machine.execVerifyTimerExpiry input s
  | .climateTimerExpiry => Sys2Proof.Machine.execClimateTimerExpiry s
  | .climateHoldTimerExpiry => Sys2Proof.Machine.execClimateHoldTimerExpiry s
  | .excursionDelayExpiry => Sys2Proof.Machine.execExcursionDelayExpiry s
  | .stabilizationTimerExpiry => Sys2Proof.Machine.execStabilizationTimerExpiry s
  | .countdownExpiry => Sys2Proof.Machine.execCountdownExpiry s
  | .releasePulseExpiry => Sys2Proof.Machine.execReleasePulseExpiry s
  | .testTimerExpiry => Sys2Proof.Machine.execTestTimerExpiry s
  | .testLatchClearExpiry input => Sys2Proof.Machine.execTestLatchClearExpiry input s
  | .testPulseEnd => Sys2Proof.Machine.execTestPulseEnd s
  | .sounderCadenceExpiry => Sys2Proof.Machine.execSounderCadenceExpiry s
  | .minRunTimerExpiry => Sys2Proof.Machine.execMinRunTimerExpiry s
  | .minOffTimerExpiry => Sys2Proof.Machine.execMinOffTimerExpiry s
  | .slotScanStep sense => Sys2Proof.Machine.execSlotScanStep sense s
  | .pullWindowExpiry slot => Sys2Proof.Machine.execPullWindowExpiry slot s
  | .returnWindowExpiry slot => Sys2Proof.Machine.execReturnWindowExpiry slot s
  | .attentionRise => Sys2Proof.Machine.execAttentionRise s
  | .readResponse chars => Sys2Proof.Machine.execReadResponse chars s
  | .signalResponse char => Sys2Proof.Machine.execSignalResponse char s
  | .responseTimeout => Sys2Proof.Machine.execResponseTimeout s
  | .bounceTimerExpiry => Sys2Proof.Machine.execBounceTimerExpiry s
  | .recoveryTimerExpiry => Sys2Proof.Machine.execRecoveryTimerExpiry s
  | .readerRestartDelayExpiry => Sys2Proof.Machine.execReaderRestartDelayExpiry s
  | .openingTimerExpiry number => Sys2Proof.Machine.execOpeningTimerExpiry number s
  | .courierWindowExpiry number => Sys2Proof.Machine.execCourierWindowExpiry number s
  | .deadlineTimerExpiry number => Sys2Proof.Machine.execDeadlineTimerExpiry number s
  | .handoverTimerExpiry tag => Sys2Proof.Machine.execHandoverTimerExpiry tag s
  | .lapseTimerExpiry tag => Sys2Proof.Machine.execLapseTimerExpiry tag s
  | .confirmTimerExpiry tag => Sys2Proof.Machine.execConfirmTimerExpiry tag s
  | .minuteTimerExpiry => Sys2Proof.Machine.execMinuteTimerExpiry s
  | .doorContactSettled isOpen => Sys2Proof.Machine.execDoorContactSettled isOpen s
  | .doorForcedTimerExpiry => Sys2Proof.Machine.execDoorForcedTimerExpiry s
  | .mainsContactSettled isFail => Sys2Proof.Machine.execMainsContactSettled isFail s
  | .mainsClearDelayExpiry => Sys2Proof.Machine.execMainsClearDelayExpiry s
  | .validFrameDropped kind f => Sys2Proof.Machine.execValidFrameDropped kind f s

end Sys2Proof.Machine
end

