-- ==== Sys2Proof/Safety.lean ====
section
/-! DEFINITION. What the spec says of every moment of a station, as conditions on its state, in the terms the statements
use. -/

namespace Sys2Proof.Machine

/-- RELEASE is energized only in DISCHARGED, and only at a station that is armed (R34). -/
abbrev ReleaseGuarded (s : State) : Prop := releaseOn s = true → s.fire.state = .discharged ∧ armed s = true

/-- A countdown remaining is present exactly in PRE_DISCHARGE (R19, R29). -/
abbrev CountdownPlaced (s : State) : Prop := s.fire.countdown.isSome = true ↔ s.fire.state = .preDischarge

/-- The episode is OPEN exactly while the fire state is a raised state (R63). -/
abbrev EpisodeFollows (s : State) : Prop := s.climate.episode.status = .opened ↔ s.fire.state.raised = true

/-- The allotter is forced exactly while a forced-off condition holds, and a forced allotter has its request clear and
its dehumidifier off (R66, R68). -/
abbrev DryingGuarded (s : State) : Prop :=
  s.allot.forced = forcedCondition s ∧ (s.allot.forced = true → s.allot.running = false ∧ s.allot.request = false)

/-- The bay values are absent exactly in STARTING and LOST (R46). -/
abbrev BayPlaced (s : State) : Prop := s.climate.bay.isNone = s.climate.state.blind

/-- The climate hold timer runs in HOLDING only (R46). -/
abbrev ClimateHoldPlaced (s : State) : Prop := s.climate.holdTimer.isSome = true → s.climate.state = .holding

/-- The excursion delay timer runs in PENDING only (R46). -/
abbrev ExcursionTimerPlaced (s : State) : Prop := s.climate.excursionTimer.isSome = true → s.climate.excursion = .pending

/-- The pause of the hold countdown is on exactly while one of its conditions holds (R160). -/
abbrev PauseFollows (s : State) : Prop := s.hold.paused = pauseCondition s

/-- In PRE_DISCHARGE, HELD and DISCHARGED no custody entry is EXPECTED (R143). -/
abbrev NothingExpectedInFire (s : State) : Prop :=
  s.fire.state.blocksHandover = true → ∀ e ∈ s.custody.entries, e.state ≠ .expected

/-- Givers are suspended in PRE_DISCHARGE, HELD and DISCHARGED, and no entry is OFFERED there (R140). -/
abbrev GiversSuspendedInFire (s : State) : Prop :=
  s.fire.state.blocksHandover = true →
    s.custody.suspended = true ∧ ∀ e ∈ s.custody.entries, e.state ≠ .offered

/-- The lists stay within what a station holds (R61, R111, R131, R132, R179, R180). -/
abbrev ListsBounded (s : State) : Prop :=
  s.climate.history.length ≤ Config.historyMax ∧ s.consignments.length ≤ Config.consignmentMax ∧
  s.custody.entries.length ≤ Config.custodyMax ∧ s.custody.replies.length ≤ Config.replyMax ∧
  s.line.reports.length ≤ Config.reportMax ∧ s.line.answers.length ≤ Config.answerMax ∧
  ∀ c ∈ s.consignments, c.entries.length ≤ Config.entryMax

/-- No tag occurs in two custody entries (R131). -/
abbrev CustodyTagsDistinct (s : State) : Prop := (s.custody.entries.map fun e => e.tag).Nodup

/-- No two records of the consignment table have the same number (R111). -/
abbrev RecordNumbersDistinct (s : State) : Prop := (s.consignments.map fun c => c.number).Nodup

/-- A tag is the tag of at most one slot (R83). -/
abbrev SlotTagsDistinct (s : State) : Prop := (s.scanner.slots.filterMap fun sl => sl.tag).Nodup

/-- The settled presence that goes with a slot state (05_slot_matrix_and_slot_table.md, The slot states). -/
def SlotState.presence (st : SlotState) : Bool :=
  match st with
  | .occupied => true
  | .pullPending => true
  | .hold => true
  | .quarantine => true
  | .unexpectedPresence _ => true
  | _ => false

/-- The state of every slot goes with its settled presence. -/
abbrev PresenceMatches (s : State) : Prop := ∀ sl ∈ s.scanner.slots, sl.present = sl.state.presence

/-- Every HELD entry owes OFFER exactly when the offering rule says so (R135). -/
abbrev OffersSettled (s : State) : Prop :=
  ∀ e ∈ s.custody.entries, e.state = .held → e.owed = if offerOwed s e then some .offer else none

/-- A record's opening timer runs in OPENING only, its deadline timer from the end of OPENING, and its courier window timer in
COURIER_PRESENT and RECEIVING only (R111). -/
abbrev RecordTimersPlaced (s : State) : Prop :=
  ∀ c ∈ s.consignments,
    (c.openingTimer.isSome = true → c.state = .opening) ∧ (c.deadlineTimer.isSome = true → c.state ≠ .opening) ∧
    (c.courierTimer.isSome = true → c.state = .courierPresent ∨ c.state = .receiving)

/-- The owed count of climate samples stays within 0 to 4 (R16). -/
abbrev OwedBounded (s : State) : Prop := s.sup.owed ≤ Config.owedMax

/-- The two release check counts stay within 0 to 2 (R13). -/
abbrev CheckCountsBounded (s : State) : Prop := s.sup.badChecks ≤ 2 ∧ s.sup.goodChecks ≤ 2

/-- The transmitter has no frame on the line while LINE_STUCK is set (R173, R175). -/
abbrev StuckLineQuiet (s : State) : Prop := troubleActive .lineStuck s = true → s.line.tx = none

/-- A station whose strap is invalid sends nothing (R183). -/
abbrev InvalidStrapQuiet (s : State) : Prop := troubleActive .strapInvalid s = true → s.line.tx = none

/-! ## What the statements speak of -/

/-- A complete frame of a kind that reaches a running station, passes the tests of R168 and is addressed to it or to all:
the station drives no frame, its strap is valid, the check, the length and the source are good. -/
abbrev Accepted (kind : Byte) (f : Frame) (s : State) : Prop :=
  s.phase = .running ∧ s.line.tx = none ∧ troubleActive .strapInvalid s = false ∧ checkGood kind f = true ∧
  lengthAllowed kind f.payload.length = true ∧ 1 ≤ f.src.toNat ∧ f.src.toNat ≤ 30 ∧ f.src.toNat ≠ ownNumber s ∧
  (f.dst.toNat = 0 ∨ f.dst.toNat = ownNumber s)

/-- A frame whose source is the configured console number (R169). -/
abbrev FromConsole (f : Frame) (s : State) : Prop := s.cfg.console ≠ 0 ∧ f.src.toNat = s.cfg.console

/-- A COMMAND of a code, accepted from the console with the length that its code takes (R168, R169, R191). -/
abbrev AcceptedCommand (code : Byte) (f : Frame) (s : State) : Prop :=
  Accepted kindCommand (commandFrame code f) s ∧ FromConsole f s ∧ f.payload.length + 1 = commandLength code

/-- The state once a valid frame has been received: no frame in progress, and its source marked heard (R168). -/
def heard (f : Frame) (s : State) : State :=
  { s with line :=
      { s.line with receiving := false,
                    peers := s.line.peers.set (f.src.toNat - 1) (peerOf f.src.toNat s).markHeard } }

/-- The kind and the whole frame that a command brings to the receiver, absent for a command that brings none: a COMMAND
row's payload has its code first (R166, R168, R169). -/
def frameOf (c : Instr) : Option (Byte × Frame) :=
  match c with
  | .fireReset f => some (kindCommand, commandFrame codeFireReset f)
  | .silence f => some (kindCommand, commandFrame codeSilence f)
  | .testStart f => some (kindCommand, commandFrame codeTestStart f)
  | .testEnd f => some (kindCommand, commandFrame codeTestEnd f)
  | .isolateOn f => some (kindCommand, commandFrame codeIsolateOn f)
  | .isolateOff f => some (kindCommand, commandFrame codeIsolateOff f)
  | .clearQuarantine f => some (kindCommand, commandFrame codeClearQuarantine f)
  | .resolve f => some (kindCommand, commandFrame codeResolve f)
  | .restart f => some (kindCommand, commandFrame codeRestart f)
  | .commandInvalid f => some (kindCommand, f)
  | .stateFrame f => some (kindState, f)
  | .alarmFrame f => some (kindAlarm, f)
  | .consign f => some (kindConsign, f)
  | .entry f => some (kindEntry, f)
  | .cancel f => some (kindCancel, f)
  | .offer f => some (kindOffer, f)
  | .taken f => some (kindTaken, f)
  | .cleared f => some (kindCleared, f)
  | .withdraw f => some (kindWithdraw, f)
  | .late f => some (kindLate, f)
  | .refuse f => some (kindRefuse, f)
  | .query f => some (kindQuery, f)
  | .discardedFrame (.complete kind f) => some (kind, f)
  | .validFrameDropped kind f => some (kind, f)
  | _ => none

/-- A payload that carries an answer: the subject, the start and the count of the records, then the header and the records,
byte for byte where a byte is stated; a byte for which none is stated may be any (R180, R181, log 3). -/
abbrev Carries (payload : List Byte) (q : Query) (header : AnswerBytes) (records : List AnswerBytes) : Prop :=
  let bytes := stated [toByte q.subject.code, toByte q.start, toByte records.length] ++ header ++ records.flatten
  payload.length = bytes.length ∧
    ∀ k ∈ List.range bytes.length, ∀ b ∈ bytes.getD k none, payload.getD k 0 = b

/-- Of two line records, the second differs from the first in its report queue alone (R179). -/
abbrev OnlyReports (l l' : LineController) : Prop :=
  l' = { l with reports := l'.reports, reportsLost := l'.reportsLost, droppedSinceTake := l'.droppedSinceTake }

/-- The records that exist in a fixed number: six inputs with their types and latches, thirty peers (R2, R19, R170). -/
abbrev FixedSizes (s : State) : Prop :=
  s.sup.inputs.length = 6 ∧ s.cfg.inputTypes.length = 6 ∧ s.fire.latches.length = 6 ∧ s.line.peers.length = 30

/-- While the blocks do not run, the pause is on and no release pulse runs (R163, R185, R186). -/
abbrev StartQuiet (s : State) : Prop :=
  s.phase ≠ .running → s.climate.state = .starting ∧ s.fire.releasePulse = none

/-- The state that a fire evaluation in NORMAL ends in, by the conditions of a state (R24, R26, R27). -/
def evaluatedFromNormal (s : State) : FireState :=
  if confirmationCondition s then
    (if !armed s then .confirmed else if abortActive s then .held else .preDischarge)
  else if alertCondition s then .alert
  else .normal

/-- The reports of a closing with a cause code, of a record whose entries have become `entries`: at a bay one
PULL_UNVERIFIED for each PULLED slot of its number, in slot order (log 49), then CONSIGNMENT_CLOSED with its counts of DONE
and of FAILED entries and, at the dock, the case ID (R95, R128). -/
def closingReports (cause : Nat) (c : Consignment) (entries : List Entry) (s : State) : List Report :=
  (if s.role = .bay then
    (s.scanner.slots.filter fun o => o.state == .pulled && o.consignment == some c.number).map fun o =>
      { kind := .pullUnverified, number := o.number, consignment := c.number }
   else []) ++
  [{ kind := .consignmentClosed, consignment := c.number, code := cause,
     tag := if s.role = .dock then c.caseId.getD 0 else 0,
     value1 := ((entries.filter fun x => x.state == .done).length : Nat),
     value2 := ((entries.filter fun x => x.state != .done).length : Nat) }]

/-- The record that a notice to the record of a number closes: the one where the first entry that the notice names, given
its state, leaves none in progress past OPENING (R120, R128). -/
def closedByNotice (num : Option Nat) (names : Entry → Bool) (st : EntryState) (s : State) : Option Consignment :=
  (num.bind fun n => findRecord n s).filter fun c =>
    decide (c.entries.any names = true ∧ c.state ≠ .opening ∧
      ∀ x ∈ setFirst names st c.entries, x.state ≠ .waiting ∧ x.state ≠ .active)

/-- The reports that follow a notice: those of the closing, where it closes its record; else none (R120, R128). -/
def noticeReports (num : Option Nat) (names : Entry → Bool) (st : EntryState) (s : State) : List Report :=
  match closedByNotice num names st s with
  | some c => closingReports 1 c (setFirst names st c.entries) s
  | none => []

/-- A slot after the revert request for a number (R95). Carrying it, PULL_PENDING is OCCUPIED; PULLED is UNEXPECTED of kind
REMOVAL without its window; AWAITED, also as a kept prior state, is OUT where the tag is known and else EMPTY, nothing
expected; in every state the number is cleared. -/
def reverted (num : Nat) (o : Slot) : Slot :=
  let free : PriorState := if o.tag = none then .empty else .out
  if o.consignment ≠ some num then o
  else if o.state = .pullPending then { o with consignment := none, state := .occupied }
  else if o.state = .pulled then { o with consignment := none, state := .unexpectedRemoval, window := none }
  else if o.state = .awaited then
    { o with consignment := none, state := (if o.tag = none then .empty else .out), expected := none }
  else if o.state = .unexpectedPresence .awaited then
    { o with consignment := none, state := .unexpectedPresence free, expected := none }
  else { o with consignment := none }

/-- The slots after the closing of a record, if one closes: a bay reverts those of its number (R95, R128 step 2). -/
def slotsAfter (closed : Option Consignment) (role : Role) (slots : List Slot) : List Slot :=
  match closed with
  | some c => if role = .bay then slots.map (reverted c.number) else slots
  | none => slots

/-- The custody entries after the closing of a record, if one closes. Of those that carry its number, a RELEASED one that owes
no CLEARED is gone, and each other loses the number and its wait reason, a HELD one owing nothing then; the rest stay
(R128 step 3, R135, R139). -/
def custodyAfter (closed : Option Consignment) (entries : List CustodyEntry) : List CustodyEntry :=
  match closed with
  | some c =>
    (entries.filter fun e => decide (¬ (e.consignment = some c.number ∧ e.state = .released ∧ e.owed ≠ some .cleared))).map
      fun e =>
        if e.consignment = some c.number then
          { e with consignment := none, wait := .none, owed := if e.state = .held then none else e.owed }
        else e
  | none => entries

/-- The allotter's record once an event forces it off while it was not forced: the request clears; a dehumidifier that runs
stops, its minimum-run timer removed and its minimum-off timer started, none for a minimum off time of 0; in OFF its timers
run on (R68, R74). -/
def forcedOff (s : State) : Allotter :=
  if s.allot.running = true then
    { running := false, request := false, forced := true, minRun := none,
      minOff := if s.cfg.minOffTime = 0 then none else some s.cfg.minOffTime }
  else { s.allot with request := false, forced := true }

/-- What a move of the fire state, from one event's beginning to its end, makes of the handover engine's record. Into
PRE_DISCHARGE, HELD or DISCHARGED: the suspension flag is set, each OFFERED entry is SUSPENDED with its timer as it stands,
and each EXPECTED entry is removed, REFUSE FIRE entering the reply list for it, in the order of the list (log 45), but not a
second time and not beyond 24. Into NORMAL: the flag is cleared and each SUSPENDED entry is OFFERED. Into another state:
nothing (R42, R132, R140, R143). -/
def custodyMoved (before after : FireState) (c : CustodyRecord) : CustodyRecord :=
  if after = before then c
  else if after = .preDischarge ∨ after = .held ∨ after = .discharged then
    { entries := (c.entries.filter fun e => e.state != .expected).map fun e =>
        if e.state = .offered then { e with state := .suspended } else e,
      replies :=
        ((c.entries.filter fun e => e.state == .expected).map fun e =>
          { kind := .refuse .fire, dst := e.peer.getD 0, consignment := e.consignment.getD 0, tag := e.tag }).foldl
          (fun rs r => if r ∈ rs ∨ 24 ≤ rs.length then rs else rs ++ [r]) c.replies,
      suspended := true }
  else if after = .normal then
    { entries := c.entries.map fun e => if e.state = .suspended then { e with state := .offered } else e,
      replies := c.replies, suspended := false }
  else c

/-- The custody entries in their places, those in HELD left out of view: a peer update may end the wait of a HELD entry
(R139). -/
def besidesHeld (es : List CustodyEntry) : List (Option CustodyEntry) :=
  es.map fun e => if e.state = .held then none else some e

/-- The record of a slot when another slot takes a tag: a slot with that tag loses it, and an OUT one becomes EMPTY with its
number cleared (R83). -/
def withoutTag (t : Tag) (o : Slot) : Slot :=
  if o.tag = some t then
    (if o.state = .out then { o with tag := none, state := .empty, consignment := none } else { o with tag := none })
  else o

/-- The reports by which the output drivers tell the console, in the order of the trouble set, each trouble whose active
value `after` differs from the value it was last told, `told` (R187). -/
def heldBackReports (told after : TroubleBits) : List Report :=
  (allTroubles.filter fun x => after.getLsbD x.code != told.getLsbD x.code).map fun x =>
    { kind := if after.getLsbD x.code then .troubleSet else .troubleClear, number := x.inputNumber, code := x.code }

/-- Whether the custody entry of a consignment entry's tag is in a state with a consignment number (R123). -/
def entryStands (x : Entry) (st : CustodyState) (num : Nat) (s : State) : Bool :=
  (x.tag.bind fun t => findCustody t s).any fun e => e.state == st && e.consignment == some num

/-- The entries that an outbound sign-off leaves DONE: those that were, and the ACTIVE ones whose cartridge is LOADED
(R123). -/
def signedOffDone (c : Consignment) (s : State) : List Entry :=
  c.entries.filter fun x => x.state == .done || (x.state == .active && entryStands x .loaded c.number s)

/-- The reports of an outbound sign-off at the dock: LEFT_BEHIND for each ACTIVE entry whose cartridge is HELD under the
number, in arrival order, then CONSIGNMENT_CLOSED with cause SIGNED_OFF, its two counts and the case ID (R123, R128). -/
def signOffReports (c : Consignment) (s : State) : List Report :=
  ((c.entries.filter fun x => x.state == .active && entryStands x .held c.number s).map fun x =>
    { kind := .leftBehind, consignment := c.number, tag := x.tag.getD 0 }) ++
  [{ kind := .consignmentClosed, consignment := c.number, code := 2, tag := c.caseId.getD 0,
     value1 := ((signedOffDone c s).length : Nat),
     value2 := ((c.entries.length - (signedOffDone c s).length : Nat) : Int) }]

/-! ### Validation (R114, R116) -/

/-- The entries of a list up to the first with the last flag, that one included (R114). -/
def upToLast (es : List Entry) : List Entry := (es.takeWhile fun e => !e.last) ++ (es.dropWhile fun e => !e.last).take 1

/-- The entries of an ENTRY payload that are taken, in the order of the frame: the one with the last flag ends them (R114). -/
def entriesTaken (p : List Byte) : List Entry := upToLast (entryList p)

/-- The STATION test fails an entry: at a bay its station is not the own number; at the dock it is none of 1 to 30, or the own
or the console number (R116). -/
abbrev StationWrong (e : Entry) (s : State) : Prop :=
  if s.role = .bay then e.station ≠ ownNumber s
  else e.station < 1 ∨ 30 < e.station ∨ e.station = ownNumber s ∨ e.station = s.cfg.console

/-- The SLOT_RANGE test fails an entry: at a bay its slot is not one of the table's numbers; at the dock it is not 0 for
OUTBOUND, or none of 1 to 128 for INBOUND (R116). -/
abbrev SlotOutside (d : Direction) (e : Entry) (s : State) : Prop :=
  if s.role = .bay then e.slot < 1 ∨ slotCount s < e.slot
  else (d = .outbound ∧ e.slot ≠ 0) ∨ (d = .inbound ∧ (e.slot < 1 ∨ 128 < e.slot))

/-- The DUPLICATE test fails an entry of the record of a number: its tag is that of an earlier entry of the record, of an entry
in progress of another record, or of a custody entry (R116, R191). -/
abbrev TagInUse (num : Nat) (earlier : List Entry) (e : Entry) (s : State) : Prop :=
  e.tag ≠ none ∧
    ((∃ x ∈ earlier, x.tag = e.tag) ∨
      (∃ r ∈ s.consignments, r.number ≠ num ∧ ∃ x ∈ r.entries, x.tag = e.tag ∧ (x.state = .waiting ∨ x.state = .active)) ∨
      ∃ h ∈ s.custody.entries, some h.tag = e.tag)

/-- The slot of an entry takes its pull request, or its await request for INBOUND, in a slot table (R88, R91). -/
abbrev SlotTakes (d : Direction) (e : Entry) (slots : List Slot) : Prop :=
  ∃ o ∈ slots.find? fun o => o.number == e.slot,
    (d = .outbound ∧ o.state = .occupied ∧ (o.tag = none ∨ o.tag = e.tag)) ∨
    (d = .inbound ∧ (o.state = .empty ∨ (o.state = .out ∧ e.tag ≠ none ∧ o.tag = e.tag)) ∧
      (e.tag = none ∨ ∀ x ∈ slots, x.number ≠ e.slot →
        ¬ (x.tag = e.tag ∧
          (x.state = .pullPending ∨ x.state = .pulled ∨ x.state = .returnPending ∨ x.state = .occupied ∨ x.state = .hold ∨
            x.state = .quarantine)) ∧
        ¬ (x.state = .awaited ∧ x.expected = e.tag)))

/-- The reason of the first test that an entry fails, after the earlier ones of its record, in the slot table as those left
it; the dock applies no SLOT_STATE test (R116). -/
def failureOf (num : Nat) (d : Direction) (earlier : List Entry) (slots : List Slot) (e : Entry) (s : State) :
    Option FailReason :=
  if StationWrong e s then some .station
  else if SlotOutside d e s then some .slotRange
  else if TagInUse num earlier e s then some .duplicate
  else if s.role = .bay ∧ ¬ SlotTakes d e slots then some .slotState
  else none

/-- The slot table once an entry that passed has called its slot, or made it awaited (R88, R91). -/
def slotsCalled (num : Nat) (d : Direction) (e : Entry) (slots : List Slot) : List Slot :=
  slots.map fun o =>
    if o.number = e.slot then
      (match d with
       | .outbound => { o with state := .pullPending, consignment := some num }
       | .inbound => { o with state := .awaited, expected := e.tag, consignment := some num })
    else o

/-- What a validation leaves: the entries, the slot table, and the ENTRY_REJECTED reports in their order. -/
structure Validated where
  entries : List Entry
  slots : List Slot
  reports : List Report
  deriving DecidableEq, Repr

/-- The validation of the entries of a record, one at a time in arrival order (R116). An entry that fails a test is FAILED with
its reason and reported; one that passes is ACTIVE at a bay, its slot called, and stays as it is at the dock. -/
def validated (num : Nat) (d : Direction) (s : State) : List Entry → List Slot → List Entry → Validated
  | _, slots, [] => { entries := [], slots := slots, reports := [] }
  | earlier, slots, e :: rest =>
    match failureOf num d earlier slots e s with
    | some r =>
      let v := validated num d s (earlier ++ [e]) slots rest
      { v with
        entries := { e with state := .failed r } :: v.entries,
        reports :=
          { kind := .entryRejected, number := e.slot, consignment := num, tag := e.tag.getD 0, code := r.code } ::
            v.reports }
    | none =>
      if s.role = .bay then
        let v := validated num d s (earlier ++ [e]) (slotsCalled num d e slots) rest
        { v with entries := { e with state := .active } :: v.entries }
      else
        let v := validated num d s (earlier ++ [e]) slots rest
        { v with entries := e :: v.entries }

/-- Every slot number occurs once, the settled presence goes with the state, and no tag is the tag of two slots
(R79, R81, R83). -/
abbrev SlotTableSound (s : State) : Prop :=
  (s.scanner.slots.map fun sl => sl.number).Nodup ∧ PresenceMatches s ∧ SlotTagsDistinct s

end Sys2Proof.Machine
end

