-- ==== Sys2Proof/Certificates/Slice0/Obligations.lean ====
section
/-! DEFINITION. The statements about the WS240 model, one `Obligations.<Name>` each, for every family of commands and
every kind of state that the spec names. -/

open Sys2Proof Sys2Proof.Machine

/-- For every command c and every state whose queue holds c at its front, the step's outcome is exec of c on the
state with the rest of the queue. (95_what_each_step_holds.md) -/
def Obligations.StepRunsTheCommandAtTheFront : Prop :=
    ∀ (s : State) (c : Instr) (rest : List Instr), s.pending = c :: rest →
    step s = exec c { s with pending := rest }

/-- The model's choice of log 2: with nothing waiting, the step lets one second pass. The queue then holds exactly
the expiries that fall due; the countdown's expiry is one of them exactly when a countdown is present; the running
minute, run, off and stabilization timers fall by one second, while the minute timer stands in a pause and a
SUSPENDED custody entry keeps its timer. Nothing else of the fire state, the slots' states, the custody states or
the line's queues changes. (00_scope.md Time, R29, R140, R160) -/
def Obligations.EmptyQueueLetsOneSecondPass : Prop :=
    ∀ s : State, s.pending = [] →
    ∃ t, step s = .next t ∧ t.pending = due s ∧
      (Instr.countdownExpiry ∈ t.pending ↔ s.fire.countdown.isSome = true) ∧
      (Instr.minuteTimerExpiry ∈ t.pending ↔ s.hold.paused = false ∧ s.hold.seconds ≤ 1) ∧
      t.hold = { s.hold with
            seconds := if s.hold.paused then s.hold.seconds else s.hold.seconds - 1 } ∧
      t.allot = { s.allot with
            minRun := s.allot.minRun.map (· - 1),
            minOff := s.allot.minOff.map (· - 1) } ∧
      t.fire.stabTimer = s.fire.stabTimer.map (· - 1) ∧ t.fire.countdown = s.fire.countdown ∧
      t.fire.state = s.fire.state ∧ t.custody.replies = s.custody.replies ∧
      (∀ e ∈ s.custody.entries, e.state = .suspended → e ∈ t.custody.entries) ∧
      (t.custody.entries.map fun e => e.state) = (s.custody.entries.map fun e => e.state) ∧
      (t.scanner.slots.map fun sl => sl.state) = (s.scanner.slots.map fun sl => sl.state) ∧
      t.line = { s.line with
            statusTimer := s.line.statusTimer.map (· - 1),
            conflictTimer := s.line.conflictTimer.map (· - 1) } ∧
      t.phase = s.phase ∧ t.own = s.own ∧ t.role = s.role ∧ t.uptime = s.uptime ∧ t.cfg = s.cfg ∧
      t.freeCount = s.freeCount

/-- The model's choice of log 33, since the spec lets no event stop a station: no command ends in a fault or a
refusal, whatever the state. No command changes the queue of waiting commands. The model's choice of log 2 and log
32: at a station whose blocks do not run, every command but POWER_ON, RESET_PIN, CONFIG_IMAGE_READ and the two of
the mains-fail contact changes nothing. (95_what_each_step_holds.md, R17, R185, R186, R187) -/
def Obligations.EveryCommandCompletesAndKeepsTheQueue : Prop :=
    (∀ (c : Instr) (s : State), ∃ t, exec c s = .next t ∧ t.pending = s.pending) ∧
    (∀ (c : Instr) (s : State), s.phase ≠ .running → (∀ own role, c ≠ .powerOn own role ∧ c ≠ .resetPin own role) →
      (∀ image attention check, c ≠ .configImageRead image attention check) →
      (∀ b, c ≠ .mainsContactSettled b) → c ≠ .mainsClearDelayExpiry → exec c s = .next s)

/-- Right after reset: the fire state is STABILIZING with no latch, abort, countdown, manual flag, isolation,
silence or timer; the climate state is STARTING with nothing measured and no episode; the dehumidifier is OFF and
forced; there are no slots, consignments, custody entries or replies; the minute timer stands at 60 s with the
pause on; every peer is unheard; every queue is empty; every trouble is clear; the uptime is 0. (R17, R44, R64,
R77, R97, R110, R130, R150, R163, R182, R187, R189) -/
def Obligations.ResetHoldsThePowerOnValues : Prop :=
    State.reset.fire =
      {
            state := .stabilizing,
            latches := [.none, .none, .none, .none, .none, .none],
            ownAbort := [],
            countdown := none,
            manual := false,
            isolated := false,
            silence := none,
            stabTimer := none,
            releasePulse := none,
            testTimer := none,
            testPulse := none,
            cadence := none } ∧
    State.reset.climate.state = .starting ∧ State.reset.climate.bay = none ∧ State.reset.climate.excursion = .inBand ∧
    State.reset.climate.history = [] ∧ State.reset.climate.storedSinceStart = false ∧
    State.reset.climate.episode = { status := .none, extremes := none, count := 0, discharged := false } ∧
    State.reset.allot = {
            running := false,
            request := false,
            minRun := none,
            minOff := none,
            forced := true } ∧
    State.reset.scanner.slots = [] ∧ State.reset.consignments = [] ∧
    State.reset.custody = { entries := [], replies := [], suspended := false } ∧
    State.reset.hold = { seconds := 60, paused := true } ∧
    State.reset.sup.owed = 0 ∧ State.reset.sup.badChecks = 0 ∧ State.reset.sup.goodChecks = 0 ∧
    State.reset.reader.transaction = none ∧ State.reset.reader.timeouts = 0 ∧
    (∀ p ∈ State.reset.line.peers,
      p = {
            heard := false,
            fresh := false,
            age := 3,
            awaiting := false,
            fire := none,
            state := none }) ∧
    State.reset.line.reports = [] ∧ State.reset.line.answers = [] ∧ State.reset.line.tx = none ∧
    State.reset.line.alarmQueued = false ∧ State.reset.line.stateQueued = false ∧ State.reset.line.reportsLost =
      false ∧
    State.reset.out.active = 0 ∧ State.reset.out.reported = 0 ∧ State.reset.out.doorForced = none ∧
    State.reset.uptime = 0 ∧ State.reset.pending = []

/-- At reset hold all the conditions that the invariant statements below say every step keeps. (R29, R34, R63, R68,
R111, R160, R16, R13, R173, 08_custody_and_handover.md) -/
def Obligations.ResetMeetsEveryInvariant : Prop :=
    StartQuiet State.reset ∧
    ReleaseGuarded State.reset ∧
    CountdownPlaced State.reset ∧
    EpisodeFollows State.reset ∧
    DryingGuarded State.reset ∧
    PauseFollows State.reset ∧
    NothingExpectedInFire State.reset ∧
    GiversSuspendedInFire State.reset ∧
    ListsBounded State.reset ∧
    CustodyTagsDistinct State.reset ∧
    RecordNumbersDistinct State.reset ∧
    SlotTableSound State.reset ∧
    OwedBounded State.reset ∧
    CheckCountsBounded State.reset ∧
    StuckLineQuiet State.reset ∧
    InvalidStrapQuiet State.reset ∧
    FixedSizes State.reset ∧
    OffersSettled State.reset ∧
    RecordTimersPlaced State.reset

/-- Every step keeps this: while RELEASE is energized the fire state is DISCHARGED and the station is armed. It is
kept together with its helper: while the blocks do not run, the climate state is STARTING and no release pulse
runs. (R34) -/
def Obligations.ReleaseOnlyInDischargedWhileArmed : Prop :=
    ∀ s t : State, StartQuiet s → ReleaseGuarded s → step s = .next t → StartQuiet t ∧ ReleaseGuarded t

/-- Every step keeps this: the countdown remaining is present if and only if the fire state is PRE_DISCHARGE. Every
step keeps this: the status of the fire episode is OPEN if and only if the fire state is a raised state. (R19, R29,
R62, R63) -/
def Obligations.CountdownAndEpisodeFollowTheFireState : Prop :=
    (∀ s t : State, CountdownPlaced s → step s = .next t → CountdownPlaced t) ∧
    (∀ s t : State, EpisodeFollows s → step s = .next t → EpisodeFollows t)

/-- Every step keeps this: the allotter is forced exactly while the fire state is STABILIZING or raised, MAINS_FAIL
is set, or the climate state is STARTING or LOST; and while it is forced the dehumidifier is OFF and the request is
clear. Whatever the command, at a station that runs before and after it: where it makes the allotter forced, the
request clears and a RUNNING dehumidifier stops at once, its minimum-run timer removed, its minimum-off timer
started at the minimum off time (none for 0 s), a STATE queued; in OFF its timers run on. Where it ends the
forcing, with bay values, the request is set exactly at the RH target plus the band up or above, and a requesting
dehumidifier without a minimum-off timer starts exactly when running count plus rank is below the cap, with its
minimum-run timer. (R66, R68, R69, R72, R73, R74) -/
def Obligations.ForcedOffAllotterNeverRuns : Prop :=
    (∀ s t : State, DryingGuarded s → step s = .next t → DryingGuarded t) ∧
    (∀ (c : Instr) (s t : State), exec c s = .next t → s.phase = .running → t.phase = .running → DryingGuarded s →
      s.allot.forced = false → t.allot.forced = true →
      t.allot = forcedOff s ∧ (s.allot.running = true → t.line.stateQueued = true)) ∧
    (∀ (c : Instr) (s t : State), exec c s = .next t → s.phase = .running → t.phase = .running → DryingGuarded s →
      s.allot.forced = true → t.allot.forced = false → ∀ b ∈ t.climate.bay,
      t.allot =
        if s.cfg.rhTarget + s.cfg.bandUp ≤ b.rh then
          (if s.allot.minOff = none ∧ runningCount t + rank t < s.cfg.cap then
            {
            running := true,
            minOff := none,
            minRun := if s.cfg.minRunTime = 0 then none else some s.cfg.minRunTime,
            request := true,
            forced := false }
           else { s.allot with request := true, forced := false })
        else { s.allot with request := false, forced := false })

/-- Every step keeps this: the pause is on if and only if the excursion state is EXCURSION, the climate state is
STARTING or LOST, or the fire state is raised. (R160) -/
def Obligations.HoldPauseFollowsItsConditions : Prop :=
    ∀ s t : State, StartQuiet s → PauseFollows s → step s = .next t → StartQuiet t ∧ PauseFollows t

/-- Every step keeps this: while the fire state is PRE_DISCHARGE, HELD or DISCHARGED, no custody entry is EXPECTED,
none is OFFERED and the giver suspension flag is set. Whatever the command, at a station that runs before and after
it: where the fire state at its end is another (the state at the end of the event counts: R42), entry into one of
these three sets the flag, makes each OFFERED entry SUSPENDED with its timer as it stands and removes each EXPECTED
entry, REFUSE FIRE entering the reply list with the entry's number, tag and peer, in the order of the list (log
45), but not a second time and not beyond 24; entry into NORMAL clears the flag and makes each SUSPENDED entry
OFFERED with its timer; any other entry changes neither. Every custody entry but the HELD ones, whose wait a peer
update may end (R139), keeps its place and everything else. (R140, R143, R42, R132, R139) -/
def Obligations.FireLeavesNothingExpectedOrOffered : Prop :=
    (∀ s t : State, NothingExpectedInFire s → GiversSuspendedInFire s → step s = .next t → NothingExpectedInFire t ∧
      GiversSuspendedInFire t) ∧
    (∀ (c : Instr) (s t : State), exec c s = .next t → s.phase = .running → t.phase = .running →
      t.fire.state ≠ s.fire.state →
      t.custody.suspended = (custodyMoved s.fire.state t.fire.state s.custody).suspended ∧
      t.custody.replies = (custodyMoved s.fire.state t.fire.state s.custody).replies ∧
      besidesHeld t.custody.entries = besidesHeld (custodyMoved s.fire.state t.fire.state s.custody).entries)

/-- Every step keeps together: 64 history records, 4 consignments of at most 16 entries each, 24 custody entries,
24 replies, 8 reports, 2 waiting queries; no tag in two custody entries and no number in two consignment records;
an owed count of climate samples of at most 4 and both release check counts at most 2; six input records, types and
latches and thirty peer entries. Every step keeps, too, while the numbers and the tags are distinct, that a
record's opening timer runs in OPENING only, its deadline timer not in OPENING and its courier window timer in
COURIER_PRESENT and RECEIVING only, and that every HELD custody entry owes OFFER exactly while it has a peer
station, a consignment number whose record is not RECEIVING and no wait reason, and else owes nothing. (R61, R111,
R131, R132, R179, R180, R13, R16, R2, R19, R170, R135) -/
def Obligations.ListsNumbersAndCountsKeepTheirLimits : Prop :=
    (∀ s t : State, ListsBounded s → RecordNumbersDistinct s → CustodyTagsDistinct s → OwedBounded s →
      CheckCountsBounded s → FixedSizes s → step s = .next t → ListsBounded t ∧ RecordNumbersDistinct t ∧
        CustodyTagsDistinct t ∧ OwedBounded t ∧ CheckCountsBounded t ∧ FixedSizes t) ∧
    (∀ s t : State, RecordNumbersDistinct s → CustodyTagsDistinct s → RecordTimersPlaced s → OffersSettled s →
      step s = .next t → RecordTimersPlaced t ∧ OffersSettled t)

/-- Every step keeps this: each slot number occurs once; OCCUPIED, PULL_PENDING, HOLD, QUARANTINE and UNEXPECTED of
kind PRESENCE are exactly the states of a slot that is PRESENT; and the known tags of the slots are pairwise
distinct. (R81, R82, R83) -/
def Obligations.SlotTableStaysSound : Prop :=
    ∀ s t : State, SlotTableSound s → step s = .next t → SlotTableSound t

/-- Every step keeps this: while LINE_STUCK is set, and while STRAP_INVALID is set, the transmitter has no frame on
the line. (R173, R175, R183) -/
def Obligations.StuckLineAndInvalidStrapSendNothing : Prop :=
    ∀ s t : State, StuckLineQuiet s → InvalidStrapQuiet s → step s = .next t → StuckLineQuiet t ∧ InvalidStrapQuiet t

/-- For every command and every state in PRE_DISCHARGE with a remaining r: if the state after the command is still
PRE_DISCHARGE, its remaining is present and at most r. (R29) -/
def Obligations.CountdownNeverRisesInPreDischarge : Prop :=
    ∀ (c : Instr) (s t : State) (r : Nat), exec c s = .next t →
    s.fire.state = .preDischarge → s.fire.countdown = some r → t.fire.state = .preDischarge →
    ∃ r', t.fire.countdown = some r' ∧ r' ≤ r

/-- For every command on a state whose slot numbers are distinct and whose pause follows its conditions: if a pause
condition holds before and after it, a slot that is in HOLD with h minutes before and in HOLD after has at least h
minutes after. (R160) -/
def Obligations.HoldsNeverFallWhilePaused : Prop :=
    ∀ (c : Instr) (s t : State) (n h : Nat) (sl sl' : Slot), exec c s = .next t →
    (s.scanner.slots.map fun sl => sl.number).Nodup → PauseFollows s →
    pauseCondition s = true → pauseCondition t = true →
    findSlot n s = some sl → sl.state = .hold → sl.hold = some h →
    findSlot n t = some sl' → sl'.state = .hold → ∃ h', sl'.hold = some h' ∧ h ≤ h'

/-- Both commands, in every state, leave the reset state of every block with the straps just read: the own number,
the role, and STRAP_INVALID set exactly for an own number of 0 or 31. Only the queue of commands and the model's
counter of free values are kept. (R44, R64, R77, R130, R150, R163, R183, R185) -/
def Obligations.PowerOnAndResetPinBeginTheStart : Prop :=
    (∀ (s : State) (own : Strap) (role : Role),
      exec (.powerOn own role) s = .next ({ State.reset with
            phase := .readingImage,
            own := own,
            role := role,
            freeCount := s.freeCount,
            pending := s.pending,
            out := { State.reset.out with
                active := (if own.toNat = 0 ∨ own.toNat = 31 then BitVec.twoPow 25 Trouble.strapInvalid.code else
                  0) } })) ∧
    (∀ (s : State) (own : Strap) (role : Role),
      exec (.resetPin own role) s = .next ({ State.reset with
            phase := .readingImage,
            own := own,
            role := role,
            freeCount := s.freeCount,
            pending := s.pending,
            out := { State.reset.out with
                active := (if own.toNat = 0 ∨ own.toNat = 31 then BitVec.twoPow 25 Trouble.strapInvalid.code else
                  0) } }))

/-- While an image is being read, at a start or after a RESTART, the command leaves the station running on the
judged image, or on the defaults with CONFIG_DEFAULT set when the image is set aside. The stabilization, status,
climate and minute timers are at their full times, the first sequence is in progress and the first scan has begun,
DETECTOR and PRESSURE inputs are WITHHELD and the others READY, a slot count of 0 leaves no records and takes no
inventory, a table of the right slot count is kept and any other is built by inventory, and a READ starts if
ATTENTION is active and no wait after a RESTART is due (after one it is pending: log 44). The straps, the uptime,
the fire state, the climate record, the allotter, the consignments, the custody list and the counters of free
values stand. (R17, R44, R97, R98, R110, R163, R182, R184, R185, R186) -/
def Obligations.ConfigImageReadStartsEveryBlock : Prop :=
    ∀ (s : State) (image : List Byte) (attention : Bool) (check : CircuitCheck),
      (s.phase = .readingImage ∨ s.phase = .restarting) → s.cfg.inputTypes.length = 6 →
      ∃ t, exec (.configImageRead image attention check) s = .next t ∧
      t.phase = .running ∧ t.cfg = (judgeImage image).getD Settings.defaults ∧
      troubleActive .configDefault t = (judgeImage image).isNone ∧
      t.fire = { s.fire with stabTimer := some 30 } ∧
      t.sup.inputs = (t.cfg.inputTypes.map fun ty =>
        {
            settled := .unsettled,
            candidate := none,
            stage := (if ty = .detector ∨ ty = .pressure then .withheld else .ready) }) ∧
      t.sup.conv = (((usedFrom 0 t).map Converting.input).getD .probe) ∧ t.sup.scanPending = false ∧
      t.sup.seq = some Sequence.fresh ∧ t.sup.owed = 0 ∧ t.sup.climateTimer = some t.cfg.climateInterval ∧
      t.scanner.drive = 1 ∧
      (if slotCount t = 0 then t.scanner.slots = [] ∧ t.scanner.inventory = none
       else if s.scanner.slots.length = slotCount t then t.scanner.slots = s.scanner.slots ∧ t.scanner.inventory =
         none
       else t.scanner.slots = [] ∧
         t.scanner.inventory = some { pass := 1, samples := List.replicate (slotCount t) false }) ∧
      t.reader.waiting = decide (s.phase = .restarting) ∧
      (s.phase = .readingImage →
        t.reader.transaction = (if attention then some (.read false) else none) ∧ t.reader.readPending = false) ∧
      (s.phase = .restarting → t.reader.transaction = none ∧ t.reader.readPending = attention) ∧
      t.hold = { seconds := 60, paused := true } ∧ t.minuteLeft = 60 ∧
      t.line.statusTimer = some t.cfg.statusInterval ∧
      t = { s with
            phase := t.phase,
            minuteLeft := t.minuteLeft,
            cfg := t.cfg,
            sup := t.sup,
            fire := t.fire,
            scanner := t.scanner,
            reader := t.reader,
            hold := t.hold,
            line := t.line,
            out := { s.out with active := t.out.active, reported := t.out.reported } }

/-- An image is judged good exactly when not all of its 64 bytes are FFh, its byte 0 is 1 and the check of its
bytes 0 to 61 is its last two bytes. A byte that the memory did not send reads as FFh (log 21). The values of a
good image are then these, field by field: each number is its byte or its two bytes, high byte first and signed
where the field is a temperature, clamped to the range of its field; release enabled is a code of 1 in bits 7 and 6
of byte 3; a policy or type code that names none takes the default; the slot count is rounded down to a multiple of
16, a count of 1 to 15 up to 16; Hmax is rounded down to a multiple of 10. So every field lies within its range.
(R184, R193, R79) -/
def Obligations.JudgedImageGivesEveryFieldClamped : Prop :=
    (∀ image : List Byte, (judgeImage image).isSome = true ↔
      (∃ k ∈ List.range 64, imageByte image k ≠ 0xFF) ∧ imageByte image 0 = 1 ∧
      crc ((List.range 62).map fun k => imageByte image k) =
        BitVec.ofNat 16 ((imageByte image 62).toNat * 256 + (imageByte image 63).toNat)) ∧
    (∀ (image : List Byte) (v : Settings), judgeImage image = some v →
      v.console = max 0 (min 30 (imageByte image 1).toNat) ∧
      v.dockStation = max 0 (min 30 (imageByte image 2).toNat) ∧
      v.verifyTime = max 0 (min 60 (imageByte image 7).toNat) ∧
      v.preDischargeDelay = max 10 (min 60 (imageByte image 8).toNat) ∧
      v.manualDelay = max 0 (min 30 (imageByte image 9).toNat) ∧
      v.abortRestart = max 10 (min 60 (imageByte image 10).toNat) ∧
      v.releasePulse = max 1 (min 10 (imageByte image 11).toNat) ∧
      v.statusInterval = max 2 (min 20 (imageByte image 12).toNat) ∧
      v.climateInterval = max 1 (min 60 (imageByte image 13).toNat) ∧
      v.rhAgree = max 10 (min 100 (imageByte image 15).toNat) ∧
      v.tAgree = max 10 (min 100 (imageByte image 16).toNat) ∧
      v.deadband = max 1 (min 100 (imageByte image 17).toNat) ∧
      v.bandUp = max 10 (min 100 (imageByte image 18).toNat) ∧
      v.bandDown = max 10 (min 100 (imageByte image 19).toNat) ∧
      v.h0 = max 0 (min 240 (imageByte image 21).toNat) ∧
      v.kt = max 0 (min 120 (imageByte image 22).toNat) ∧
      v.kh = max 0 (min 60 (imageByte image 23).toNat) ∧
      v.releaseEnabled = decide ((imageByte image 3).toNat / 64 = 1) ∧
      v.spaceGroup = (imageByte image 3).toNat / 8 % 8 ∧
      v.policy = (if (imageByte image 3).toNat % 4 = 0 then .every else if (imageByte image 3).toNat % 4 = 2 then
        .excursion else .change) ∧
      v.cap = max 1 (min 30 ((imageByte image 14).toNat / 8)) ∧
      v.averaging = (imageByte image 14).toNat % 8 ∧
      v.inputTypes = ([(imageByte image 4).toNat / 16, (imageByte image 4).toNat % 16, (imageByte image 5).toNat / 16,
        (imageByte image 5).toNat % 16, (imageByte image 6).toNat / 16,
          (imageByte image 6).toNat % 16].map fun k => if k = 0 then .unused else if k = 2 then .manualRelease else
            if k = 3 then .pressure else if k = 4 then .abort else .detector) ∧
      v.slotCount = (if min 128 (imageByte image 20).toNat = 0 then 0 else
        max 16 (min 128 (imageByte image 20).toNat / 16 * 16)) ∧
      v.aux1Mask = imageByte image 24 ∧
      v.aux2Mask = imageByte image 25 ∧
      v.climateHoldLimit = max 60 (min 1800 ((imageByte image 26).toNat * 256 + (imageByte image 27).toNat)) ∧
      v.rhTarget = max 200 (min 700 ((imageByte image 28).toNat * 256 + (imageByte image 29).toNat)) ∧
      v.rhHigh = max 300 (min 950 ((imageByte image 30).toNat * 256 + (imageByte image 31).toNat)) ∧
      v.rhLow = max 50 (min 600 ((imageByte image 32).toNat * 256 + (imageByte image 33).toNat)) ∧
      v.excursionDelay = max 0 (min 3600 ((imageByte image 38).toNat * 256 + (imageByte image 39).toNat)) ∧
      v.minRunTime = max 0 (min 3600 ((imageByte image 40).toNat * 256 + (imageByte image 41).toNat)) ∧
      v.minOffTime = max 0 (min 1800 ((imageByte image 42).toNat * 256 + (imageByte image 43).toNat)) ∧
      v.pullWindow = max 30 (min 600 ((imageByte image 44).toNat * 256 + (imageByte image 45).toNat)) ∧
      v.returnWindow = max 60 (min 3600 ((imageByte image 46).toNat * 256 + (imageByte image 47).toNat)) ∧
      v.courierWindow = max 120 (min 3600 ((imageByte image 48).toNat * 256 + (imageByte image 49).toNat)) ∧
      v.handoverWindow = max 60 (min 1800 ((imageByte image 50).toNat * 256 + (imageByte image 51).toNat)) ∧
      v.damageRh = max 0 (min 1000 ((imageByte image 60).toNat * 256 + (imageByte image 61).toNat)) ∧
      v.hMax = (max 60 (min 1440 ((imageByte image 52).toNat * 256 + (imageByte image 53).toNat))) / 10 * 10 ∧
      v.tHigh = max 0 (min 500 (if ((imageByte image 34).toNat * 256 + (imageByte image 35).toNat) < 32768 then
        (((imageByte image 34).toNat * 256 + (imageByte image 35).toNat) : Int) else
          (((imageByte image 34).toNat * 256 + (imageByte image 35).toNat) : Int) - 65536)) ∧
      v.tLow = max (-300) (min 300 (if ((imageByte image 36).toNat * 256 + (imageByte image 37).toNat) < 32768 then
        (((imageByte image 36).toNat * 256 + (imageByte image 37).toNat) : Int) else
          (((imageByte image 36).toNat * 256 + (imageByte image 37).toNat) : Int) - 65536)) ∧
      v.tReference = max 100 (min 300 (if ((imageByte image 54).toNat * 256 + (imageByte image 55).toNat) < 32768 then
        (((imageByte image 54).toNat * 256 + (imageByte image 55).toNat) : Int) else
          (((imageByte image 54).toNat * 256 + (imageByte image 55).toNat) : Int) - 65536)) ∧
      v.damageTHigh = max 0 (min 700 (if ((imageByte image 56).toNat * 256 + (imageByte image 57).toNat) < 32768 then
        (((imageByte image 56).toNat * 256 + (imageByte image 57).toNat) : Int) else
          (((imageByte image 56).toNat * 256 + (imageByte image 57).toNat) : Int) - 65536)) ∧
      v.damageTLow = max (-400) (min 0 (if ((imageByte image 58).toNat * 256 + (imageByte image 59).toNat) < 32768
        then (((imageByte image 58).toNat * 256 + (imageByte image 59).toNat) : Int) else
          (((imageByte image 58).toNat * 256 + (imageByte image 59).toNat) : Int) - 65536))) ∧
    (∀ (image : List Byte) (v : Settings), judgeImage image = some v →
      (0 ≤ v.console ∧ v.console ≤ 30) ∧ (0 ≤ v.dockStation ∧ v.dockStation ≤ 30) ∧
        (0 ≤ v.verifyTime ∧ v.verifyTime ≤ 60) ∧ (10 ≤ v.preDischargeDelay ∧ v.preDischargeDelay ≤ 60) ∧
          (0 ≤ v.manualDelay ∧ v.manualDelay ≤ 30) ∧ (10 ≤ v.abortRestart ∧ v.abortRestart ≤ 60) ∧
            (1 ≤ v.releasePulse ∧ v.releasePulse ≤ 10) ∧ (2 ≤ v.statusInterval ∧ v.statusInterval ≤ 20) ∧
              (1 ≤ v.climateInterval ∧ v.climateInterval ≤ 60) ∧ (10 ≤ v.rhAgree ∧ v.rhAgree ≤ 100) ∧
                (10 ≤ v.tAgree ∧ v.tAgree ≤ 100) ∧ (1 ≤ v.deadband ∧ v.deadband ≤ 100) ∧
                  (10 ≤ v.bandUp ∧ v.bandUp ≤ 100) ∧ (10 ≤ v.bandDown ∧ v.bandDown ≤ 100) ∧ (0 ≤ v.h0 ∧ v.h0 ≤ 240) ∧
                    (0 ≤ v.kt ∧ v.kt ≤ 120) ∧ (0 ≤ v.kh ∧ v.kh ≤ 60) ∧
                      (60 ≤ v.climateHoldLimit ∧ v.climateHoldLimit ≤ 1800) ∧ (200 ≤ v.rhTarget ∧ v.rhTarget ≤ 700) ∧
                        (300 ≤ v.rhHigh ∧ v.rhHigh ≤ 950) ∧ (50 ≤ v.rhLow ∧ v.rhLow ≤ 600) ∧
                          (0 ≤ v.excursionDelay ∧ v.excursionDelay ≤ 3600) ∧
                            (0 ≤ v.minRunTime ∧ v.minRunTime ≤ 3600) ∧ (0 ≤ v.minOffTime ∧ v.minOffTime ≤ 1800) ∧
                              (30 ≤ v.pullWindow ∧ v.pullWindow ≤ 600) ∧
                                (60 ≤ v.returnWindow ∧ v.returnWindow ≤ 3600) ∧
                                  (120 ≤ v.courierWindow ∧ v.courierWindow ≤ 3600) ∧
                                    (60 ≤ v.handoverWindow ∧ v.handoverWindow ≤ 1800) ∧
                                      (0 ≤ v.damageRh ∧ v.damageRh ≤ 1000) ∧ (0 ≤ v.tHigh ∧ v.tHigh ≤ 500) ∧
                                        (-300 ≤ v.tLow ∧ v.tLow ≤ 300) ∧ (100 ≤ v.tReference ∧ v.tReference ≤ 300) ∧
                                        (0 ≤ v.damageTHigh ∧ v.damageTHigh ≤ 700) ∧
                                        (-400 ≤ v.damageTLow ∧ v.damageTLow ≤ 0) ∧ v.spaceGroup ≤ 7 ∧
                                        v.averaging ≤ 7 ∧ (1 ≤ v.cap ∧ v.cap ≤ 30) ∧ v.inputTypes.length = 6 ∧
                                        v.slotCount % 16 = 0 ∧ v.slotCount ≤ 128 ∧ v.hMax % 10 = 0 ∧
                                        (60 ≤ v.hMax ∧ v.hMax ≤ 1440))

/-- At a running station UPTIME_MINUTE raises the uptime by 1 (it wraps after 24 bits) and reloads the model's own
seconds to the next minute at 60 (log 2); RELEASE_PULSE_EXPIRY turns RELEASE off; TEST_PULSE_END ends the test
pulse; BOUNCE_TIMER_EXPIRY removes the bounce timer and keeps the last read ID; DOOR_FORCED_TIMER_EXPIRY removes
the door-forced timer. Nothing else changes. (R34, R39, R103, R185, R189) -/
def Obligations.PlainExpiriesEndTheirTimerAlone : Prop :=
    (∀ (s : State), s.phase = .running →
      exec (.uptimeMinute) s = .next ({ s with uptime := s.uptime + 1, minuteLeft := 60 })) ∧
    (∀ (s : State), s.phase = .running →
      exec (.releasePulseExpiry) s = .next ({ s with fire := { s.fire with releasePulse := none } })) ∧
    (∀ (s : State), s.phase = .running →
      exec (.testPulseEnd) s = .next ({ s with fire := { s.fire with testPulse := none } })) ∧
    (∀ (s : State), s.phase = .running →
      exec (.bounceTimerExpiry) s = .next ({ s with reader := { s.reader with bounce := none } })) ∧
    (∀ (s : State), s.phase = .running →
      exec (.doorForcedTimerExpiry) s = .next ({ s with out := { s.out with doorForced := none } }))

/-- While RELEASE is off and release is enabled the check raises its own count by 1, to a limit of 2, and sets the
other to 0; RELEASE_CIRCUIT is set when the count of bad checks is 2 and cleared when the count of good ones is 2,
and otherwise stays. While RELEASE is on, or release is disabled, counts and trouble stay. An idle converter begins
the scan at its first used input; a busy one leaves the scan pending. Only the input supervisor, that trouble and
the report queue can change. The timer reloads at the climate interval. With no sequence in progress one starts,
and an idle converter begins with it or with a pending scan; with one in progress and an owed count below 4 the
count rises by 1; with the count at 4 or more the request is lost and CLIMATE_STARVED is set. Only the input
supervisor, that trouble and the report queue can change. (R3, R13, R14, R16) -/
def Obligations.ScanAndClimateTimersRequestTheirConversions : Prop :=
    (∀ (s : State) (check : CircuitCheck), s.phase = .running →
      ∃ t, exec (.scanTimerExpiry check) s = .next t ∧
      t = { s with
            sup := t.sup,
            line := t.line,
            out := { s.out with active := t.out.active, reported := t.out.reported } } ∧ OnlyReports s.line t.line ∧
      (if releaseOn s = false ∧ s.cfg.releaseEnabled = true then
        (if check = .good then t.sup.goodChecks = min 2 (s.sup.goodChecks + 1) ∧ t.sup.badChecks = 0 ∧
          troubleActive .releaseCircuit t = (if t.sup.goodChecks = 2 then false else troubleActive .releaseCircuit s)
         else t.sup.badChecks = min 2 (s.sup.badChecks + 1) ∧ t.sup.goodChecks = 0 ∧
          troubleActive .releaseCircuit t = (if t.sup.badChecks = 2 then true else troubleActive .releaseCircuit s))
       else t.sup.goodChecks = s.sup.goodChecks ∧ t.sup.badChecks = s.sup.badChecks ∧ t.out = s.out) ∧
      (∀ x ∈ allTroubles, x ≠ .releaseCircuit → troubleActive x t = troubleActive x s ∧
        t.out.reported.getLsbD x.code = s.out.reported.getLsbD x.code) ∧
      t.sup.inputs = s.sup.inputs ∧ t.sup.seq = s.sup.seq ∧ t.sup.owed = s.sup.owed ∧
      t.sup.climateTimer = s.sup.climateTimer ∧
      (if s.sup.conv = .idle then t.sup.scanPending = false ∧
        t.sup.conv = ((usedFrom 0 s).map Converting.input).getD (if s.sup.seq.isSome then .probe else .idle)
       else t.sup.scanPending = true ∧ t.sup.conv = s.sup.conv)) ∧
    (∀ (s : State), s.phase = .running →
      ∃ t, exec (.climateTimerExpiry) s = .next t ∧
      t.sup.climateTimer = some s.cfg.climateInterval ∧ t.sup.inputs = s.sup.inputs ∧
      (if s.sup.seq = none then
         t.sup.seq = some Sequence.fresh ∧ t.sup.owed = s.sup.owed ∧
         (s.sup.conv ≠ .idle → t.sup.conv = s.sup.conv) ∧
         (s.sup.conv = .idle → s.sup.scanPending = false → t.sup.conv = .probe) ∧ t.out = s.out ∧ t.line = s.line
       else t.sup.seq = s.sup.seq ∧ t.sup.conv = s.sup.conv ∧
         (if s.sup.owed < 4 then t.sup.owed = s.sup.owed + 1 ∧ t.out = s.out ∧ t.line = s.line
          else t.sup.owed = s.sup.owed ∧ troubleActive .climateStarved t = true ∧ OnlyReports s.line t.line)) ∧
      t = { s with
            sup := t.sup,
            line := t.line,
            out := { s.out with active := t.out.active, reported := t.out.reported } } ∧
      (∀ x ∈ allTroubles, x ≠ .climateStarved → troubleActive x t = troubleActive x s ∧
        t.out.reported.getLsbD x.code = s.out.reported.getLsbD x.code))

/-- The plain bands begin at 0, 400, 1600 and 3400. OPEN is left exactly by a code of 464 or above, NORMAL by 336
or below or 1664 or above, ALARM by 1536 or below or 3464 or above, SHORT by 3336 or below; the scan band is then
the plain band of the code, and no code within 63 of it lies in the band left. For an input whose stage is not
VERIFYING, with r its record and b the scan band of the code by r's settled band: if b is the settled band the
candidate is cleared; else if b is ALARM in stage READY verification begins (a timer at the verify time for a
DETECTOR, else a count of 1); else if b is the candidate, b settles, INPUT_OPEN and INPUT_SHORT follow it, and an
ABORT input leaving ALARM leaves the own abort inputs; else b becomes the candidate. No other input record changes,
and unless an ABORT input leaves ALARM nothing but the input supervisor, the troubles and the report queue changes.
At the end of every conversion of an input, whatever its stage, the converter goes on to the next used input of the
scan; after the last it begins a pending scan at its first used input, else it goes on with a sequence in progress,
else it is idle. (R4, R5, R6, R7, R9, R10, R14, R21) -/
def Obligations.BandsSettleByTwoScansBeyondTheirMargins : Prop :=
    ((∀ (b : Band) (c : Code),
    (b = .unsettled → scanBand b c = plainBand c) ∧
    (b ≠ .unsettled → scanBand b c ≠ b →
      scanBand b c = plainBand c ∧ ∀ c' : Code, c'.toNat ≤ c.toNat + 63 → c.toNat ≤ c'.toNat + 63 →
        plainBand c' ≠ b))) ∧
    (∀ c : Code,
      plainBand c = (if c.toNat < 400 then .openBand else if c.toNat < 1600 then .normal
        else if c.toNat < 3400 then .alarm else .short) ∧
      (scanBand .openBand c ≠ .openBand ↔ 464 ≤ c.toNat) ∧
      (scanBand .normal c ≠ .normal ↔ c.toNat ≤ 336 ∨ 1664 ≤ c.toNat) ∧
      (scanBand .alarm c ≠ .alarm ↔ c.toNat ≤ 1536 ∨ 3464 ≤ c.toNat) ∧
      (scanBand .short c ≠ .short ↔ c.toNat ≤ 3336)) ∧
    (∀ (s : State) (i : InputNo) (c : Code), s.phase = .running → FixedSizes s → s.sup.conv = .input i →
      ((inputRecord i s).stage = .ready ∨ (inputRecord i s).stage = .latched ∨ (inputRecord i s).stage = .withheld) →
      ∃ t, exec (.inputConversionEnd c) s = .next t ∧
      inputRecord i t =
        (if scanBand (inputRecord i s).settled c = (inputRecord i s).settled then
          { inputRecord i s with candidate := none }
         else if scanBand (inputRecord i s).settled c = .alarm ∧ (inputRecord i s).stage = .ready then
          { inputRecord i s with
            candidate := none,
            stage := (.verifying (if inputType i s = .detector ∧ s.cfg.verifyTime ≠ 0 then .timer s.cfg.verifyTime
                else .count 1)) }
         else if (inputRecord i s).candidate = some (scanBand (inputRecord i s).settled c) then
          { inputRecord i s with
            settled := scanBand (inputRecord i s).settled c,
            candidate := none }
         else { inputRecord i s with
            candidate := some (scanBand (inputRecord i s).settled c) }) ∧
      (∀ j : InputNo, j ≠ i → inputRecord j t = inputRecord j s) ∧
      (∀ j : InputNo, usedFrom (i.val + 1) s = some j → t.sup.conv = .input j) ∧
      (if (scanBand (inputRecord i s).settled c ≠ (inputRecord i s).settled ∧
        ¬(scanBand (inputRecord i s).settled c = .alarm ∧ (inputRecord i s).stage = .ready) ∧
          (inputRecord i s).candidate = some (scanBand (inputRecord i s).settled c)) then
        troubleActive (.inputOpen i) t = (scanBand (inputRecord i s).settled c == .openBand) ∧
        troubleActive (.inputShort i) t = (scanBand (inputRecord i s).settled c == .short)
       else t.out = s.out) ∧
      (if inputType i s = .abort ∧ (inputRecord i s).settled = .alarm ∧
        (scanBand (inputRecord i s).settled c ≠ (inputRecord i s).settled ∧
          ¬(scanBand (inputRecord i s).settled c = .alarm ∧ (inputRecord i s).stage = .ready) ∧
            (inputRecord i s).candidate = some (scanBand (inputRecord i s).settled c)) then
        t.fire.ownAbort = s.fire.ownAbort.filter (fun j => j != i)
       else t = { s with
            sup := t.sup,
            line := t.line,
            out := { s.out with active := t.out.active, reported := t.out.reported } } ∧ OnlyReports s.line t.line)) ∧
    (∀ (s : State) (i : InputNo) (c : Code), s.phase = .running → s.sup.conv = .input i →
      ∃ t, exec (.inputConversionEnd c) s = .next t ∧
      (∀ j ∈ usedFrom (i.val + 1) s, t.sup.conv = .input j ∧ t.sup.scanPending = s.sup.scanPending) ∧
      (usedFrom (i.val + 1) s = none → t.sup.scanPending = false ∧
        t.sup.conv = (if s.sup.scanPending = true then
          ((usedFrom 0 s).map Converting.input).getD (if s.sup.seq.isSome then .probe else .idle) else
            (if s.sup.seq.isSome then .probe else .idle))) ∧
      t.sup.seq = s.sup.seq ∧ t.sup.owed = s.sup.owed)

/-- For an input in VERIFYING with a count of 1 or more, a code whose scan band by the ALARM row is ALARM settles
the input in ALARM. An ABORT input returns to READY and enters the own abort inputs in every fire state; any other
takes stage LATCHED and, outside TEST, a FIRE latch; in TEST it takes a TEST latch of 5 s instead, a test pulse of
1 s starts and the fire state stays. No other input's record or latch changes, unless the alarm ends STABILIZING,
no tag read and no consignment is touched, and no slot record where the pause follows its conditions. For a
DETECTOR in VERIFYING with a timer: it settles in ALARM, LATCHED, its open and short troubles clear. Outside TEST
it takes a FIRE latch and the own alarm count is at least 1; from NORMAL the fire state becomes the one that the
evaluation gives, which is raised. In TEST it takes a TEST latch of 5 s and a test pulse starts. Other inputs'
records and latches, the converter, the reader and the consignments do not change. For an input with no verify
timer nothing changes. For an input in VERIFYING with no candidate, a code whose scan band by the ALARM row is not
ALARM returns the stage to READY with no latch: the settled band is kept, and the code is judged again against it,
so that the candidate is cleared or becomes the code's band. A DETECTOR gives one REPORT UNVERIFIED_ALARM, any
other type no report. A code that gives ALARM while the verify timer runs changes no record; one at a count of 0
makes the count 1. (R9, R10, R20, R21, R39, R7, R24, R26, R8) -/
def Obligations.VerificationsEndInAnAlarmOrUnverified : Prop :=
    (∀ (s : State) (i : InputNo) (c : Code) (n : Nat), s.phase = .running → FixedSizes s → s.sup.conv = .input i →
      (inputRecord i s).stage = .verifying (.count (n + 1)) → scanBand .alarm c = .alarm →
      ∃ t, exec (.inputConversionEnd c) s = .next t ∧
      inputRecord i t = {
            settled := .alarm,
            candidate := none,
            stage := if inputType i s = .abort then .ready else .latched } ∧
      (if inputType i s = .abort then i ∈ t.fire.ownAbort ∧ t.fire.latches = s.fire.latches
       else if s.fire.state = .test then
         latchOf i t = .test 5 ∧ t.fire.testPulse = some 1 ∧ t.fire.state = .test ∧ t.fire.ownAbort = s.fire.ownAbort
       else latchOf i t = .fire ∧ t.fire.ownAbort = s.fire.ownAbort) ∧
      (∀ j : InputNo, j ≠ i → latchOf j t = latchOf j s ∧
        (s.fire.state ≠ .stabilizing → inputRecord j t = inputRecord j s)) ∧
      t.reader = s.reader ∧ t.consignments = s.consignments ∧ t.uptime = s.uptime ∧ t.cfg = s.cfg ∧
      t.fire.isolated = s.fire.isolated ∧ t.climate.bay = s.climate.bay ∧ t.climate.state = s.climate.state ∧
      (PauseFollows s → t.scanner = s.scanner)) ∧
    (∀ (s : State) (i : InputNo) (n : Nat), s.phase = .running → FixedSizes s → (inputRecord i s).stage =
      .verifying (.timer n) → inputType i s = .detector →
      ∃ t, exec (.verifyTimerExpiry i) s = .next t ∧
      inputRecord i t = { settled := .alarm, candidate := none, stage := .latched } ∧
      troubleActive (.inputOpen i) t = false ∧ troubleActive (.inputShort i) t = false ∧
      (if s.fire.state = .test then
         latchOf i t = .test 5 ∧ t.fire.testPulse = some 1 ∧ t.fire.state = .test
       else latchOf i t = .fire ∧ 1 ≤ ownAlarmCount t) ∧
      (s.fire.state = .normal → t.fire.state = evaluatedFromNormal t ∧ t.fire.state.raised = true) ∧
      (∀ j : InputNo, j ≠ i → latchOf j t = latchOf j s ∧ inputRecord j t = inputRecord j s) ∧
      t.sup = { s.sup with inputs := t.sup.inputs } ∧ t.fire.isolated = s.fire.isolated ∧
      t.fire.ownAbort = s.fire.ownAbort ∧
      t.reader = s.reader ∧ t.consignments = s.consignments ∧ t.uptime = s.uptime ∧ t.cfg = s.cfg) ∧
    (∀ (s : State) (i : InputNo), s.phase = .running → verifyTimer (inputRecord i s) = none →
      exec (.verifyTimerExpiry i) s = .next (s)) ∧
    (∀ (s : State) (i : InputNo) (c : Code) (v : Verification), s.phase = .running → FixedSizes s → s.sup.conv =
      .input i → (inputRecord i s).stage = .verifying v → (inputRecord i s).candidate = none →
        scanBand .alarm c ≠ .alarm →
      ∃ t, exec (.inputConversionEnd c) s = .next t ∧
      inputRecord i t =
        {
            settled := (inputRecord i s).settled,
            stage := .ready,
            candidate := (if scanBand (inputRecord i s).settled c = (inputRecord i s).settled then none
            else some (scanBand (inputRecord i s).settled c)) } ∧
      (∀ j : InputNo, j ≠ i → inputRecord j t = inputRecord j s) ∧
      t = { s with
            sup := t.sup,
            line := (if inputType i s = .detector ∧ reportsGoOut s = true then
                       pushReport { kind := .unverifiedAlarm, number := i.val + 1 } s.line
                     else s.line) }) ∧
    (∀ (s : State) (i : InputNo) (c : Code), s.phase = .running → FixedSizes s → s.sup.conv = .input i →
      ((inputRecord i s).stage = .verifying (.count 0) ∨ (verifyTimer (inputRecord i s)).isSome = true) →
        scanBand .alarm c = .alarm →
      ∃ t, exec (.inputConversionEnd c) s = .next t ∧
      inputRecord i t = (if (inputRecord i s).stage = .verifying (.count 0) then
          { inputRecord i s with stage := .verifying (.count 1) } else inputRecord i s) ∧
      (∀ j : InputNo, j ≠ i → inputRecord j t = inputRecord j s) ∧ t = { s with sup := t.sup })

/-- While the converter converts for a sequence and this is not its last conversion: the code is added to the sum
of the channel whose turn it is in the rounds RH-A, T-A, RH-B, T-B, and moves that channel's lowest and highest
code; the other channels stay, the conversions done rise by 1, and the converter goes on with a pending scan or
else with the sequence. Nothing outside the input supervisor changes. With a and b the values of probes A and B of
the completed sequence, absent for a faulted probe: two good probes that agree, their humidities no more than the
RH agree limit apart and their temperatures no more than the T agree limit, give the means, rounded down, and
ACTIVE; two that do not agree give the probe with the higher humidity (A when equal) and DEGRADED; one good probe
gives its values and DEGRADED; with both faulted ACTIVE and DEGRADED become HOLDING with the bay values kept and
the hold timer at its limit, HOLDING and LOST stay, and STARTING becomes LOST. PROBE_FAULT, PROBE_DISAGREE and
CLIMATE_LOST follow the sample. The converter begins a pending scan, else it goes on with the owed sequence, else
it is idle. An owed sequence starts at once, the owed count falls by 1, and CLIMATE_STARVED clears when it reaches
0. The fire record, custody list, reader and consignments do not change. (R14, R15, R16, R48, R50, R51, R52, R62) -/
def Obligations.ProbeConversionsMakeTheClimateSample : Prop :=
    (∀ (s : State) (c : Code) (q : Sequence), s.phase = .running → s.sup.conv = .probe → s.sup.seq = some q →
      q.done + 1 < 4 * 2 ^ s.cfg.averaging →
      ∃ t, exec (.probeConversionEnd c) s = .next t ∧
      t.sup.seq = some
        {
            done := q.done + 1,
            rhA := (if q.done % 4 = 0 then {
                sum := q.rhA.sum + c.toNat,
                low := min q.rhA.low c.toNat,
                high := max q.rhA.high c.toNat } else q.rhA),
            tA := (if q.done % 4 = 1 then {
                sum := q.tA.sum + c.toNat,
                low := min q.tA.low c.toNat,
                high := max q.tA.high c.toNat } else q.tA),
            rhB := (if q.done % 4 = 2 then {
                sum := q.rhB.sum + c.toNat,
                low := min q.rhB.low c.toNat,
                high := max q.rhB.high c.toNat } else q.rhB),
            tB := (if q.done % 4 = 3 then {
                sum := q.tB.sum + c.toNat,
                low := min q.tB.low c.toNat,
                high := max q.tB.high c.toNat } else q.tB) } ∧
      t.sup.conv = (if s.sup.scanPending then ((usedFrom 0 s).map Converting.input).getD .probe else .probe) ∧
      t.sup.scanPending = false ∧
      t = { s with
            sup := { s.sup with seq := t.sup.seq, conv := t.sup.conv, scanPending := false } }) ∧
    (∀ (s : State) (c : Code) (q : Sequence) (a b : Option Bay), s.phase = .running → s.sup.conv = .probe →
      s.sup.seq = some q → 4 * 2 ^ s.cfg.averaging ≤ q.done + 1 → a =
        probeValue s.cfg.averaging (q.add c).rhA (q.add c).tA → b =
          probeValue s.cfg.averaging (q.add c).rhB (q.add c).tB →
      ∃ t, exec (.probeConversionEnd c) s = .next t ∧
      (∀ x ∈ a, ∀ y ∈ b,
        (if ((x.rh : Int) - y.rh).natAbs ≤ s.cfg.rhAgree ∧ (x.t - y.t).natAbs ≤ s.cfg.tAgree then
          t.climate.bay = some { rh := (x.rh + y.rh) / 2, t := Int.fdiv (x.t + y.t) 2 } ∧ t.climate.state = .active
         else t.climate.bay = some (if x.rh < y.rh then y else x) ∧ t.climate.state = .degraded)) ∧
      (b = none → ∀ x ∈ a, t.climate.bay = some x ∧ t.climate.state = .degraded) ∧
      (a = none → ∀ y ∈ b, t.climate.bay = some y ∧ t.climate.state = .degraded) ∧
      ((a.isSome = true ∨ b.isSome = true) → t.climate.holdTimer = none) ∧
      (a = none → b = none →
        t.climate.bay = (if s.climate.state = .starting then none else s.climate.bay) ∧
        t.climate.state =
          (if s.climate.state = .starting ∨ s.climate.state = .lost then .lost else .holding) ∧
        ((s.climate.state = .active ∨ s.climate.state = .degraded) →
          t.climate.holdTimer = some s.cfg.climateHoldLimit) ∧
        (s.climate.state = .holding → t.climate.holdTimer = s.climate.holdTimer)) ∧
      troubleActive .probeFault t = (a.isNone || b.isNone) ∧
      (troubleActive .probeDisagree t = true ↔ ∃ x ∈ a, ∃ y ∈ b,
        ¬ (((x.rh : Int) - y.rh).natAbs ≤ s.cfg.rhAgree ∧ (x.t - y.t).natAbs ≤ s.cfg.tAgree)) ∧
      troubleActive .climateLost t = (t.climate.state == .lost) ∧
      t.sup.owed = s.sup.owed - 1 ∧ t.sup.seq = (if s.sup.owed = 0 then none else some Sequence.fresh) ∧
      (s.sup.owed = 1 → troubleActive .climateStarved t = false) ∧
      (s.sup.owed ≠ 1 → troubleActive .climateStarved t = troubleActive .climateStarved s) ∧
      t.climate.episode.count = (if s.climate.episode.status = .opened ∧ t.climate.bay.isSome = true then
        min 65535 (s.climate.episode.count + 1) else s.climate.episode.count) ∧
      t = { s with
            sup := t.sup,
            climate := t.climate,
            allot := t.allot,
            scanner := t.scanner,
            hold := t.hold,
            line := t.line,
            out := { s.out with active := t.out.active, reported := t.out.reported } } ∧
      t.sup.scanPending = false ∧
      t.sup.conv = (if s.sup.scanPending = true then ((usedFrom 0 s).map Converting.input).getD (if s.sup.owed =
        0 then .idle else .probe) else (if s.sup.owed = 0 then .idle else .probe)))

/-- For every average code: the humidity is the code times 1000 plus 2047 over 4095, rounded down, and lies within
0 to 1000; the temperature is -400 plus the code times 1100 plus 2047 over 4095, rounded down, and lies within -400
to +700; each is within half a divisor of the exact value. For the averages 9 to 4086 of a good probe the humidity
lies within 2 to 998 and the temperature within -398 to +698. (R49) -/
def Obligations.ProbeConversionRoundsToTheNearerTenth : Prop :=
    ∀ a : Nat, a ≤ 4095 →
    humidityOf a = (a * 1000 + 2047) / 4095 ∧ temperatureOf a = -400 + ((a * 1100 + 2047) / 4095 : Nat) ∧
    humidityOf a ≤ 1000 ∧ -400 ≤ temperatureOf a ∧ temperatureOf a ≤ 700 ∧
    ((4095 * humidityOf a : Int) - 1000 * a).natAbs ≤ 2047 ∧
    (4095 * (temperatureOf a + 400) - 1100 * (a : Int)).natAbs ≤ 2047 ∧
    (9 ≤ a → a ≤ 4086 → 2 ≤ humidityOf a ∧ humidityOf a ≤ 998 ∧ -398 ≤ temperatureOf a ∧ temperatureOf a ≤ 698)

/-- For a MANUAL_RELEASE input whose second ALARM scan comes, outside TEST. At an armed station in STABILIZING,
NORMAL, ALERT, CONFIRMED or HELD: with a manual delay of 1 s or more the state becomes PRE_DISCHARGE with that
remaining; in PRE_DISCHARGE the remaining becomes the lower of its value and the delay; with a delay of 0 the state
becomes DISCHARGED, the countdown goes and the release pulse starts at the release pulse time. In each case the
manual flag is set. From STABILIZING the period ends, armed or not: the stabilization timer goes, every other
WITHHELD input is re-verified if it is settled in ALARM and else READY, and each trouble whose active value differs
from the one the console was last told is reported, in the order of the set (R25, R187). Not armed, STABILIZING,
NORMAL, ALERT, CONFIRMED and HELD end in CONFIRMED with the manual flag as it was (log 26), and PRE_DISCHARGE, for
which R28 gives a dash, keeps its state, flag and remaining. DISCHARGED stays as it is, the latch kept. A verified
PRESSURE alarm, in NORMAL, ALERT, CONFIRMED, PRE_DISCHARGE or HELD, makes the state DISCHARGED with the manual flag
kept and, at an armed station, the release pulse started; in STABILIZING it changes neither the state nor RELEASE
(log 25). In every case the input holds a FIRE latch and isolation stands. When an ABORT input is verified by its
second ALARM scan in PRE_DISCHARGE: with the manual flag clear the state becomes HELD and the countdown is
discarded; with the manual flag set the state stays PRE_DISCHARGE with its remaining. Either way own abort is
active and the manual flag, the latches, isolation and the release pulse stand. The custody list follows the fire
state: entry into PRE_DISCHARGE, HELD or DISCHARGED suspends OFFERED entries and refuses EXPECTED ones with FIRE,
several replies in the order of the list (the model's choice, log 45) (R140, R143). (R9, R20, R28, R33, R34, R21,
R29, R31, R25, R140, R143, R187) -/
def Obligations.ManualReleaseAndAbortActOnTheFireState : Prop :=
    (∀ (s : State) (i : InputNo) (c : Code) (n : Nat), s.phase = .running → FixedSizes s → CountdownPlaced s →
      s.sup.conv = .input i → (inputRecord i s).stage = .verifying (.count (n + 1)) → scanBand .alarm c = .alarm →
        inputType i s = .manualRelease → s.fire.state ≠ .test →
      ∃ t, exec (.inputConversionEnd c) s = .next t ∧
      latchOf i t = .fire ∧ t.fire.isolated = s.fire.isolated ∧
      (if s.fire.state = .discharged then
        t.fire.state = .discharged ∧ t.fire.manual = s.fire.manual ∧ t.fire.releasePulse = s.fire.releasePulse
       else if armed s = true then
        t.fire.manual = true ∧
        (if s.cfg.manualDelay = 0 then t.fire.state = .discharged ∧ t.fire.countdown = none ∧
           t.fire.releasePulse = some s.cfg.releasePulse
         else t.fire.state = .preDischarge ∧ t.fire.releasePulse = s.fire.releasePulse ∧
           t.fire.countdown =
             some (if s.fire.state = .preDischarge then min (s.fire.countdown.getD 0) s.cfg.manualDelay
               else s.cfg.manualDelay))
       else if s.fire.state = .preDischarge then
        t.fire.state = .preDischarge ∧ t.fire.manual = s.fire.manual ∧ t.fire.countdown = s.fire.countdown
       else t.fire.state = .confirmed ∧ t.fire.manual = s.fire.manual ∧ t.fire.countdown = none ∧
        t.fire.releasePulse = s.fire.releasePulse) ∧
      (s.fire.state = .stabilizing → t.fire.stabTimer = none ∧
        (∀ j : InputNo, j ≠ i → inputRecord j t = (if (inputRecord j s).stage = .withheld then
          (if (inputRecord j s).settled = .alarm then
            {
            settled := .unsettled,
            candidate := none,
            stage := (.verifying (if inputType j s = .detector ∧ s.cfg.verifyTime ≠ 0 then
              .timer s.cfg.verifyTime else .count 0)) }
           else { inputRecord j s with stage := .ready })
        else inputRecord j s)) ∧
        t.out.reported = t.out.active ∧
        (∀ x ∈ allTroubles, x ≠ .inputOpen i → x ≠ .inputShort i → troubleActive x t = troubleActive x s) ∧
        t.line.reports = (queueReports (heldBackReports s.out.reported t.out.active) s).line.reports ∧
          t.line.reportsLost = (queueReports (heldBackReports s.out.reported t.out.active) s).line.reportsLost) ∧
      (s.fire.state ≠ .stabilizing → t.fire.stabTimer = s.fire.stabTimer ∧
        ∀ j : InputNo, j ≠ i → inputRecord j t = inputRecord j s) ∧
      t.custody = custodyMoved s.fire.state t.fire.state s.custody) ∧
    (∀ (s : State) (i : InputNo) (c : Code) (n : Nat), s.phase = .running → FixedSizes s → s.sup.conv = .input i →
      (inputRecord i s).stage = .verifying (.count (n + 1)) → scanBand .alarm c = .alarm → inputType i s = .pressure →
        s.fire.state ≠ .test →
      ∃ t, exec (.inputConversionEnd c) s = .next t ∧
      latchOf i t = .fire ∧ t.fire.manual = s.fire.manual ∧ t.fire.isolated = s.fire.isolated ∧
      (if s.fire.state = .stabilizing ∨ s.fire.state = .discharged then
        t.fire.state = s.fire.state ∧ t.fire.releasePulse = s.fire.releasePulse
       else t.fire.state = .discharged ∧ t.fire.countdown = none ∧
        t.fire.releasePulse = (if armed s then some s.cfg.releasePulse else s.fire.releasePulse)) ∧
      t.custody = custodyMoved s.fire.state t.fire.state s.custody) ∧
    (∀ (s : State) (i : InputNo) (c : Code) (n : Nat), s.phase = .running → FixedSizes s → s.sup.conv = .input i →
      (inputRecord i s).stage = .verifying (.count (n + 1)) → scanBand .alarm c = .alarm → inputType i s = .abort →
        s.fire.state = .preDischarge →
      ∃ t, exec (.inputConversionEnd c) s = .next t ∧
      (if s.fire.manual then t.fire.state = .preDischarge ∧ t.fire.countdown = s.fire.countdown
       else t.fire.state = .held ∧ t.fire.countdown = none) ∧
      t.fire.manual = s.fire.manual ∧ ownAbortActive t = true ∧ t.fire.latches = s.fire.latches ∧
      t.fire.isolated = s.fire.isolated ∧ t.fire.releasePulse = s.fire.releasePulse ∧
      t.custody = custodyMoved s.fire.state t.fire.state s.custody)

/-- In PRE_DISCHARGE with a remaining of 2 or more the remaining falls by 1 and nothing else changes, so no ALARM
is queued. With a remaining of 1 the state becomes DISCHARGED: the countdown and the silence level go, the manual
flag stays, an armed station starts its release pulse at the release pulse time and an unarmed one leaves RELEASE
as it is, an open episode is marked discharged, givers are suspended, each OFFERED entry becomes SUSPENDED with its
timer as it stands, each EXPECTED entry is removed with REFUSE FIRE to its peer in the reply list, with its number
and tag (order: log 45), and one ALARM is queued. Without a countdown in PRE_DISCHARGE nothing changes. The inputs,
the reader, the consignments and the configuration stand. In STABILIZING with its timer: the timer goes, and the
state is the one the evaluation gives from NORMAL. A WITHHELD input settled in ALARM is re-verified (UNSETTLED, no
candidate, a full verify time for a DETECTOR that has one, else a count of 0) and any other WITHHELD input is
READY; inputs in other stages stay. The reported value of every trouble equals its active value, and no active
value changes: one TROUBLE_SET or TROUBLE_CLEAR is queued for each trouble whose two values differed, in the order
of the set (none other where the pause follows its conditions). The evaluation's state acts on the custody list as
in R140 and R143: NORMAL clears the flag and resumes the SUSPENDED entries. Without the timer, or in another state,
nothing changes. (R29, R33, R34, R43, R62, R140, R143, R11, R12, R25, R187) -/
def Obligations.CountdownAndStabilizationRunOut : Prop :=
    (∀ (s : State) (r : Nat), s.phase = .running → s.fire.state = .preDischarge → s.fire.countdown = some (r + 2) →
      exec (.countdownExpiry) s = .next ({ s with fire := { s.fire with countdown := some (r + 1) } })) ∧
    (∀ (s : State), s.phase = .running → s.fire.state = .preDischarge → s.fire.countdown = some 1 →
      s.fire.silence ≠ some .discharged →
      ∃ t, exec (.countdownExpiry) s = .next t ∧
      t.fire.state = .discharged ∧ t.fire.countdown = none ∧ t.fire.silence = none ∧
      t.fire.manual = s.fire.manual ∧ t.fire.latches = s.fire.latches ∧ t.fire.ownAbort = s.fire.ownAbort ∧
      t.fire.isolated = s.fire.isolated ∧ t.fire.stabTimer = s.fire.stabTimer ∧ t.fire.testTimer = s.fire.testTimer ∧
      t.fire.releasePulse = (if armed s then some s.cfg.releasePulse else s.fire.releasePulse) ∧
      t.climate.episode =
        (if s.climate.episode.status = .opened then { s.climate.episode with discharged := true }
         else s.climate.episode) ∧
      t.climate = { s.climate with episode := t.climate.episode } ∧
      t.custody.suspended = true ∧ (∀ e ∈ t.custody.entries, e.state ≠ .expected ∧ e.state ≠ .offered) ∧
      t.line.alarmQueued = true ∧
      t = { s with
            fire := t.fire,
            climate := t.climate,
            allot := t.allot,
            scanner := t.scanner,
            custody := t.custody,
            hold := t.hold,
            line := t.line } ∧
      t.custody = custodyMoved s.fire.state t.fire.state s.custody) ∧
    (∀ (s : State), s.phase = .running → (s.fire.state ≠ .preDischarge ∨ s.fire.countdown = none) →
      exec (.countdownExpiry) s = .next (s)) ∧
    (∀ (s : State), s.phase = .running → FixedSizes s → s.fire.state = .stabilizing → s.fire.stabTimer.isSome = true →

      ∃ t, exec (.stabilizationTimerExpiry) s = .next t ∧
      t.fire.stabTimer = none ∧ t.fire.state = evaluatedFromNormal t ∧
      (∀ i : InputNo, inputRecord i t =
        if (inputRecord i s).stage = .withheld then
          (if (inputRecord i s).settled = .alarm then
            {
            settled := .unsettled,
            candidate := none,
            stage := (.verifying (if inputType i s = .detector ∧ s.cfg.verifyTime ≠ 0 then .timer s.cfg.verifyTime
                else .count 0)) }
           else { inputRecord i s with stage := .ready })
        else inputRecord i s) ∧
      t.out = { s.out with reported := s.out.active } ∧ t.fire.latches = s.fire.latches ∧
      t.fire.ownAbort = s.fire.ownAbort ∧ t.fire.isolated = s.fire.isolated ∧
      t.sup = { s.sup with inputs := t.sup.inputs } ∧
      t.reader = s.reader ∧ t.consignments = s.consignments ∧ t.cfg = s.cfg ∧ t.uptime = s.uptime ∧
      t.custody = custodyMoved s.fire.state t.fire.state s.custody ∧
      (PauseFollows s → t.line.reports = (queueReports (heldBackReports s.out.reported t.out.active) s).line.reports ∧
        t.line.reportsLost = (queueReports (heldBackReports s.out.reported t.out.active) s).line.reportsLost)) ∧
    (∀ (s : State), s.phase = .running → (s.fire.state ≠ .stabilizing ∨ s.fire.stabTimer = none) →
      exec (.stabilizationTimerExpiry) s = .next (s))

/-- Accepted from the console, FIRE_RESET in PRE_DISCHARGE, STABILIZING or TEST, SILENCE outside ALERT, CONFIRMED
and HELD, TEST_START outside NORMAL, TEST_END outside TEST, and RESTART in PRE_DISCHARGE, HELD or DISCHARGED queue
REPORT COMMAND_REFUSED with the command's code and change nothing else but the reception of the frame. (R36, R37,
R38, R40, R186) -/
def Obligations.RefusedFireCommandsOnlyReport : Prop :=
    (∀ (s : State) (f : Frame), AcceptedCommand 1 f s →
      (s.fire.state = .preDischarge ∨ s.fire.state = .stabilizing ∨ s.fire.state = .test) →
      exec (.fireReset f) s = .next (queueReport { kind := .commandRefused, code := 1 } (heard f s))) ∧
    (∀ (s : State) (f : Frame), AcceptedCommand 2 f s →
      (s.fire.state ≠ .alert ∧ s.fire.state ≠ .confirmed ∧ s.fire.state ≠ .held) →
      exec (.silence f) s = .next (queueReport { kind := .commandRefused, code := 2 } (heard f s))) ∧
    (∀ (s : State) (f : Frame), AcceptedCommand 3 f s → s.fire.state ≠ .normal →
      exec (.testStart f) s = .next (queueReport { kind := .commandRefused, code := 3 } (heard f s))) ∧
    (∀ (s : State) (f : Frame), AcceptedCommand 4 f s → s.fire.state ≠ .test →
      exec (.testEnd f) s = .next (queueReport { kind := .commandRefused, code := 4 } (heard f s))) ∧
    (∀ (s : State) (f : Frame), AcceptedCommand 9 f s →
      (s.fire.state = .preDischarge ∨ s.fire.state = .held ∨ s.fire.state = .discharged) →
      exec (.restart f) s = .next (queueReport { kind := .commandRefused, code := 9 } (heard f s)))

/-- In NORMAL, ALERT, CONFIRMED, HELD or DISCHARGED: no FIRE latch is left and the own alarm count is 0; RELEASE is
off, the manual flag clear and the silence level absent; own aborts and isolation are kept; a LATCHED input in
ALARM that is no ABORT input is re-verified and any other LATCHED one is READY, a verification that runs begins
again, its timer at the full verify time or its count at 0, while READY and WITHHELD inputs stay; the state is the
one the evaluation gives from NORMAL; where it is NORMAL and was not, the giver suspension flag is clear and each
SUSPENDED entry is OFFERED with its timer, and where it is PRE_DISCHARGE or HELD and was not, OFFERED entries are
suspended and EXPECTED ones refused with FIRE, several replies in the order of the list (the model's choice, log
45); where the reset ends in the state it began in, the custody list is given nothing (R42, as log 8 reads it).
From a raised state the episode that was open is closed unless the evaluation opens a new one. Accepted in
DISCHARGED: with h the post-fire hold of the episode, each OCCUPIED or HOLD slot of remaining r (0 for OCCUPIED)
ends in HOLD with the larger of r and h, or OCCUPIED when both are 0, and keeps its tag; every slot in another
state is unchanged. Accepted in ALERT, CONFIRMED, HELD or NORMAL no slot changes. Throughout, the pause follows its
conditions before the reset (PauseFollows). Where it ends with the reset and an expiry of the minute timer is
waiting (R160; the model shows it as a paused timer at 0 s, log 2), that expiry then (R161) takes its minute from
every HOLD slot; without it no HOLD slot loses minutes. (R11, R24, R34, R36, R63, R158, R42, R157, R160, R161,
R140, R143) -/
def Obligations.AcceptedFireResetClearsRecordAndSetsHolds : Prop :=
    (∀ (s : State) (f : Frame), AcceptedCommand 1 f s → FixedSizes s →
      (s.fire.state = .normal ∨ s.fire.state = .alert ∨ s.fire.state = .confirmed ∨ s.fire.state = .held ∨
        s.fire.state = .discharged) →
      ∃ t, exec (.fireReset f) s = .next t ∧
      (∀ l ∈ t.fire.latches, l ≠ .fire) ∧ ownAlarmCount t = 0 ∧ t.fire.releasePulse = none ∧
      t.fire.manual = false ∧ t.fire.silence = none ∧ t.fire.ownAbort = s.fire.ownAbort ∧
      t.fire.isolated = s.fire.isolated ∧ t.fire.state = evaluatedFromNormal t ∧
      (∀ i : InputNo, inputRecord i t =
          (if inputType i s = .abort then inputRecord i s
           else match (inputRecord i s).stage with
            | .latched => if (inputRecord i s).settled = .alarm then
                {
            settled := .unsettled,
            candidate := none,
            stage := (.verifying (if inputType i s = .detector ∧ s.cfg.verifyTime ≠ 0 then
              .timer s.cfg.verifyTime else .count 0)) }
              else { inputRecord i s with stage := .ready }
            | .verifying (.timer _) => { inputRecord i s with stage := .verifying (.timer s.cfg.verifyTime) }
            | .verifying (.count _) => { inputRecord i s with stage := .verifying (.count 0) }
            | .ready => inputRecord i s
            | .withheld => inputRecord i s)) ∧
      (s.fire.state.raised = true → t.fire.state = .normal →
        t.climate.episode = { s.climate.episode with status := .closed }) ∧
      (t.fire.state.raised = true →
        t.climate.episode = { status := .opened, extremes := none, count := 0, discharged := false }) ∧
      t.sup = { s.sup with inputs := t.sup.inputs } ∧
      t.climate = { s.climate with episode := t.climate.episode } ∧
      t = { s with
            sup := t.sup,
            fire := t.fire,
            climate := t.climate,
            allot := t.allot,
            scanner := t.scanner,
            custody := t.custody,
            hold := t.hold,
            line := t.line } ∧
      t.custody = custodyMoved s.fire.state t.fire.state s.custody) ∧
    (∀ (s : State) (f : Frame), AcceptedCommand 1 f s →
      (s.fire.state = .normal ∨ s.fire.state = .alert ∨ s.fire.state = .confirmed ∨ s.fire.state = .held ∨
        s.fire.state = .discharged) → PauseFollows s →
      ∃ t, exec (.fireReset f) s = .next t ∧
      (if s.hold.seconds = 0 ∧ s.hold.paused = true ∧ pauseCondition t = false then
        t.scanner.slots = ((if s.fire.state = .discharged then
          s.scanner.slots.map fun sl =>
            if sl.state = .occupied ∨ sl.state = .hold then
              (if max (sl.hold.getD 0) (computeHold s.cfg (episodeHoldClimate
                { s.climate.episode with status := .closed })) = 0
               then { sl with state := .occupied, hold := none }
               else { sl with
            state := .hold,
            hold := (some (max (sl.hold.getD 0) (computeHold s.cfg (episodeHoldClimate
              { s.climate.episode with status := .closed })))) })
            else sl
         else s.scanner.slots)).map countSlotDown
       else t.scanner.slots = (if s.fire.state = .discharged then
          s.scanner.slots.map fun sl =>
            if sl.state = .occupied ∨ sl.state = .hold then
              (if max (sl.hold.getD 0) (computeHold s.cfg (episodeHoldClimate
                { s.climate.episode with status := .closed })) = 0
               then { sl with state := .occupied, hold := none }
               else { sl with
            state := .hold,
            hold := (some (max (sl.hold.getD 0) (computeHold s.cfg (episodeHoldClimate
              { s.climate.episode with status := .closed })))) })
            else sl
         else s.scanner.slots)))

/-- The output pins as views of the state: RELEASE is on while the release pulse timer runs; SOUNDER in a test
pulse, else without a silence level steadily in DISCHARGED and else in the on phase of the cadence; HVAC_SHUTDOWN
in a raised state; DEHUMIDIFIER in RUNNING; DOOR_LOCK is released in a raised state, at a bay for a slot of an open
consignment in PULL_PENDING, PULLED or RETURN_PENDING, at the dock for a record with a courier; TROUBLE is on while
a trouble is active, once the straps and the image have been read; AUX1 and AUX2 are on at a running station while
a condition that their mask selects holds; PEXA and PEXB are on in the conversions of their probe's two channels
(log 47); DRVd is on while the scan runs and stands at drive position d, 16 d being at most the slot count, and so
at none where the position is unused (from the step that reaches d to the step that samples it: log 50). In ALERT,
CONFIRMED or HELD the silence level becomes the present state and the cadence stops, so that without a test pulse
SOUNDER is off; nothing else changes but the reception of the frame. With a cadence running: in ALERT the phases
last 1 s, in CONFIRMED and PRE_DISCHARGE a quarter of a second, in HELD half a second on and one and a half off;
the phase turns over and the timer reloads at the new phase's time, and nothing else changes. Without a cadence
nothing changes. (R1, R34, R37, R41, R42, R66, R129, R185, R187, R188, R79, R80) -/
def Obligations.OutputPinsFollowTheState : Prop :=
    (∀ s : State,
      (releaseOn s = true ↔ s.fire.releasePulse.isSome = true) ∧
      (sounderOn s = true ↔ s.fire.testPulse.isSome = true ∨
        (s.fire.silence = none ∧ (s.fire.state = .discharged ∨ ∃ c ∈ s.fire.cadence, c.phaseOn = true))) ∧
      (hvacShutdown s = true ↔ s.fire.state = .alert ∨ s.fire.state = .confirmed ∨ s.fire.state = .preDischarge ∨
        s.fire.state = .held ∨ s.fire.state = .discharged) ∧
      (dehumidifierOn s = true ↔ s.allot.running = true) ∧
      (doorReleased s = true ↔ hvacShutdown s = true ∨
        (s.role = .bay ∧ ∃ sl ∈ s.scanner.slots, (sl.state = .pullPending ∨ sl.state = .pulled ∨ sl.state =
          .returnPending) ∧
          ∃ c ∈ s.consignments, sl.consignment = some c.number) ∨
        (s.role = .dock ∧ ∃ c ∈ s.consignments, c.state = .courierPresent ∨ c.state = .receiving)) ∧
      (troubleOn s = true ↔ (s.phase = .running ∨ s.phase = .restarting) ∧ s.out.active ≠ 0) ∧
      (∀ m : Byte, auxOn m s = true ↔ s.phase = .running ∧
        ((m.getLsbD 0 = true ∧ hvacShutdown s = true) ∨ (m.getLsbD 1 = true ∧ s.fire.state = .preDischarge) ∨
         (m.getLsbD 2 = true ∧ s.fire.state = .discharged) ∨ (m.getLsbD 3 = true ∧ s.out.active ≠ 0) ∨
         (m.getLsbD 4 = true ∧ s.climate.excursion = .excursion) ∨
         (m.getLsbD 5 = true ∧ ∃ e ∈ s.custody.entries, e.state = .adrift ∨ e.state = .disputed) ∨
         (m.getLsbD 6 = true ∧ ∃ sl ∈ s.scanner.slots, sl.state = .quarantine) ∨
         (m.getLsbD 7 = true ∧ s.out.doorForced.isSome = true))) ∧
      aux1On s = auxOn s.cfg.aux1Mask s ∧ aux2On s = auxOn s.cfg.aux2Mask s ∧
      (probeAExcited s = true ↔ s.sup.conv = .probe ∧ ∃ q ∈ s.sup.seq, q.done % 4 = 0 ∨ q.done % 4 = 1) ∧
      (probeBExcited s = true ↔ s.sup.conv = .probe ∧ ∃ q ∈ s.sup.seq, q.done % 4 = 2 ∨ q.done % 4 = 3) ∧
      (∀ d : Nat, driveLineOn d s = true ↔ s.phase = .running ∧ s.scanner.drive = d ∧ 16 * d ≤ slotCount s)) ∧
    (∀ (s : State) (f : Frame), AcceptedCommand 2 f s →
      (s.fire.state = .alert ∨ s.fire.state = .confirmed ∨ s.fire.state = .held) →
      exec (.silence f) s = .next ({ heard f s with
            fire := { s.fire with silence := some s.fire.state, cadence := none } })) ∧
    (∀ (s : State) (c : Cadence), s.phase = .running → s.fire.cadence = some c →
      (s.fire.state = .alert ∨ s.fire.state = .confirmed ∨ s.fire.state = .preDischarge ∨ s.fire.state = .held) →
      exec (.sounderCadenceExpiry) s = .next ({ s with
            fire := { s.fire with
                cadence := (some
        {
                    phaseOn := !c.phaseOn,
                    reloadMs := (if s.fire.state = .alert then 1000 else if s.fire.state = .held then
                      (if c.phaseOn then 1500 else 500)
            else 250) }) } })) ∧
    (∀ (s : State), s.phase = .running → s.fire.cadence = none →
      exec (.sounderCadenceExpiry) s = .next (s))

/-- TEST_START in NORMAL enters TEST with the test timer at 60 minutes. TEST_END in TEST, and TEST_TIMER_EXPIRY in
TEST with the timer, remove the timer, every TEST latch and a test pulse, send the re-verification notice for each
input that held a TEST latch (R11: LATCHED in ALARM, no ABORT input, it is verified afresh, otherwise LATCHED it is
READY, and a verification that runs begins again), and evaluate from NORMAL, the custody list following the state
so reached (R140, R143; several REFUSE FIRE replies in the order of the list: the model's choice, log 45); FIRE
latches, own aborts, isolation and the other inputs' records stay. TEST_TIMER_EXPIRY without the timer or outside
TEST changes nothing. For an input with a TEST latch: the latch goes, and the input's record is the one the
re-verification notice gives; every other latch, record and field stays. For an input without a TEST latch nothing
changes. (R11, R38, R39, R40, R140, R143) -/
def Obligations.TestModeBeginsAndEndsWithItsNotices : Prop :=
    (∀ (s : State) (f : Frame), AcceptedCommand 3 f s → s.fire.state = .normal →
      ∃ t, exec (.testStart f) s = .next t ∧
      t.fire.state = .test ∧ t.fire.testTimer = some 3600 ∧ t.fire.latches = s.fire.latches ∧
      t.fire.ownAbort = s.fire.ownAbort ∧ t.fire.manual = s.fire.manual ∧ t.fire.isolated = s.fire.isolated ∧
      t.sup = s.sup ∧ t.climate = s.climate ∧ t.custody = s.custody ∧ t.out = s.out ∧
      t.line.alarmQueued = true ∧ t.reader = s.reader ∧ t.consignments = s.consignments) ∧
    (∀ (s : State) (f : Frame), s.phase = .running → FixedSizes s → s.fire.state = .test → AcceptedCommand 4 f s →
      ∃ t, exec (.testEnd f) s = .next t ∧
      t.fire.testTimer = none ∧ t.fire.testPulse = none ∧ t.fire.state = evaluatedFromNormal t ∧
      (∀ i : InputNo, latchOf i t = (if (latchTimer (latchOf i s)).isSome then .none else latchOf i s) ∧
        inputRecord i t =
          (if (latchTimer (latchOf i s)).isSome then (if inputType i s = .abort then inputRecord i s
           else match (inputRecord i s).stage with
            | .latched => if (inputRecord i s).settled = .alarm then
                {
            settled := .unsettled,
            candidate := none,
            stage := (.verifying (if inputType i s = .detector ∧ s.cfg.verifyTime ≠ 0 then
              .timer s.cfg.verifyTime else .count 0)) }
              else { inputRecord i s with stage := .ready }
            | .verifying (.timer _) => { inputRecord i s with stage := .verifying (.timer s.cfg.verifyTime) }
            | .verifying (.count _) => { inputRecord i s with stage := .verifying (.count 0) }
            | .ready => inputRecord i s
            | .withheld => inputRecord i s) else inputRecord i s)) ∧
      t.fire.ownAbort = s.fire.ownAbort ∧ t.fire.isolated = s.fire.isolated ∧
      t.sup = { s.sup with inputs := t.sup.inputs } ∧
      t = { s with
            sup := t.sup,
            fire := t.fire,
            climate := t.climate,
            allot := t.allot,
            scanner := t.scanner,
            custody := t.custody,
            hold := t.hold,
            line := t.line } ∧
      t.custody = custodyMoved s.fire.state t.fire.state s.custody) ∧
    (∀ (s : State), s.phase = .running → FixedSizes s → s.fire.state = .test → s.fire.testTimer.isSome = true →
      ∃ t, exec (.testTimerExpiry) s = .next t ∧
      t.fire.testTimer = none ∧ t.fire.testPulse = none ∧ t.fire.state = evaluatedFromNormal t ∧
      (∀ i : InputNo, latchOf i t = (if (latchTimer (latchOf i s)).isSome then .none else latchOf i s) ∧
        inputRecord i t =
          (if (latchTimer (latchOf i s)).isSome then (if inputType i s = .abort then inputRecord i s
           else match (inputRecord i s).stage with
            | .latched => if (inputRecord i s).settled = .alarm then
                {
            settled := .unsettled,
            candidate := none,
            stage := (.verifying (if inputType i s = .detector ∧ s.cfg.verifyTime ≠ 0 then
              .timer s.cfg.verifyTime else .count 0)) }
              else { inputRecord i s with stage := .ready }
            | .verifying (.timer _) => { inputRecord i s with stage := .verifying (.timer s.cfg.verifyTime) }
            | .verifying (.count _) => { inputRecord i s with stage := .verifying (.count 0) }
            | .ready => inputRecord i s
            | .withheld => inputRecord i s) else inputRecord i s)) ∧
      t.fire.ownAbort = s.fire.ownAbort ∧ t.fire.isolated = s.fire.isolated ∧
      t.sup = { s.sup with inputs := t.sup.inputs } ∧
      t = { s with
            sup := t.sup,
            fire := t.fire,
            climate := t.climate,
            allot := t.allot,
            scanner := t.scanner,
            custody := t.custody,
            hold := t.hold,
            line := t.line } ∧
      t.custody = custodyMoved s.fire.state t.fire.state s.custody) ∧
    (∀ (s : State), s.phase = .running → (s.fire.state ≠ .test ∨ s.fire.testTimer = none) →
      exec (.testTimerExpiry) s = .next (s)) ∧
    (∀ (s : State) (i : InputNo) (n : Nat), s.phase = .running → FixedSizes s → latchOf i s = .test n →
      ∃ t, exec (.testLatchClearExpiry i) s = .next t ∧
      latchOf i t = .none ∧ inputRecord i t = (if inputType i s = .abort then inputRecord i s
           else match (inputRecord i s).stage with
            | .latched => if (inputRecord i s).settled = .alarm then
                {
            settled := .unsettled,
            candidate := none,
            stage := (.verifying (if inputType i s = .detector ∧ s.cfg.verifyTime ≠ 0 then
              .timer s.cfg.verifyTime else .count 0)) }
              else { inputRecord i s with stage := .ready }
            | .verifying (.timer _) => { inputRecord i s with stage := .verifying (.timer s.cfg.verifyTime) }
            | .verifying (.count _) => { inputRecord i s with stage := .verifying (.count 0) }
            | .ready => inputRecord i s
            | .withheld => inputRecord i s) ∧
      (∀ j : InputNo, j ≠ i → latchOf j t = latchOf j s ∧ inputRecord j t = inputRecord j s) ∧
      t = { s with
            fire := { s.fire with latches := t.fire.latches },
            sup := { s.sup with inputs := t.sup.inputs } }) ∧
    (∀ (s : State) (i : InputNo), s.phase = .running → latchTimer (latchOf i s) = none →
      exec (.testLatchClearExpiry i) s = .next (s))

/-- With isolation off, ISOLATE_ON sets isolation and RELEASE_ISOLATED and leaves the station unarmed.
PRE_DISCHARGE and HELD become CONFIRMED with no countdown and the manual flag clear; in DISCHARGED RELEASE turns
off; from NORMAL and ALERT the evaluation of an unarmed station follows; STABILIZING, CONFIRMED, DISCHARGED and
TEST are kept. Latches, own aborts and inputs stay. With isolation already on nothing changes but the reception of
the frame (log 34). With isolation on, ISOLATE_OFF clears isolation and RELEASE_ISOLATED. In CONFIRMED with release
enabled: a latched own MANUAL_RELEASE acts by the manual rule, PRE_DISCHARGE at the manual delay, and for a manual
delay of 0 DISCHARGED with the release pulse started; otherwise a confirmed space gives HELD while abort is active,
else PRE_DISCHARGE at the lowest countdown of the space's peers or at the pre-discharge delay; with neither it
stays as it is. CONFIRMED with release not enabled stays, with its countdown, manual flag and RELEASE. From NORMAL
and ALERT the same evaluation moves a confirmed space on, to CONFIRMED where release is not enabled, and NORMAL to
ALERT in an alerted one. STABILIZING and TEST stay as they are. DISCHARGED is not released again: it stays, with
RELEASE as it was. With isolation already off nothing changes but the reception of the frame (log 34). In each case
the custody list follows the fire state: entry into PRE_DISCHARGE, HELD or DISCHARGED suspends OFFERED entries and
refuses EXPECTED ones with FIRE, several replies in the order of the list (the model's choice, log 45), every other
move leaves it (R140, R143). (R23, R24, R34, R35, R187, R27, R28, R140, R143) -/
def Obligations.IsolationDisarmsAndItsEndArmsAgain : Prop :=
    (∀ (s : State) (f : Frame), AcceptedCommand 5 f s → s.fire.isolated = false → CountdownPlaced s →
      ∃ t, exec (.isolateOn f) s = .next t ∧
      t.fire.isolated = true ∧ troubleActive .releaseIsolated t = true ∧ armed t = false ∧
      t.fire.countdown = none ∧
      t.fire.state =
        (if s.fire.state = .preDischarge ∨ s.fire.state = .held then .confirmed
         else if s.fire.state = .normal then evaluatedFromNormal t
         else if s.fire.state = .alert ∧ confirmationCondition t = true then .confirmed
         else s.fire.state) ∧
      (s.fire.state = .preDischarge ∨ s.fire.state = .held → t.fire.manual = false) ∧
      t.fire.releasePulse = (if s.fire.state = .discharged then none else s.fire.releasePulse) ∧
      t.fire.latches = s.fire.latches ∧ t.fire.ownAbort = s.fire.ownAbort ∧ t.sup = s.sup ∧ t.reader = s.reader ∧
      t.consignments = s.consignments ∧ t.cfg = s.cfg ∧
      (∀ x ∈ allTroubles, x ≠ .releaseIsolated → troubleActive x t = troubleActive x s) ∧
      t.custody = custodyMoved s.fire.state t.fire.state s.custody) ∧
    (∀ (s : State) (f : Frame), AcceptedCommand 5 f s → s.fire.isolated = true →
      exec (.isolateOn f) s = .next (heard f s)) ∧
    (∀ (s : State) (f : Frame), AcceptedCommand 6 f s → s.fire.isolated = true →
      ∃ t, exec (.isolateOff f) s = .next t ∧
      t.fire.isolated = false ∧ troubleActive .releaseIsolated t = false ∧ armed t = s.cfg.releaseEnabled ∧
      (s.fire.state = .confirmed → s.cfg.releaseEnabled = true →
        if manualLatched s = true then
          t.fire.manual = true ∧
          (if s.cfg.manualDelay = 0 then t.fire.state = .discharged ∧ t.fire.releasePulse = some s.cfg.releasePulse
           else t.fire.state = .preDischarge ∧ t.fire.countdown = some s.cfg.manualDelay ∧
             t.fire.releasePulse = s.fire.releasePulse)
        else if confirmationCondition s = true then
          t.fire.manual = false ∧ t.fire.releasePulse = s.fire.releasePulse ∧
          (if abortActive s = true then t.fire.state = .held ∧ t.fire.countdown = none
           else t.fire.state = .preDischarge ∧
             t.fire.countdown = some ((lowestCountdown s).getD s.cfg.preDischargeDelay))
        else t.fire.state = .confirmed ∧ t.fire.manual = s.fire.manual ∧ t.fire.countdown = s.fire.countdown ∧
          t.fire.releasePulse = s.fire.releasePulse) ∧
      (s.fire.state = .confirmed → s.cfg.releaseEnabled = false → t.fire.state = .confirmed ∧
        t.fire.manual = s.fire.manual ∧ t.fire.countdown = s.fire.countdown ∧
        t.fire.releasePulse = s.fire.releasePulse) ∧
      (s.fire.state = .normal → t.fire.state = evaluatedFromNormal t) ∧
      (s.fire.state = .alert → t.fire.state = if confirmationCondition t = true then evaluatedFromNormal t else
        .alert) ∧
      (s.fire.state = .normal ∨ s.fire.state = .alert →
        (t.fire.state = .preDischarge → t.fire.manual = false ∧
          t.fire.countdown = some ((lowestCountdown s).getD s.cfg.preDischargeDelay)) ∧
        (t.fire.state = .confirmed ∨ t.fire.state = .held → t.fire.manual = false) ∧
        (t.fire.state = s.fire.state → t.fire.manual = s.fire.manual ∧ t.fire.countdown = s.fire.countdown) ∧
        t.fire.releasePulse = s.fire.releasePulse) ∧
      (s.fire.state = .stabilizing ∨ s.fire.state = .test → t.fire.state = s.fire.state ∧ t.fire.manual =
        s.fire.manual ∧
        t.fire.countdown = s.fire.countdown ∧ t.fire.releasePulse = s.fire.releasePulse) ∧
      (s.fire.state = .discharged → t.fire.state = .discharged ∧ t.fire.releasePulse = s.fire.releasePulse) ∧
      t.fire.latches = s.fire.latches ∧ t.fire.ownAbort = s.fire.ownAbort ∧ t.sup = s.sup ∧ t.reader = s.reader ∧
      t.consignments = s.consignments ∧ t.cfg = s.cfg ∧
      t.custody = custodyMoved s.fire.state t.fire.state s.custody) ∧
    (∀ (s : State) (f : Frame), AcceptedCommand 6 f s → s.fire.isolated = false →
      exec (.isolateOff f) s = .next (heard f s))

/-- An accepted STATE marks its source's entry heard, fresh, of age 0, not awaiting, and writes role, fire fields,
dehumidifier fields, excess and custody count from the payload. An accepted ALARM writes the fire fields only and
keeps the STATE fields; it makes the entry fresh with age 0, but one that awaits a STATE stays stale with age 3. No
other entry changes, and the station's own number, configuration, reader and consignments stand. (R168, R170, R191,
13_frame_and_record_formats.md) -/
def Obligations.StateAndAlarmFramesWriteThePeerTable : Prop :=
    (∀ (s : State) (f : Frame), Accepted kindState f s → FixedSizes s →
      ∃ t, exec (.stateFrame f) s = .next t ∧
      peerOf f.src.toNat t =
        {
            heard := true,
            fresh := true,
            age := 0,
            awaiting := false,
            fire := (some {
                group := (byteAt f.payload 1).toNat,
                fire := (byteAt f.payload 2).toNat,
                alarms := (byteAt f.payload 3).toNat,
                countdown := (byteAt f.payload 4).toNat,
                abort := (byteAt f.payload 5).getLsbD 0,
                manual := (byteAt f.payload 5).getLsbD 1 }),
            state := (some {
                role := (byteAt f.payload 0).toNat,
                running := (byteAt f.payload 5).getLsbD 2,
                requesting := (byteAt f.payload 5).getLsbD 3,
                excess := ((byteAt f.payload 15).toNat * 256 + (byteAt f.payload 16).toNat),
                custody := (byteAt f.payload 17).toNat }) } ∧
      (∀ n ∈ List.range 31, 1 ≤ n → n ≠ f.src.toNat → peerOf n t = peerOf n s) ∧
      t.own = s.own ∧ t.role = s.role ∧ t.cfg = s.cfg ∧ t.uptime = s.uptime ∧ t.reader = s.reader ∧
      t.consignments = s.consignments) ∧
    (∀ (s : State) (f : Frame), Accepted kindAlarm f s → FixedSizes s →
      ∃ t, exec (.alarmFrame f) s = .next t ∧
      peerOf f.src.toNat t =
        {
            heard := true,
            fresh := !(peerOf f.src.toNat s).awaiting,
            age := if (peerOf f.src.toNat s).awaiting then 3 else 0,
            awaiting := (peerOf f.src.toNat s).awaiting,
            state := (peerOf f.src.toNat s).state,
            fire := (some {
                group := (byteAt f.payload 4).toNat,
                fire := (byteAt f.payload 0).toNat,
                alarms := (byteAt f.payload 1).toNat,
                countdown := (byteAt f.payload 2).toNat,
                abort := (byteAt f.payload 3).getLsbD 0,
                manual := (byteAt f.payload 3).getLsbD 1 }) } ∧
      (∀ n ∈ List.range 31, 1 ≤ n → n ≠ f.src.toNat → peerOf n t = peerOf n s) ∧
      t.own = s.own ∧ t.role = s.role ∧ t.cfg = s.cfg ∧ t.uptime = s.uptime ∧ t.reader = s.reader ∧
      t.consignments = s.consignments)

/-- When an accepted STATE, or an ALARM from a peer that awaits no STATE, shows PRE_DISCHARGE in the own space
group while the station is in PRE_DISCHARGE with a remaining: unless abort is then active and the manual flag
clear, which gives HELD, the remaining becomes the lower of itself and the peer's countdown, a 0 taken as 1.
Adoption changes no manual flag, latch, own abort or release pulse and queues no ALARM. When an accepted STATE, or
an ALARM from a peer that awaits no STATE, shows DISCHARGED in the own space group: if the entry held another fire
state or none and the station is in ALERT, CONFIRMED, PRE_DISCHARGE or HELD, it enters DISCHARGED, the countdown
goes, the manual flag stays, and an armed station starts its release pulse. In every other case the station does
not enter DISCHARGED by it (but for an armed station in CONFIRMED that the manual rule with a delay of 0
discharges); from NORMAL, and from TEST which ends, the evaluation gives the state. After every such frame, of any
space group, that is no DISCHARGED edge to a raised station and does not find TEST, the evaluation runs on the peer
table with the frame in it: from NORMAL and ALERT a confirmed space gives CONFIRMED unarmed, HELD under abort, else
PRE_DISCHARGE at the lowest countdown of the space's peers or at the pre-discharge delay, and an alerted one takes
NORMAL to ALERT; an armed station in CONFIRMED acts by a latched MANUAL_RELEASE or else by a confirmed space;
PRE_DISCHARGE gives HELD under abort with the manual flag clear (adoption before it: log 7); HELD without abort
gives PRE_DISCHARGE at the abort restart value; STABILIZING and DISCHARGED stay. In TEST, such a frame that shows
PRE_DISCHARGE or DISCHARGED in the own space group ends it: timer, test pulse and TEST latches go, each input that
held one is given the re-verification notice (R11), and the evaluation runs from NORMAL; any other STATE or ALARM
leaves the fire record and the inputs. (R22, R30, R31, R28, R33, R34, R40, R24, R26, R27, R32, R11) -/
def Obligations.SameSpacePeersLowerOrDischarge : Prop :=
    (∀ (s : State) (f : Frame) (r : Nat), Accepted kindState f s → FixedSizes s → (byteAt f.payload 1).toNat =
      s.cfg.spaceGroup → (byteAt f.payload 2).toNat = 4 → s.fire.state = .preDischarge → s.fire.countdown = some r →
      ∃ t, exec (.stateFrame f) s = .next t ∧
      (if abortActive t = true ∧ s.fire.manual = false then t.fire.state = .held ∧ t.fire.countdown = none
       else t.fire.state = .preDischarge ∧
         t.fire.countdown = some (min r (max 1 (byteAt f.payload 4).toNat))) ∧
      t.fire.manual = s.fire.manual ∧ t.fire.latches = s.fire.latches ∧ t.fire.ownAbort = s.fire.ownAbort ∧
      t.fire.releasePulse = s.fire.releasePulse ∧
      (t.fire.state = .preDischarge → t.line.alarmQueued = s.line.alarmQueued)) ∧
    (∀ (s : State) (f : Frame) (r : Nat), Accepted kindAlarm f s → FixedSizes s → (peerOf f.src.toNat s).awaiting =
      false → (byteAt f.payload 4).toNat = s.cfg.spaceGroup → (byteAt f.payload 0).toNat = 4 → s.fire.state =
        .preDischarge → s.fire.countdown = some r →
      ∃ t, exec (.alarmFrame f) s = .next t ∧
      (if abortActive t = true ∧ s.fire.manual = false then t.fire.state = .held ∧ t.fire.countdown = none
       else t.fire.state = .preDischarge ∧
         t.fire.countdown = some (min r (max 1 (byteAt f.payload 2).toNat))) ∧
      t.fire.manual = s.fire.manual ∧ t.fire.latches = s.fire.latches ∧ t.fire.ownAbort = s.fire.ownAbort ∧
      t.fire.releasePulse = s.fire.releasePulse ∧
      (t.fire.state = .preDischarge → t.line.alarmQueued = s.line.alarmQueued)) ∧
    (∀ (s : State) (f : Frame), Accepted kindState f s → FixedSizes s → (byteAt f.payload 1).toNat =
      s.cfg.spaceGroup → (byteAt f.payload 2).toNat = 6 →
      ∃ t, exec (.stateFrame f) s = .next t ∧
      (if (peerOf f.src.toNat s).fire.map (fun p => p.fire) ≠ some 6 ∧
          (s.fire.state = .alert ∨ s.fire.state = .confirmed ∨ s.fire.state = .preDischarge ∨ s.fire.state =
            .held) then
        t.fire.state = .discharged ∧ t.fire.countdown = none ∧ t.fire.manual = s.fire.manual ∧
        t.fire.releasePulse = (if armed s then some s.cfg.releasePulse else s.fire.releasePulse)
       else t.fire.state = .discharged → s.fire.state = .discharged ∨
         (s.fire.state = .confirmed ∧ armed s = true ∧ manualLatched s = true ∧ s.cfg.manualDelay = 0)) ∧
      (s.fire.state = .normal ∨ s.fire.state = .test → t.fire.state = evaluatedFromNormal t)) ∧
    (∀ (s : State) (f : Frame), Accepted kindAlarm f s → FixedSizes s → (peerOf f.src.toNat s).awaiting = false →
      (byteAt f.payload 4).toNat = s.cfg.spaceGroup → (byteAt f.payload 0).toNat = 6 →
      ∃ t, exec (.alarmFrame f) s = .next t ∧
      (if (peerOf f.src.toNat s).fire.map (fun p => p.fire) ≠ some 6 ∧
          (s.fire.state = .alert ∨ s.fire.state = .confirmed ∨ s.fire.state = .preDischarge ∨ s.fire.state =
            .held) then
        t.fire.state = .discharged ∧ t.fire.countdown = none ∧ t.fire.manual = s.fire.manual ∧
        t.fire.releasePulse = (if armed s then some s.cfg.releasePulse else s.fire.releasePulse)
       else t.fire.state = .discharged → s.fire.state = .discharged ∨
         (s.fire.state = .confirmed ∧ armed s = true ∧ manualLatched s = true ∧ s.cfg.manualDelay = 0)) ∧
      (s.fire.state = .normal ∨ s.fire.state = .test → t.fire.state = evaluatedFromNormal t)) ∧
    (∀ (s : State) (f : Frame), Accepted kindState f s → FixedSizes s → s.fire.state ≠ .test →
      (¬ ((byteAt f.payload 1).toNat = s.cfg.spaceGroup ∧ (byteAt f.payload 2).toNat = 6 ∧
        (peerOf f.src.toNat s).fire.map (fun p => p.fire) ≠ some 6 ∧
        (s.fire.state = .alert ∨ s.fire.state = .confirmed ∨ s.fire.state = .preDischarge ∨ s.fire.state = .held))) →
      ∃ t, exec (.stateFrame f) s = .next t ∧
      (s.fire.state = .normal → t.fire.state = evaluatedFromNormal t) ∧
      (s.fire.state = .alert → t.fire.state = if confirmationCondition t = true then evaluatedFromNormal t else
        .alert) ∧
      (s.fire.state = .normal ∨ s.fire.state = .alert →
        (t.fire.state = .preDischarge → t.fire.manual = false ∧ t.fire.countdown =
          some ((lowestCountdown t).getD s.cfg.preDischargeDelay)) ∧
        (t.fire.state = .confirmed ∨ t.fire.state = .held → t.fire.manual = false) ∧
        (t.fire.state = .normal ∨ t.fire.state = .alert → t.fire.manual = s.fire.manual) ∧
        (t.fire.state ≠ .preDischarge → t.fire.countdown = if t.fire.state = s.fire.state then s.fire.countdown else
          none) ∧
        t.fire.releasePulse = s.fire.releasePulse) ∧
      (s.fire.state = .confirmed →
        if armed s = true ∧ manualLatched s = true then
          t.fire.manual = true ∧
          (if s.cfg.manualDelay = 0 then t.fire.state = .discharged ∧ t.fire.releasePulse = some s.cfg.releasePulse
           else t.fire.state = .preDischarge ∧ t.fire.countdown = some s.cfg.manualDelay ∧
             t.fire.releasePulse = s.fire.releasePulse)
        else if armed s = true ∧ confirmationCondition t = true then
          t.fire.manual = false ∧ t.fire.releasePulse = s.fire.releasePulse ∧
          (if abortActive t = true then t.fire.state = .held ∧ t.fire.countdown = none
           else t.fire.state = .preDischarge ∧ t.fire.countdown =
             some ((lowestCountdown t).getD s.cfg.preDischargeDelay))
        else t.fire.state = .confirmed ∧ t.fire.manual = s.fire.manual ∧ t.fire.countdown = s.fire.countdown ∧
          t.fire.releasePulse = s.fire.releasePulse) ∧
      (s.fire.state = .preDischarge → t.fire.manual = s.fire.manual ∧ t.fire.releasePulse = s.fire.releasePulse ∧
        (if abortActive t = true ∧ s.fire.manual = false then t.fire.state = .held ∧ t.fire.countdown = none
         else t.fire.state = .preDischarge ∧ t.fire.countdown =
           if (byteAt f.payload 1).toNat = s.cfg.spaceGroup ∧ (byteAt f.payload 2).toNat = 4 then
             s.fire.countdown.map (fun r => min r (max 1 (byteAt f.payload 4).toNat))
           else s.fire.countdown)) ∧
      (s.fire.state = .held → t.fire.releasePulse = s.fire.releasePulse ∧
        (if abortActive t = true then t.fire.state = .held ∧ t.fire.manual = s.fire.manual ∧ t.fire.countdown =
          s.fire.countdown
         else t.fire.state = .preDischarge ∧ t.fire.manual = false ∧ t.fire.countdown = some s.cfg.abortRestart)) ∧
      (s.fire.state = .stabilizing ∨ s.fire.state = .discharged → t.fire.state = s.fire.state ∧ t.fire.manual =
        s.fire.manual ∧ t.fire.countdown = s.fire.countdown ∧ t.fire.releasePulse = s.fire.releasePulse) ∧
      t.fire.latches = s.fire.latches ∧ t.fire.ownAbort = s.fire.ownAbort) ∧
    (∀ (s : State) (f : Frame), Accepted kindAlarm f s → FixedSizes s → (peerOf f.src.toNat s).awaiting = false →
      s.fire.state ≠ .test → (¬ ((byteAt f.payload 4).toNat = s.cfg.spaceGroup ∧ (byteAt f.payload 0).toNat = 6 ∧
        (peerOf f.src.toNat s).fire.map (fun p => p.fire) ≠ some 6 ∧
        (s.fire.state = .alert ∨ s.fire.state = .confirmed ∨ s.fire.state = .preDischarge ∨ s.fire.state = .held))) →
      ∃ t, exec (.alarmFrame f) s = .next t ∧
      (s.fire.state = .normal → t.fire.state = evaluatedFromNormal t) ∧
      (s.fire.state = .alert → t.fire.state = if confirmationCondition t = true then evaluatedFromNormal t else
        .alert) ∧
      (s.fire.state = .normal ∨ s.fire.state = .alert →
        (t.fire.state = .preDischarge → t.fire.manual = false ∧ t.fire.countdown =
          some ((lowestCountdown t).getD s.cfg.preDischargeDelay)) ∧
        (t.fire.state = .confirmed ∨ t.fire.state = .held → t.fire.manual = false) ∧
        (t.fire.state = .normal ∨ t.fire.state = .alert → t.fire.manual = s.fire.manual) ∧
        (t.fire.state ≠ .preDischarge → t.fire.countdown = if t.fire.state = s.fire.state then s.fire.countdown else
          none) ∧
        t.fire.releasePulse = s.fire.releasePulse) ∧
      (s.fire.state = .confirmed →
        if armed s = true ∧ manualLatched s = true then
          t.fire.manual = true ∧
          (if s.cfg.manualDelay = 0 then t.fire.state = .discharged ∧ t.fire.releasePulse = some s.cfg.releasePulse
           else t.fire.state = .preDischarge ∧ t.fire.countdown = some s.cfg.manualDelay ∧
             t.fire.releasePulse = s.fire.releasePulse)
        else if armed s = true ∧ confirmationCondition t = true then
          t.fire.manual = false ∧ t.fire.releasePulse = s.fire.releasePulse ∧
          (if abortActive t = true then t.fire.state = .held ∧ t.fire.countdown = none
           else t.fire.state = .preDischarge ∧ t.fire.countdown =
             some ((lowestCountdown t).getD s.cfg.preDischargeDelay))
        else t.fire.state = .confirmed ∧ t.fire.manual = s.fire.manual ∧ t.fire.countdown = s.fire.countdown ∧
          t.fire.releasePulse = s.fire.releasePulse) ∧
      (s.fire.state = .preDischarge → t.fire.manual = s.fire.manual ∧ t.fire.releasePulse = s.fire.releasePulse ∧
        (if abortActive t = true ∧ s.fire.manual = false then t.fire.state = .held ∧ t.fire.countdown = none
         else t.fire.state = .preDischarge ∧ t.fire.countdown =
           if (byteAt f.payload 4).toNat = s.cfg.spaceGroup ∧ (byteAt f.payload 0).toNat = 4 then
             s.fire.countdown.map (fun r => min r (max 1 (byteAt f.payload 2).toNat))
           else s.fire.countdown)) ∧
      (s.fire.state = .held → t.fire.releasePulse = s.fire.releasePulse ∧
        (if abortActive t = true then t.fire.state = .held ∧ t.fire.manual = s.fire.manual ∧ t.fire.countdown =
          s.fire.countdown
         else t.fire.state = .preDischarge ∧ t.fire.manual = false ∧ t.fire.countdown = some s.cfg.abortRestart)) ∧
      (s.fire.state = .stabilizing ∨ s.fire.state = .discharged → t.fire.state = s.fire.state ∧ t.fire.manual =
        s.fire.manual ∧ t.fire.countdown = s.fire.countdown ∧ t.fire.releasePulse = s.fire.releasePulse) ∧
      t.fire.latches = s.fire.latches ∧ t.fire.ownAbort = s.fire.ownAbort) ∧
    (∀ (s : State) (f : Frame), Accepted kindState f s → FixedSizes s → s.fire.state = .test →
      ∃ t, exec (.stateFrame f) s = .next t ∧
      (if (byteAt f.payload 1).toNat = s.cfg.spaceGroup ∧
        ((byteAt f.payload 2).toNat = 4 ∨ (byteAt f.payload 2).toNat = 6) then
        t.fire.testTimer = none ∧ t.fire.testPulse = none ∧ t.fire.state = evaluatedFromNormal t ∧
        (t.fire.state = .preDischarge → t.fire.manual = false ∧
          t.fire.countdown = some ((lowestCountdown t).getD s.cfg.preDischargeDelay)) ∧
        (∀ i : InputNo, latchOf i t = (if (latchTimer (latchOf i s)).isSome then .none else latchOf i s) ∧
          inputRecord i t = (if (latchTimer (latchOf i s)).isSome then (if inputType i s = .abort then inputRecord i s
           else match (inputRecord i s).stage with
            | .latched => if (inputRecord i s).settled = .alarm then
                {
            settled := .unsettled,
            candidate := none,
            stage := (.verifying (if inputType i s = .detector ∧ s.cfg.verifyTime ≠ 0 then
              .timer s.cfg.verifyTime else .count 0)) }
              else { inputRecord i s with stage := .ready }
            | .verifying (.timer _) => { inputRecord i s with stage := .verifying (.timer s.cfg.verifyTime) }
            | .verifying (.count _) => { inputRecord i s with stage := .verifying (.count 0) }
            | .ready => inputRecord i s
            | .withheld => inputRecord i s) else inputRecord i s)) ∧
        t.fire.ownAbort = s.fire.ownAbort ∧ t.fire.isolated = s.fire.isolated ∧ t.fire.releasePulse =
          s.fire.releasePulse
       else t.fire = s.fire ∧ t.sup = s.sup)) ∧
    (∀ (s : State) (f : Frame), Accepted kindAlarm f s → FixedSizes s → s.fire.state = .test →
      ∃ t, exec (.alarmFrame f) s = .next t ∧
      (if (peerOf f.src.toNat s).awaiting = false ∧ (byteAt f.payload 4).toNat = s.cfg.spaceGroup ∧
        ((byteAt f.payload 0).toNat = 4 ∨ (byteAt f.payload 0).toNat = 6) then
        t.fire.testTimer = none ∧ t.fire.testPulse = none ∧ t.fire.state = evaluatedFromNormal t ∧
        (t.fire.state = .preDischarge → t.fire.manual = false ∧
          t.fire.countdown = some ((lowestCountdown t).getD s.cfg.preDischargeDelay)) ∧
        (∀ i : InputNo, latchOf i t = (if (latchTimer (latchOf i s)).isSome then .none else latchOf i s) ∧
          inputRecord i t = (if (latchTimer (latchOf i s)).isSome then (if inputType i s = .abort then inputRecord i s
           else match (inputRecord i s).stage with
            | .latched => if (inputRecord i s).settled = .alarm then
                {
            settled := .unsettled,
            candidate := none,
            stage := (.verifying (if inputType i s = .detector ∧ s.cfg.verifyTime ≠ 0 then
              .timer s.cfg.verifyTime else .count 0)) }
              else { inputRecord i s with stage := .ready }
            | .verifying (.timer _) => { inputRecord i s with stage := .verifying (.timer s.cfg.verifyTime) }
            | .verifying (.count _) => { inputRecord i s with stage := .verifying (.count 0) }
            | .ready => inputRecord i s
            | .withheld => inputRecord i s) else inputRecord i s)) ∧
        t.fire.ownAbort = s.fire.ownAbort ∧ t.fire.isolated = s.fire.isolated ∧ t.fire.releasePulse =
          s.fire.releasePulse
       else t.fire = s.fire ∧ t.sup = s.sup))

/-- With its timer, the hold timer's expiry makes the climate state LOST with no bay values, an excess of 0 and no
timers, sets CLIMATE_LOST, forces the allotter off where it was not: its request clears, and a RUNNING dehumidifier
stops at once, its minimum-run timer removed, its minimum-off timer started (none for 0 s), a STATE queued; in OFF
its timers run on. It pauses the hold countdown; the excursion state, the history and the episode stay. With its
timer, the excursion delay's expiry makes the excursion state EXCURSION, queues EXCURSION_START with the bay values
and pauses the countdown. Without its timer neither changes anything. (R51, R52, R53, R57, R58, R68, R160, R74) -/
def Obligations.ClimateTimersEnterLostAndExcursion : Prop :=
    (∀ (s : State), s.phase = .running → s.climate.holdTimer.isSome = true →
      ∃ t, exec (.climateHoldTimerExpiry) s = .next t ∧
      t.climate = { s.climate with
            state := .lost,
            bay := none,
            holdTimer := none,
            excursionTimer := none } ∧
      excess t = 0 ∧ troubleActive .climateLost t = true ∧ t.allot.forced = true ∧ t.hold.paused = true ∧
      t.allot = (if s.allot.forced = true then s.allot else forcedOff s) ∧
      t.line.stateQueued = (s.line.stateQueued || (s.allot.running && !s.allot.forced)) ∧
      (∀ x ∈ allTroubles, x ≠ .climateLost → troubleActive x t = troubleActive x s) ∧
      t = { s with
            climate := t.climate,
            allot := t.allot,
            hold := { s.hold with paused := true },
            line := t.line,
            out := { s.out with active := t.out.active, reported := t.out.reported } } ∧
      OnlyReports { s.line with stateQueued := t.line.stateQueued } t.line) ∧
    (∀ (s : State), s.phase = .running → s.climate.holdTimer = none →
      exec (.climateHoldTimerExpiry) s = .next (s)) ∧
    (∀ (s : State), s.phase = .running → s.climate.excursionTimer.isSome = true →
      exec (.excursionDelayExpiry) s = .next (queueReport
          {
            kind := .excursionStart,
            value1 := ((s.climate.bay.map fun b => (b.rh : Int)).getD 0),
            value2 := ((s.climate.bay.map fun b => b.t).getD 0) }
          { s with
            climate := { s.climate with excursion := .excursion, excursionTimer := none },
            hold := { s.hold with paused := true } })) ∧
    (∀ (s : State), s.phase = .running → s.climate.excursionTimer = none →
      exec (.excursionDelayExpiry) s = .next (s))

/-- With its timer, the minimum-run expiry removes it; a RUNNING dehumidifier whose request is clear stops: OFF,
the minimum-off timer at the minimum off time (none for 0 s), a STATE queued. With its timer, the minimum-off
expiry removes it, and a station in OFF that is not forced and requests starts exactly when running count plus rank
is below the cap: RUNNING, the minimum-run timer at the minimum run time (none for 0 s), a STATE queued. Nothing
else changes, and without its timer neither changes anything. (R71, R72, R73, R74, R75, R76) -/
def Obligations.DehumidifierTimersStopAndGrant : Prop :=
    (∀ (s : State), s.phase = .running → s.allot.minRun.isSome = true →
      exec (.minRunTimerExpiry) s = .next (if s.allot.running = true ∧ s.allot.request = false then
          { s with
            allot := { s.allot with
                running := false,
                minRun := none,
                minOff := if s.cfg.minOffTime = 0 then none else some s.cfg.minOffTime },
            line := { s.line with stateQueued := true } }
        else { s with allot := { s.allot with minRun := none } })) ∧
    (∀ (s : State), s.phase = .running → s.allot.minRun = none →
      exec (.minRunTimerExpiry) s = .next (s)) ∧
    (∀ (s : State), s.phase = .running → s.allot.minOff.isSome = true →
      exec (.minOffTimerExpiry) s = .next (if s.allot.running = false ∧ s.allot.forced = false ∧ s.allot.request =
        true ∧
            runningCount s + rank s < s.cfg.cap then
          { s with
            allot := { s.allot with
                running := true,
                minOff := none,
                minRun := if s.cfg.minRunTime = 0 then none else some s.cfg.minRunTime },
            line := { s.line with stateQueued := true } }
        else { s with allot := { s.allot with minOff := none } })) ∧
    (∀ (s : State), s.phase = .running → s.allot.minOff = none →
      exec (.minOffTimerExpiry) s = .next (s))

/-- Settled in fail, at a running station or during a RESTART (log 32): MAINS_FAIL is set, a clearing is cancelled,
and the allotter is forced, where it was not: its request clears, and a RUNNING dehumidifier stops at once, its
minimum-run timer removed, its minimum-off timer started (none for 0 s), a STATE queued; in OFF its timers run on.
Settled in normal after fail or for the first time: the clearing delay starts at 5 s where MAINS_FAIL is set, else
none runs, and nothing else changes; settled in normal again: nothing changes (log 31; a contact that settles in
fail again is taken again). MAINS_CLEAR_DELAY_EXPIRY with the delay running clears MAINS_FAIL and looks at the
forced-off conditions again: where another holds, or none forced it, the allotter stays as it is; where the last
one ends, the request is set exactly at the RH target plus the band up or above, and a requesting dehumidifier
without a minimum-off timer starts exactly when running count plus rank is below the cap, with a STATE; without it
nothing changes. The settled contact is stored. When it was closed, settles in open, the lock is engaged and the
fire state is NORMAL, REPORT DOOR_FORCED is queued and the door-forced timer starts at 60 s. In every other case,
the first settled value included, nothing else changes. (R68, R69, R189, R129, R70, R71, R72, R74) -/
def Obligations.ContactsSetMainsFailAndDoorForced : Prop :=
    (∀ (s : State), (s.phase = .running ∨ s.phase = .restarting) →
      ∃ t, exec (.mainsContactSettled true) s = .next t ∧
      troubleActive .mainsFail t = true ∧ t.out.mainsFail = some true ∧ t.out.mainsClear = none ∧
      t.allot.forced = true ∧
      t.allot = (if s.allot.forced = true then s.allot else forcedOff s) ∧
      t.line.stateQueued = (s.line.stateQueued || (s.allot.running && !s.allot.forced)) ∧
      (∀ x ∈ allTroubles, x ≠ .mainsFail → troubleActive x t = troubleActive x s) ∧
      t = { s with
            allot := t.allot,
            line := t.line,
            out := { s.out with
                active := t.out.active,
                reported := t.out.reported,
                mainsFail := t.out.mainsFail,
                mainsClear := t.out.mainsClear } } ∧
      OnlyReports { s.line with stateQueued := t.line.stateQueued } t.line) ∧
    (∀ (s : State), (s.phase = .running ∨ s.phase = .restarting) → s.out.mainsFail ≠ some false →
      exec (.mainsContactSettled false) s = .next ({ s with
            out := { s.out with
                mainsFail := some false,
                mainsClear := if troubleActive .mainsFail s then some 5 else none } })) ∧
    (∀ (s : State), (s.phase = .running ∨ s.phase = .restarting) → s.out.mainsFail = some false →
      exec (.mainsContactSettled false) s = .next (s)) ∧
    (∀ (s : State), (s.phase = .running ∨ s.phase = .restarting) → s.out.mainsClear.isSome = true → DryingGuarded s →
      ∃ t, exec (.mainsClearDelayExpiry) s = .next t ∧
      troubleActive .mainsFail t = false ∧ t.out.mainsClear = none ∧ t.allot.forced = forcedCondition t ∧
      (t.allot.forced = s.allot.forced → t.allot = s.allot) ∧
      (t.allot.forced ≠ s.allot.forced → ∀ b ∈ s.climate.bay,
        t.allot.request = decide (s.cfg.rhTarget + s.cfg.bandUp ≤ b.rh) ∧
        t.allot =
          (if t.allot.request = true ∧ s.allot.minOff = none ∧ runningCount s + rank t < s.cfg.cap then
            {
            running := true,
            minOff := none,
            minRun := if s.cfg.minRunTime = 0 then none else some s.cfg.minRunTime,
            request := true,
            forced := false }
           else { s.allot with request := t.allot.request, forced := false })) ∧
      t.line.stateQueued = (s.line.stateQueued || t.allot.running != s.allot.running) ∧
      (∀ x ∈ allTroubles, x ≠ .mainsFail → troubleActive x t = troubleActive x s) ∧
      t = { s with
            allot := t.allot,
            line := t.line,
            out := { s.out with
                active := t.out.active,
                reported := t.out.reported,
                mainsFail := t.out.mainsFail,
                mainsClear := t.out.mainsClear } } ∧
      OnlyReports { s.line with stateQueued := t.line.stateQueued } t.line) ∧
    (∀ (s : State), (s.phase = .running ∨ s.phase = .restarting) → s.out.mainsClear = none →
      exec (.mainsClearDelayExpiry) s = .next (s)) ∧
    (∀ (s : State) (o : Bool), s.phase = .running →
      exec (.doorContactSettled o) s = .next (if s.out.doorOpen = some false ∧ o = true ∧ doorReleased s = false ∧
        s.fire.state = .normal then
          queueReport { kind := .doorForced }
            { s with
            out := { s.out with doorOpen := some true, doorForced := some 60 } }
        else { s with out := { s.out with doorOpen := some o } }))

/-- With no inventory in progress, at a drive line beyond the slot count, the step moves the scan to the next drive
line, from 8 to 1, and changes nothing else. With no inventory, at a used drive line of a table whose numbers are
distinct: if no slot of that line both differs from its sample and carries a candidate already, each slot of the
line has its candidate set exactly when its sample differs from its settled presence, all other slots stay, and the
scan moves to the next drive line. In the first pass of an inventory, and at drive lines 1 to 7 of its second, the
step stores the samples of a used line in the places of its 16 slots, every other sample stays, the scan moves to
the next drive line, from 8 of the first pass to 1 of the second, and nothing else changes. With an inventory in
its second pass at drive line 8: slots 113 to 128, of a table that uses all eight drive lines, take this step's
samples, every other slot its sample of the second pass; there is one record for each sample, numbered from 1 in
order, OCCUPIED and PRESENT for a closed contact, EMPTY and ABSENT for an open one, with no candidate, tag, number,
hold or window; INVENTORY_RESTART is queued with the slot count and the number of slots found PRESENT; the scan
begins again at drive line 1. (R80, R79, R81, R97) -/
def Obligations.ScanStepsWithoutAcceptedChangeAndInventory : Prop :=
    (∀ (s : State) (w : Sense), s.phase = .running → s.scanner.inventory = none → slotCount s < 16 * s.scanner.drive →

      exec (.slotScanStep w) s = .next ({ s with
            scanner := { s.scanner with
                drive := if s.scanner.drive < 8 then s.scanner.drive + 1 else 1 } })) ∧
    (∀ (s : State) (w : Sense), s.phase = .running → s.scanner.inventory = none → 1 ≤ s.scanner.drive →
      16 * s.scanner.drive ≤ slotCount s → (s.scanner.slots.map fun sl => sl.number).Nodup →
        (∀ sl ∈ s.scanner.slots, 16 * (s.scanner.drive - 1) < sl.number → sl.number ≤ 16 * s.scanner.drive →
        w.getLsbD (sl.number - 16 * (s.scanner.drive - 1) - 1) ≠ sl.present → sl.candidate = false) →
      exec (.slotScanStep w) s = .next ({ s with
            scanner := { s.scanner with
                drive := if s.scanner.drive < 8 then s.scanner.drive + 1 else 1,
                slots := (s.scanner.slots.map fun sl =>
              if 16 * (s.scanner.drive - 1) < sl.number ∧ sl.number ≤ 16 * s.scanner.drive then
                { sl with
                    candidate := (w.getLsbD (sl.number - 16 * (s.scanner.drive - 1) - 1) != sl.present) }
              else sl) } })) ∧
    (∀ (s : State) (w : Sense) (inv : Inventory), s.phase = .running → s.scanner.inventory = some inv → inv.pass = 2 →
      s.scanner.drive = 8 → (slotCount s < 128 ∨ inv.samples.length = 128) →
      ∃ t, exec (.slotScanStep w) s = .next t ∧
      t.scanner.inventory = none ∧ t.scanner.drive = 1 ∧ t.scanner.slots.length = inv.samples.length ∧
      (∀ k ∈ List.range inv.samples.length,
        t.scanner.slots[k]? = some
          {
            number := k + 1,
            state := (if (if slotCount s < 128 ∨ k < 112 then inv.samples.getD k false else w.getLsbD (k - 112)) =
              true then .occupied else .empty),
            present := (if slotCount s < 128 ∨ k < 112 then inv.samples.getD k false else w.getLsbD (k - 112)),
            candidate := false,
            tag := none,
            expected := none,
            consignment := none,
            hold := none,
            window := none }) ∧
      t = { s with
            scanner := t.scanner,
            line := (if reportsGoOut s then pushReport
                       {
                kind := .inventoryRestart,
                value1 := (inv.samples.length : Int),
                value2 := (((List.range inv.samples.length).filter fun k => (if slotCount s < 128 ∨ k < 112 then
                  inv.samples.getD k false else w.getLsbD (k - 112))).length : Int) } s.line
                     else s.line) }) ∧
    (∀ (s : State) (w : Sense) (inv : Inventory), s.phase = .running → s.scanner.inventory = some inv →
      inv.samples.length = slotCount s → 1 ≤ s.scanner.drive → s.scanner.drive ≤ 8 →
        (inv.pass = 1 ∨ (inv.pass = 2 ∧ s.scanner.drive < 8)) →
      ∃ t, exec (.slotScanStep w) s = .next t ∧
      t.scanner.drive = (if s.scanner.drive < 8 then s.scanner.drive + 1 else 1) ∧
      (∃ j ∈ t.scanner.inventory, j.pass = (if s.scanner.drive < 8 then inv.pass else 2) ∧
        j.samples.length = inv.samples.length ∧
        ∀ k ∈ List.range inv.samples.length, j.samples.getD k false =
          if 16 * s.scanner.drive ≤ slotCount s ∧ 16 * (s.scanner.drive - 1) ≤ k ∧ k < 16 * s.scanner.drive then
            w.getLsbD (k - 16 * (s.scanner.drive - 1))
          else inv.samples.getD k false) ∧
      t = { s with
            scanner := { s.scanner with
                drive := t.scanner.drive,
                inventory := t.scanner.inventory } })

/-- When one slot of the driven line, PRESENT with a candidate, is sampled open while every other slot of the line
is sampled as it is settled: the slot is ABSENT with no candidate, and from PULL_PENDING it is PULLED with its
window started; from OCCUPIED, HOLD or QUARANTINE it is EVACUATED under a raised fire state and else UNEXPECTED of
kind REMOVAL, its hold discarded, its tag kept, with REPORT EVACUATED or UNEXPECTED_REMOVAL queued; from UNEXPECTED
of kind PRESENCE its prior state returns with no report. No slot off the line and nothing but the scanner and the
report queue changes. (R81, R84, R85, R87) -/
def Obligations.AcceptedRemovalActsByTheSlotState : Prop :=
    ∀ (s : State) (w : Sense) (sl : Slot), s.phase = .running → s.scanner.inventory = none → 1 ≤ s.scanner.drive →
      16 * s.scanner.drive ≤ slotCount s → (s.scanner.slots.map fun sl => sl.number).Nodup → sl ∈ s.scanner.slots →
        16 * (s.scanner.drive - 1) < sl.number → sl.number ≤ 16 * s.scanner.drive → sl.candidate = true →
          (∀ o ∈ s.scanner.slots, o ≠ sl → 16 * (s.scanner.drive - 1) < o.number → o.number ≤ 16 * s.scanner.drive →
        w.getLsbD (o.number - 16 * (s.scanner.drive - 1) - 1) = o.present) → sl.present = true →
          w.getLsbD (sl.number - 16 * (s.scanner.drive - 1) - 1) = false →
            (sl.state = .pullPending ∨ sl.state = .occupied ∨ sl.state = .hold ∨ sl.state = .quarantine ∨ sl.state =
              .unexpectedPresence .empty ∨ sl.state = .unexpectedPresence .out ∨ sl.state =
                .unexpectedPresence .awaited) →
      ∃ t, exec (.slotScanStep w) s = .next t ∧
      findSlot sl.number t =
        some (if sl.state = .pullPending then
            { sl with
            present := false,
            candidate := false,
            state := .pulled,
            window := some s.cfg.pullWindow }
          else if sl.state = .unexpectedPresence .empty then
            { sl with present := false, candidate := false, state := .empty }
          else if sl.state = .unexpectedPresence .out then
            { sl with present := false, candidate := false, state := .out }
          else if sl.state = .unexpectedPresence .awaited then
            { sl with present := false, candidate := false, state := .awaited }
          else { sl with
            present := false,
            candidate := false,
            hold := none,
            state := (if s.fire.state.raised then .evacuated else .unexpectedRemoval) }) ∧
      t.line =
        (if (sl.state = .occupied ∨ sl.state = .hold ∨ sl.state = .quarantine) ∧ reportsGoOut s = true then
          pushReport
            (if s.fire.state.raised then { kind := .evacuated, number := sl.number, tag := sl.tag.getD 0 }
             else {
            kind := .unexpectedRemoval,
            number := sl.number,
            tag := sl.tag.getD 0,
            code := sl.state.code })
            s.line
         else s.line) ∧
      (∀ o ∈ s.scanner.slots, o ≠ sl → findSlot o.number t =
        some (if 16 * (s.scanner.drive - 1) < o.number ∧ o.number ≤ 16 * s.scanner.drive then
          { o with candidate := false } else o)) ∧
      t = { s with scanner := t.scanner, line := t.line }

/-- When one slot of the driven line, ABSENT with a candidate, is sampled closed while every other slot of the line
is sampled as it is settled: from EVACUATED it takes the post-fire hold of the episode, in HOLD, or is OCCUPIED for
a hold of 0, with no tag; from PULLED it is PULL_PENDING without its window; from UNEXPECTED of kind REMOVAL it is
OCCUPIED with no tag; from EMPTY, OUT and AWAITED it is UNEXPECTED of kind PRESENCE keeping that state, with REPORT
UNEXPECTED_PRESENCE; from RETURN_PENDING with a tag that a custody entry holds it is QUARANTINE, HOLD or OCCUPIED
by that entry's flag and minutes, its window and number cleared, and no custody entry holds the tag. A tag of eight
zero bytes, which stands for none, becomes absent (R191, log 12). With no custody entry for the tag it is OCCUPIED,
reported with a hold of 0 and a clear flag (the model's choice, log 48). SEATED, and QUARANTINED for a quarantine,
are queued, before every report of a closing (the model's choice, log 15). The first ACTIVE entry of the tag in the
record of the slot's number becomes DONE (the model's reading, log 30). Where none of that record is then in
progress and it is not OPENING, the record closes: it leaves the table, the others staying, the other slots revert
by R95's table where they carry its number, the other custody entries with it lose it (a RELEASED one that owes no
CLEARED goes), and after those reports come one PULL_UNVERIFIED for each PULLED slot of the number, in slot order
(log 49), and CONSIGNMENT_CLOSED with cause COMPLETE and its two counts. Where nothing closes, any other slot that
has the tag loses it (an OUT one becomes EMPTY with its number cleared: R83), the other slots stay, no other report
is queued, the other custody entries and the other records stay. Nothing else than the slots, the report queue, the
custody list and the consignment table changes. (R81, R86, R87, R93, R118, R159, R95, R128, R83) -/
def Obligations.AcceptedPresenceActsByTheSlotState : Prop :=
    (∀ (s : State) (w : Sense) (sl : Slot), s.phase = .running → s.scanner.inventory = none → 1 ≤ s.scanner.drive →
      16 * s.scanner.drive ≤ slotCount s → (s.scanner.slots.map fun sl => sl.number).Nodup → sl ∈ s.scanner.slots →
        16 * (s.scanner.drive - 1) < sl.number → sl.number ≤ 16 * s.scanner.drive → sl.candidate = true →
          (∀ o ∈ s.scanner.slots, o ≠ sl → 16 * (s.scanner.drive - 1) < o.number → o.number ≤ 16 * s.scanner.drive →
        w.getLsbD (o.number - 16 * (s.scanner.drive - 1) - 1) = o.present) → CustodyTagsDistinct s → sl.present =
          false → w.getLsbD (sl.number - 16 * (s.scanner.drive - 1) - 1) = true →
            (sl.state = .evacuated ∨ sl.state = .pulled ∨ sl.state = .unexpectedRemoval ∨ sl.state = .empty ∨
              sl.state = .out ∨ sl.state = .awaited ∨ (sl.state = .returnPending ∧ (custodyOfSlot sl s).isSome =
                true)) → RecordNumbersDistinct s →
      ∃ t, exec (.slotScanStep w) s = .next t ∧
      (sl.state = .evacuated → findSlot sl.number t = some
        { sl with
            present := true,
            candidate := false,
            tag := none,
            state := if postFireHold s = 0 then .occupied else .hold,
            hold := if postFireHold s = 0 then none else some (postFireHold s) }) ∧
      (sl.state = .pulled → findSlot sl.number t = some
        { sl with
            present := true,
            candidate := false,
            state := .pullPending,
            window := none }) ∧
      (sl.state = .unexpectedRemoval → findSlot sl.number t = some
        { sl with
            present := true,
            candidate := false,
            state := .occupied,
            tag := none }) ∧
      (sl.state = .empty → findSlot sl.number t = some
        { sl with
            present := true,
            candidate := false,
            state := .unexpectedPresence .empty }) ∧
      (sl.state = .out → findSlot sl.number t = some
        { sl with
            present := true,
            candidate := false,
            state := .unexpectedPresence .out }) ∧
      (sl.state = .awaited → findSlot sl.number t = some
        { sl with
            present := true,
            candidate := false,
            state := .unexpectedPresence .awaited }) ∧
      (sl.state = .returnPending → ∀ e ∈ custodyOfSlot sl s,
        findSlot sl.number t = some
          { sl with
            present := true,
            candidate := false,
            window := none,
            consignment := none,
            tag := if sl.tag = some 0 then none else sl.tag,
            state := (if e.quarantine then .quarantine else if e.hold = 0 then .occupied else .hold),
            hold := (if e.quarantine = false ∧ e.hold = 0 then none else some e.hold) } ∧
        (∀ x ∈ t.custody.entries, x.tag ≠ e.tag) ∧
        (∀ m ∈ sl.consignment, ∀ c ∈ findRecord m s, (∃ x ∈ c.entries, x.tag = sl.tag ∧ x.state = .active) →
          c.state ≠ .opening →
          (∀ x ∈ (setFirst (fun x => decide (x.tag = sl.tag ∧ x.state = .active)) .done c.entries),
            x.state ≠ .waiting ∧ x.state ≠ .active) →
          findRecord m t = none ∧ t.consignments = s.consignments.filter (fun x => x.number != m) ∧
          (∀ o ∈ s.scanner.slots, o ≠ sl → findSlot o.number t = some (reverted m (withoutTag (sl.tag.getD 0)
            (if 16 * (s.scanner.drive - 1) < o.number ∧ o.number ≤ 16 * s.scanner.drive then
              { o with candidate := false } else o)))) ∧
          (OffersSettled s → t.custody = { s.custody with
            entries := (custodyAfter (some c) (s.custody.entries.filter fun x => x.tag != e.tag)) }) ∧ t.line =
              (queueReports (([{
            kind := .seated,
            number := sl.number,
            tag := sl.tag.getD 0,
            code := if e.quarantine then 1 else 0,
            value1 := (e.hold : Int) }] ++ if e.quarantine then
              [{ kind := .quarantined, number := sl.number, tag := sl.tag.getD 0 }] else
                []) ++ (s.scanner.slots.filter fun o => decide (o.consignment = some m ∧ o.state =
                  .pulled)).map (fun o =>
              ({ kind := .pullUnverified, number := o.number, consignment := m } : Report)) ++ [{
            kind := .consignmentClosed,
            consignment := m,
            code := 1,
            value1 := (((setFirst (fun x => decide (x.tag = sl.tag ∧ x.state =
              .active)) .done c.entries).filter fun x => x.state == .done).length : Int),
            value2 := (((setFirst (fun x => decide (x.tag = sl.tag ∧ x.state =
              .active)) .done c.entries).filter fun x => x.state != .done).length : Int) }]) s).line) ∧
        ((∀ m ∈ sl.consignment, ∀ c ∈ findRecord m s, (∃ x ∈ c.entries, x.tag = sl.tag ∧ x.state = .active) →
          c.state = .opening ∨
            ∃ x ∈ (setFirst (fun x => decide (x.tag = sl.tag ∧ x.state = .active)) .done c.entries), x.state =
              .waiting ∨ x.state = .active) →
          t.line = (queueReports ([{
            kind := .seated,
            number := sl.number,
            tag := sl.tag.getD 0,
            code := if e.quarantine then 1 else 0,
            value1 := (e.hold : Int) }] ++ if e.quarantine then
              [{ kind := .quarantined, number := sl.number, tag := sl.tag.getD 0 }] else []) s).line ∧ t.custody =
                { s.custody with
            entries := s.custody.entries.filter fun x => x.tag != e.tag } ∧
          (∀ o ∈ s.scanner.slots, o ≠ sl → findSlot o.number t = some (withoutTag (sl.tag.getD 0)
            (if 16 * (s.scanner.drive - 1) < o.number ∧ o.number ≤ 16 * s.scanner.drive then
              { o with candidate := false } else o))) ∧
          t.consignments = s.consignments.map (fun c => if sl.consignment = some c.number then { c with
            entries := (setFirst (fun x => decide (x.tag = sl.tag ∧ x.state = .active)) .done c.entries) } else c))) ∧
      (sl.state ≠ .returnPending → t.line =
        (if (sl.state = .empty ∨ sl.state = .out ∨ sl.state = .awaited) ∧ reportsGoOut s = true then
          pushReport { kind := .unexpectedPresence, number := sl.number, code := sl.state.code } s.line
         else s.line)) ∧
      (sl.state ≠ .returnPending → ∀ o ∈ s.scanner.slots, o ≠ sl → findSlot o.number t =
        some (if 16 * (s.scanner.drive - 1) < o.number ∧ o.number ≤ 16 * s.scanner.drive then
          { o with candidate := false } else o)) ∧
      (sl.state ≠ .returnPending → t = { s with scanner := t.scanner, line := t.line }) ∧
      t = { s with
            scanner := t.scanner,
            line := t.line,
            custody := t.custody,
            consignments := t.consignments }) ∧
    (∀ (s : State) (w : Sense) (sl : Slot), s.phase = .running → s.scanner.inventory = none → 1 ≤ s.scanner.drive →
      16 * s.scanner.drive ≤ slotCount s → (s.scanner.slots.map fun sl => sl.number).Nodup → sl ∈ s.scanner.slots →
        16 * (s.scanner.drive - 1) < sl.number → sl.number ≤ 16 * s.scanner.drive → sl.candidate = true →
          (∀ o ∈ s.scanner.slots, o ≠ sl → 16 * (s.scanner.drive - 1) < o.number → o.number ≤ 16 * s.scanner.drive →
        w.getLsbD (o.number - 16 * (s.scanner.drive - 1) - 1) = o.present) → CustodyTagsDistinct s → sl.present =
          false → w.getLsbD (sl.number - 16 * (s.scanner.drive - 1) - 1) = true → RecordNumbersDistinct s → sl.state =
            .returnPending → custodyOfSlot sl s = none →
      ∃ t, exec (.slotScanStep w) s = .next t ∧
      findSlot sl.number t = some { sl with
            present := true,
            candidate := false,
            state := .occupied,
            hold := none,
            window := none,
            consignment := none,
            tag := if sl.tag = some 0 then none else sl.tag } ∧
      (∀ m ∈ sl.consignment, ∀ c ∈ findRecord m s, (∃ x ∈ c.entries, x.tag = some (sl.tag.getD 0) ∧ x.state =
        .active) → c.state ≠ .opening →
          (∀ x ∈ (setFirst (fun x => decide (x.tag = some (sl.tag.getD 0) ∧ x.state = .active)) .done c.entries),
            x.state ≠ .waiting ∧ x.state ≠ .active) →
          findRecord m t = none ∧ t.consignments = s.consignments.filter (fun x => x.number != m) ∧
          (∀ o ∈ s.scanner.slots, o ≠ sl → findSlot o.number t = some (reverted m (withoutTag (sl.tag.getD 0)
            (if 16 * (s.scanner.drive - 1) < o.number ∧ o.number ≤ 16 * s.scanner.drive then
              { o with candidate := false } else o)))) ∧
          (OffersSettled s → t.custody = { s.custody with entries := custodyAfter (some c) (s.custody.entries) }) ∧
            t.line = (queueReports ([{ kind := .seated, number := sl.number, tag := sl.tag.getD 0 }] ++
              (s.scanner.slots.filter fun o => decide (o.consignment = some m ∧ o.state = .pulled)).map (fun o =>
              ({ kind := .pullUnverified, number := o.number, consignment := m } : Report)) ++ [{
            kind := .consignmentClosed,
            consignment := m,
            code := 1,
            value1 := (((setFirst (fun x => decide (x.tag = some (sl.tag.getD 0) ∧ x.state =
              .active)) .done c.entries).filter fun x => x.state == .done).length : Int),
            value2 := (((setFirst (fun x => decide (x.tag = some (sl.tag.getD 0) ∧ x.state =
              .active)) .done c.entries).filter fun x => x.state != .done).length : Int) }]) s).line) ∧
        ((∀ m ∈ sl.consignment, ∀ c ∈ findRecord m s, (∃ x ∈ c.entries, x.tag = some (sl.tag.getD 0) ∧ x.state =
          .active) → c.state = .opening ∨
            ∃ x ∈ (setFirst (fun x => decide (x.tag = some (sl.tag.getD 0) ∧ x.state = .active)) .done c.entries),
              x.state = .waiting ∨ x.state = .active) →
          t.line = (queueReports [{ kind := .seated, number := sl.number, tag := sl.tag.getD 0 }] s).line ∧
            t.custody = { s.custody with entries := s.custody.entries } ∧
          (∀ o ∈ s.scanner.slots, o ≠ sl → findSlot o.number t = some (withoutTag (sl.tag.getD 0)
            (if 16 * (s.scanner.drive - 1) < o.number ∧ o.number ≤ 16 * s.scanner.drive then
              { o with candidate := false } else o))) ∧
          t.consignments = s.consignments.map (fun c => if sl.consignment = some c.number then { c with
            entries := (setFirst (fun x => decide (x.tag = some (sl.tag.getD 0) ∧ x.state =
              .active)) .done c.entries) } else c)) ∧
      (sl.consignment = none → t = { s with scanner := t.scanner, line := t.line }) ∧
      t = { s with
            scanner := t.scanner,
            line := t.line,
            custody := t.custody,
            consignments := t.consignments })

/-- For a PULLED slot with its window and no consignment number: it is UNEXPECTED of kind REMOVAL with its tag kept
and no window, and REPORT PULL_UNVERIFIED is queued. With a number the slot is the same with its number cleared,
the first ACTIVE entry of the record for that slot is FAILED PULL_UNVERIFIED, and a record past OPENING with no
entry left in progress closes; other records stay. PULL_UNVERIFIED carries the slot and the number, and the reports
of the closing follow it: PULL_UNVERIFIED for the number's other PULLED slots and CONSIGNMENT_CLOSED with its
counts (logs 15, 49); at a bay its slots revert by R95's table and its custody entries lose the number (a RELEASED
one that owes no CLEARED goes); every other slot and custody entry stays. For a RETURN_PENDING slot with its
window: RETURN_OVERDUE is queued, the window goes and the slot stays RETURN_PENDING. For a slot in another state,
or without a window, nothing changes. Outside the pause: the minute timer reloads at 60 s; every HOLD slot with 2
minutes or more loses 1; one that reaches 0 becomes OCCUPIED with no hold and its tag kept, and REPORT HOLD_DONE is
queued for each such slot with its number and tag, in slot order; every other slot, QUARANTINE included, stays.
Within the pause the expiry waits: only the timer stands at 0 (log 2). Accepted from the console with a slot n: a
slot in QUARANTINE becomes OCCUPIED, keeps its tag and loses its hold, with no report; for a slot in any other
state, or a number that names no record, REPORT COMMAND_REFUSED with the slot is queued. Nothing else changes but
the reception of the frame. (R90, R94, R117, R128, R161, R162, R95) -/
def Obligations.WindowAndMinuteExpiriesActOnTheirSlots : Prop :=
    (∀ (s : State) (n : Nat) (sl : Slot), s.phase = .running → findSlot n s = some sl → sl.state = .pulled →
      sl.window.isSome = true → sl.consignment = none →
      exec (.pullWindowExpiry n) s = .next (queueReport { kind := .pullUnverified, number := n }
          { s with
            scanner := { s.scanner with
                slots := (s.scanner.slots.map fun x =>
              if x.number = n then { x with state := .unexpectedRemoval, window := none, consignment := none } else
                x) } })) ∧
    (∀ (s : State) (n : Nat) (sl : Slot) (m : Nat), s.phase = .running →
      (s.scanner.slots.map fun x => x.number).Nodup → RecordNumbersDistinct s → findSlot n s = some sl → sl.state =
        .pulled → sl.window.isSome = true → sl.consignment = some m →
      ∃ t, exec (.pullWindowExpiry n) s = .next t ∧
      (∀ x ∈ findSlot n t, x = { sl with state := .unexpectedRemoval, window := none, consignment := none }) ∧
      (findSlot n t).isSome = true ∧ (∀ c ∈ s.consignments, c.number ≠ m → c ∈ t.consignments) ∧
      (∀ c ∈ findRecord m s, (∃ x ∈ c.entries, x.slot = n ∧ x.state = .active) →
        findRecord m t =
          (if c.state ≠ .opening ∧
              ∀ x ∈ setFirst (fun x => decide (x.slot = n ∧ x.state = .active)) (.failed .pullUnverified) c.entries,
                x.state ≠ .waiting ∧ x.state ≠ .active then none
           else some { c with
            entries := (setFirst (fun x => decide (x.slot = n ∧ x.state =
              .active)) (.failed .pullUnverified) c.entries) })) ∧
      t = { s with
            scanner := t.scanner,
            consignments := t.consignments,
            custody := t.custody,
            line := t.line } ∧
      t.line = (queueReports ([{ kind := .pullUnverified, number := n, consignment := m }] ++
        noticeReports (some m) (fun x => decide (x.slot = n ∧ x.state = .active)) (.failed .pullUnverified) { s with
            scanner := { s.scanner with
                slots := (s.scanner.slots.map fun x =>
              if x.number = n then { x with state := .unexpectedRemoval, window := none, consignment := none } else
                x) } }) s).line ∧
      t.scanner = { s.scanner with
            slots := (slotsAfter (closedByNotice (some m) (fun x => decide (x.slot = n ∧ x.state =
              .active)) (.failed .pullUnverified) s) s.role (s.scanner.slots.map fun x => if x.number = n then
                { x with state := .unexpectedRemoval, window := none, consignment := none } else x)) } ∧
      (OffersSettled s → t.custody = { s.custody with
            entries := (custodyAfter (closedByNotice (some m) (fun x => decide (x.slot = n ∧ x.state =
              .active)) (.failed .pullUnverified) s) (s.custody.entries)) })) ∧
    (∀ (s : State) (n : Nat) (sl : Slot), s.phase = .running → findSlot n s = some sl → sl.state = .returnPending →
      sl.window.isSome = true →
      exec (.returnWindowExpiry n) s = .next (queueReport
          {
            kind := .returnOverdue,
            number := sl.number,
            tag := sl.tag.getD 0,
            consignment := sl.consignment.getD 0 }
          { s with
            scanner := { s.scanner with
                slots := (s.scanner.slots.map fun x =>
              if x.number = n then { x with window := none } else x) } })) ∧
    (∀ (s : State) (n : Nat), s.phase = .running → (∀ sl ∈ findSlot n s, sl.state ≠ .returnPending ∨ sl.window =
      none) →
      exec (.returnWindowExpiry n) s = .next (s)) ∧
    (∀ (s : State) (n : Nat), s.phase = .running → (∀ sl ∈ findSlot n s, sl.state ≠ .pulled ∨ sl.window = none) →
      exec (.pullWindowExpiry n) s = .next (s)) ∧
    (∀ (s : State), s.phase = .running → s.hold.paused = false →
      exec (.minuteTimerExpiry) s = .next (queueReports
          ((s.scanner.slots.filter fun sl => sl.state == .hold && sl.hold.getD 0 ≤ 1).map fun sl =>
            { kind := .holdDone, number := sl.number, tag := sl.tag.getD 0 })
          { s with
            hold := { s.hold with seconds := 60 },
            scanner := { s.scanner with
                slots := (s.scanner.slots.map fun sl =>
                     if sl.state = .hold then
                       (if sl.hold.getD 0 ≤ 1 then { sl with state := .occupied, hold := none }
                        else { sl with hold := some (sl.hold.getD 0 - 1) })
                     else sl) } })) ∧
    (∀ (s : State), s.phase = .running → s.hold.paused = true →
      exec (.minuteTimerExpiry) s = .next ({ s with hold := { s.hold with seconds := 0 } })) ∧
    (∀ (s : State) (f : Frame) (sl : Slot), AcceptedCommand 7 f s → findSlot (byteAt f.payload 0).toNat s = some sl →
      sl.state = .quarantine →
      exec (.clearQuarantine f) s = .next ({ heard f s with
            scanner := { s.scanner with
                slots := (s.scanner.slots.map fun x =>
            if x.number = (byteAt f.payload 0).toNat then { x with state := .occupied, hold := none } else x) } })) ∧
    (∀ (s : State) (f : Frame), AcceptedCommand 7 f s →
      (∀ sl ∈ findSlot (byteAt f.payload 0).toNat s, sl.state ≠ .quarantine) →
      exec (.clearQuarantine f) s =
        .next (queueReport { kind := .commandRefused, number := (byteAt f.payload 0).toNat, code := 7 } (heard f s)))

/-- For every configuration whose Hmax is a multiple of 10: no record gives Hmax; a record within 20 tenths of the
T reference and not above the RH target gives 0; any other gives the raw hold (H0, plus KT for each whole degree
and KH for each whole percent begun), rounded up to a multiple of 10 and clamped to Hmax. The result is always a
multiple of 10 and at most Hmax. For the values of a judged image and a record within -400 to 700 and 0 to 1000 the
raw hold stays below 18250. (R154) -/
def Obligations.HoldsAreMultiplesOfTenUpToHmax : Prop :=
    (∀ (v : Settings) (c : HoldClimate), v.hMax % 10 = 0 →
      (let dT := max (c.tMax - v.tReference).natAbs (c.tMin - v.tReference).natAbs
       let dH := c.rhMax - v.rhTarget
       let raw := v.h0 + v.kt * ((dT + 9) / 10) + v.kh * ((dH + 9) / 10)
       computeHold v (some c) = (if dT ≤ 20 ∧ dH = 0 then 0 else min v.hMax ((raw + 9) / 10 * 10))) ∧
      computeHold v (some c) % 10 = 0 ∧ computeHold v (some c) ≤ v.hMax) ∧
    (∀ v : Settings, computeHold v none = v.hMax) ∧
    (∀ (image : List Byte) (v : Settings) (c : Option HoldClimate), judgeImage image = some v →
      computeHold v c % 10 = 0 ∧ computeHold v c ≤ v.hMax ∧ v.hMax ≤ 1440) ∧
    (∀ (image : List Byte) (v : Settings) (c : HoldClimate), judgeImage image = some v →
      -400 ≤ c.tMin → c.tMin ≤ 700 → -400 ≤ c.tMax → c.tMax ≤ 700 → c.rhMax ≤ 1000 →
      v.h0 + v.kt * ((max (c.tMax - v.tReference).natAbs (c.tMin - v.tReference).natAbs + 9) / 10) +
        v.kh * ((c.rhMax - v.rhTarget + 9) / 10) < 18250)

/-- ATTENTION_RISE makes a READ pending; with no transaction on the line and no wait after a RESTART it starts at
once and removes the recovery timer. RECOVERY_TIMER_EXPIRY with its timer and no transaction starts a recovery
READ. The end of the wait after a RESTART starts the pending READ, or else the pending signal, and with neither the
port is idle, its recovery timer running where READER_FAULT is set. Nothing outside the port's record changes.
RESPONSE_TIMEOUT with a transaction, SIGNAL_RESPONSE with any character but busy and acknowledge during a signal,
and a READ_RESPONSE during a READ whose first character after the busy ones names no status, or is OK with a kind
character that names no kind, raise the timeout count by 1 up to 3 and set READER_FAULT when it is 3.
SIGNAL_RESPONSE with the acknowledge character A5h during a signal sets the count to 0 and clears READER_FAULT. In
each case the transaction ends, and the pending READ starts, or else the pending signal, or else none; the last
read ID and the bounce timer stay, nothing is routed, and only the port, that trouble and the report queue change.
Without a transaction RESPONSE_TIMEOUT changes nothing, nor does a busy character, nor a READ_RESPONSE outside a
READ or of which no more than busy characters and the status OK have come (log 41). A failed transaction that
leaves the port idle with READER_FAULT set starts the recovery timer at 1 s again. (R100, R102, R110, R99, R101) -/
def Obligations.ReaderStartsAndFailsItsTransactions : Prop :=
    (∀ (s : State), s.phase = .running →
      exec (.attentionRise) s = .next ({ s with
            reader := (if s.reader.transaction.isSome = true ∨ s.reader.waiting = true then
              { s.reader with readPending := true }
            else { s.reader with
                readPending := false,
                transaction := some (.read false),
                recovery := none }) })) ∧
    (∀ (s : State), s.phase = .running → s.reader.recovery.isSome = true → s.reader.transaction = none →
      exec (.recoveryTimerExpiry) s = .next ({ s with
            reader := { s.reader with transaction := some (.read true), recovery := none } })) ∧
    (∀ (s : State), s.phase = .running → s.reader.transaction = none → s.reader.readPending = true →
      exec (.readerRestartDelayExpiry) s = .next ({ s with
            reader := { s.reader with
                waiting := false,
                readPending := false,
                transaction := some (.read false),
                recovery := none } })) ∧
    (∀ (s : State) (x : Signal), s.phase = .running → s.reader.transaction = none → s.reader.readPending = false →
      s.reader.signalPending = some x →
      exec (.readerRestartDelayExpiry) s = .next ({ s with
            reader := { s.reader with
                waiting := false,
                signalPending := none,
                recovery := none,
                transaction := some (if x = .accept then .signalAccept else .signalReject) } })) ∧
    (∀ (s : State), s.phase = .running → s.reader.waiting = false → s.reader.timeouts ≤ 3 →
      s.reader.transaction.isSome = true →
      ∃ t, exec (.responseTimeout) s = .next t ∧
      t.reader.timeouts = min 3 (s.reader.timeouts + 1) ∧
      troubleActive .readerFault t = (if t.reader.timeouts = 3 then true else troubleActive .readerFault s) ∧
      t.reader =
        (if s.reader.readPending = true then
          { s.reader with
            transaction := some (.read false),
            readPending := false,
            timeouts := min 3 (s.reader.timeouts + 1),
            recovery := none }
         else match s.reader.signalPending with
          | some x => { s.reader with
            transaction := some (if x = .accept then .signalAccept else .signalReject),
            signalPending := none,
            timeouts := min 3 (s.reader.timeouts + 1),
            recovery := none }
          | none => { s.reader with
            transaction := none,
            timeouts := min 3 (s.reader.timeouts + 1),
            recovery := (if troubleActive .readerFault t = true ∧ s.reader.recovery = none then some 1 else
              s.reader.recovery) }) ∧
      (∀ x ∈ allTroubles, x ≠ .readerFault → troubleActive x t = troubleActive x s) ∧
      OnlyReports s.line t.line ∧ t = { s with
            reader := t.reader,
            line := t.line,
            out := { s.out with active := t.out.active, reported := t.out.reported } }) ∧
    (∀ (s : State) (ch : Byte), s.phase = .running → s.reader.waiting = false → s.reader.timeouts ≤ 3 →
      (s.reader.transaction = some .signalAccept ∨ s.reader.transaction = some .signalReject) → ch ≠ 0x00 →
        ch ≠ 0xA5 →
      ∃ t, exec (.signalResponse ch) s = .next t ∧
      t.reader.timeouts = min 3 (s.reader.timeouts + 1) ∧
      troubleActive .readerFault t = (if t.reader.timeouts = 3 then true else troubleActive .readerFault s) ∧
      t.reader =
        (if s.reader.readPending = true then
          { s.reader with
            transaction := some (.read false),
            readPending := false,
            timeouts := min 3 (s.reader.timeouts + 1),
            recovery := none }
         else match s.reader.signalPending with
          | some x => { s.reader with
            transaction := some (if x = .accept then .signalAccept else .signalReject),
            signalPending := none,
            timeouts := min 3 (s.reader.timeouts + 1),
            recovery := none }
          | none => { s.reader with
            transaction := none,
            timeouts := min 3 (s.reader.timeouts + 1),
            recovery := (if troubleActive .readerFault t = true ∧ s.reader.recovery = none then some 1 else
              s.reader.recovery) }) ∧
      (∀ x ∈ allTroubles, x ≠ .readerFault → troubleActive x t = troubleActive x s) ∧
      OnlyReports s.line t.line ∧ t = { s with
            reader := t.reader,
            line := t.line,
            out := { s.out with active := t.out.active, reported := t.out.reported } }) ∧
    (∀ (s : State), s.phase = .running → s.reader.waiting = false →
      (s.reader.transaction = some .signalAccept ∨ s.reader.transaction = some .signalReject) →
      ∃ t, exec (.signalResponse 0xA5) s = .next t ∧
      t.reader.timeouts = 0 ∧ troubleActive .readerFault t = false ∧ t.reader.recovery = none ∧
      t.reader =
        (if s.reader.readPending = true then
          { s.reader with
            transaction := some (.read false),
            readPending := false,
            timeouts := 0,
            recovery := none }
         else match s.reader.signalPending with
          | some x => { s.reader with
            transaction := some (if x = .accept then .signalAccept else .signalReject),
            signalPending := none,
            timeouts := 0,
            recovery := none }
          | none => { s.reader with transaction := none, timeouts := 0, recovery := none }) ∧
      (∀ x ∈ allTroubles, x ≠ .readerFault → troubleActive x t = troubleActive x s) ∧
      OnlyReports s.line t.line ∧ t = { s with
            reader := t.reader,
            line := t.line,
            out := { s.out with active := t.out.active, reported := t.out.reported } }) ∧
    (∀ (s : State), s.phase = .running →
      exec (.signalResponse 0x00) s = .next (s)) ∧
    (∀ (s : State), s.phase = .running → s.reader.transaction = none →
      exec (.responseTimeout) s = .next (s)) ∧
    (∀ (s : State), s.phase = .running → s.reader.transaction = none → s.reader.readPending = false →
      s.reader.signalPending = none →
      exec (.readerRestartDelayExpiry) s = .next ({ s with
            reader := { s.reader with
                waiting := false,
                recovery := (if troubleActive .readerFault s = true ∧ s.reader.recovery = none then some 1 else
                  s.reader.recovery) } })) ∧
    (∀ (s : State) (chars : List Byte) (rec : Bool), s.phase = .running → s.reader.waiting = false →
      s.reader.timeouts ≤ 3 → s.reader.transaction = some (.read rec) →
        ((∃ x ∈ (chars.dropWhile (· == 0))[0]?, x ≠ 1 ∧ x ≠ 2 ∧ x ≠ 3) ∨
          ((chars.dropWhile (· == 0))[0]? = some 1 ∧ ∃ k ∈ (chars.dropWhile (· == 0))[1]?, k ≠ 1 ∧ k ≠ 2 ∧ k ≠ 3)) →
      ∃ t, exec (.readResponse chars) s = .next t ∧
      t.reader.timeouts = min 3 (s.reader.timeouts + 1) ∧
      troubleActive .readerFault t = (if t.reader.timeouts = 3 then true else troubleActive .readerFault s) ∧
      t.reader =
        (if s.reader.readPending = true then
          { s.reader with
            transaction := some (.read false),
            readPending := false,
            timeouts := min 3 (s.reader.timeouts + 1),
            recovery := none }
         else match s.reader.signalPending with
          | some x => { s.reader with
            transaction := some (if x = .accept then .signalAccept else .signalReject),
            signalPending := none,
            timeouts := min 3 (s.reader.timeouts + 1),
            recovery := none }
          | none => { s.reader with
            transaction := none,
            timeouts := min 3 (s.reader.timeouts + 1),
            recovery := (if troubleActive .readerFault t = true ∧ s.reader.recovery = none then some 1 else
              s.reader.recovery) }) ∧
      (∀ x ∈ allTroubles, x ≠ .readerFault → troubleActive x t = troubleActive x s) ∧
      OnlyReports s.line t.line ∧ t = { s with
            reader := t.reader,
            line := t.line,
            out := { s.out with active := t.out.active, reported := t.out.reported } }) ∧
    (∀ (s : State) (chars : List Byte), s.phase = .running →
      ((chars.dropWhile (· == 0)) = [] ∨ (chars.dropWhile (· == 0)) = [1] ∨ s.reader.transaction = none ∨
        s.reader.transaction = some .signalAccept ∨ s.reader.transaction = some .signalReject) →
      exec (.readResponse chars) s = .next (s))

/-- For a good READ response: with status NO_TAG or MULTIPLE a SIGNAL_REJECT is requested, except for a recovery
READ, and nothing is routed; with status OK and the last read ID while the bounce timer runs the read is discarded,
so that the last read ID, the bounce timer and the pending signal stay. The timeout count is 0 and READER_FAULT
clear afterwards, and no slot, consignment or custody entry changes. At the dock, for an OK BADGE read that is no
bounce: if the oldest record its badge reaches is STAGING or WAITING_COURIER, it becomes COURIER_PRESENT or
RECEIVING with the courier window started and other records stay; if it is COURIER_PRESENT it is signed off: the
LOADED entries of its ACTIVE tags leave the custody list, every other entry stays, those with its number losing it
(a RELEASED one that owes no CLEARED goes), HELD ones each with REPORT LEFT_BEHIND in arrival order, and the record
closes, with CONSIGNMENT_CLOSED of cause SIGNED_OFF, the case ID and its counts: DONE those that were and those
whose entry was LOADED, FAILED all others; with no record reached the signal is REJECT and nothing else changes. A
CASE read is stored in the oldest record with a courier: its ID, and in RECEIVING its climate record. At a bay a
BADGE or CASE read is rejected and changes no record. The last read ID and a bounce time of 3 s are set in every
case. A read rejected so gives one UNKNOWN_TAG report with its ID and kind. A CASE read at the dock that finds no
courier present is rejected so too; one that finds a courier stores its ID, the model's choice for an ID of eight
zero bytes being that it is stored as no case ID (log 12). A pending READ starts next and the signal stays pending;
with none the signal goes out at once. (R101, R102, R103, R104, R190, R106, R107, R108, R122, R123, R128) -/
def Obligations.ReadsAreRejectedDiscardedOrReachTheirRecord : Prop :=
    (∀ (s : State) (chars : List Byte) (rec : Bool), s.phase = .running → s.reader.waiting = false →
      s.reader.transaction = some (.read rec) → (readResponseOf chars = .good .noTag ∨ readResponseOf chars =
        .good .multiple) →
      ∃ t, exec (.readResponse chars) s = .next t ∧
      t.reader =
        (if s.reader.readPending = true then
          { s.reader with
            transaction := some (.read false),
            readPending := false,
            timeouts := 0,
            recovery := none,
            signalPending := if rec then s.reader.signalPending else some .reject }
         else { s.reader with
            transaction := ((if rec then s.reader.signalPending else some .reject).map fun x =>
              if x = .accept then .signalAccept else .signalReject),
            signalPending := none,
            timeouts := 0,
            recovery := none }) ∧
      troubleActive .readerFault t = false ∧ OnlyReports s.line t.line ∧
      t = { s with
            reader := t.reader,
            line := t.line,
            out := { s.out with active := t.out.active, reported := t.out.reported } }) ∧
    (∀ (s : State) (chars : List Byte) (rec : Bool) (k : TagKind) (id : Tag) (v : Option CaseClimate), s.phase =
      .running → s.reader.waiting = false → s.reader.transaction = some (.read rec) → readResponseOf chars =
        .good (.ok k id v) → s.reader.bounce.isSome = true → s.reader.lastId = some id →
      ∃ t, exec (.readResponse chars) s = .next t ∧
      t.reader.lastId = s.reader.lastId ∧ t.reader.bounce = s.reader.bounce ∧ t.reader.timeouts = 0 ∧
      troubleActive .readerFault t = false ∧ OnlyReports s.line t.line ∧
      (s.reader.readPending = true → t.reader.signalPending = s.reader.signalPending) ∧
      (s.reader.readPending = false → ∀ x ∈ s.reader.signalPending,
        t.reader.transaction = some (if x = .accept then .signalAccept else .signalReject)) ∧
      t = { s with
            reader := t.reader,
            line := t.line,
            out := { s.out with active := t.out.active, reported := t.out.reported } }) ∧
    (∀ (s : State) (chars : List Byte) (rec : Bool) (id : Tag) (v : Option CaseClimate) (c : Consignment), s.phase =
      .running → s.reader.waiting = false → s.reader.transaction = some (.read rec) →
        (s.reader.bounce = none ∨ s.reader.lastId ≠ some id) → s.role = .dock → readResponseOf chars =
          .good (.ok .badge id v) → s.consignments.find? (badgeReaches id) = some c →
            (c.state = .staging ∨ c.state = .waitingCourier) →
      ∃ t, exec (.readResponse chars) s = .next t ∧
      t.reader.lastId = some id ∧ t.reader.bounce = some 3 ∧ t.reader.timeouts = 0 ∧
       t.fire = s.fire ∧ t.climate = s.climate ∧ t.sup = s.sup ∧ t.allot = s.allot ∧
         (if s.reader.readPending = true then t.reader.transaction = some (.read false) ∧ t.reader.signalPending =
           some .accept
        else t.reader.transaction = some .signalAccept ∧ t.reader.signalPending = none) ∧
      t.consignments = (s.consignments.map fun x => if x.number = c.number then
        { x with
            state := if x.state = .staging then .courierPresent else .receiving,
            courierTimer := some s.cfg.courierWindow } else x) ∧
      (t.custody.entries.map fun e => e.state) = (s.custody.entries.map fun e => e.state) ∧ t.scanner = s.scanner) ∧
    (∀ (s : State) (chars : List Byte) (rec : Bool) (id : Tag) (v : Option CaseClimate), s.phase = .running →
      s.reader.waiting = false → s.reader.transaction = some (.read rec) →
        (s.reader.bounce = none ∨ s.reader.lastId ≠ some id) → s.role = .dock → readResponseOf chars =
          .good (.ok .badge id v) → s.consignments.find? (badgeReaches id) = none →
      ∃ t, exec (.readResponse chars) s = .next t ∧
      t.reader.lastId = some id ∧ t.reader.bounce = some 3 ∧ t.reader.timeouts = 0 ∧
       t.fire = s.fire ∧ t.climate = s.climate ∧ t.sup = s.sup ∧ t.allot = s.allot ∧
         (if s.reader.readPending = true then t.reader.transaction = some (.read false) ∧ t.reader.signalPending =
           some .reject
        else t.reader.transaction = some .signalReject ∧ t.reader.signalPending = none) ∧
      t = { s with
            reader := t.reader,
            line := t.line,
            out := { s.out with active := t.out.active, reported := t.out.reported } } ∧ OnlyReports s.line t.line ∧
      (reportsGoOut s = true → t.line.reports.getLast? = some { kind := .unknownTag, tag := id, code := 2 }) ∧
      (troubleActive .readerFault s = false → t.line =
        (if reportsGoOut s = true then pushReport { kind := .unknownTag, tag := id, code := 2 } s.line else
          s.line))) ∧
    (∀ (s : State) (chars : List Byte) (rec : Bool) (id : Tag) (v : Option CaseClimate) (k : TagKind), s.phase =
      .running → s.reader.waiting = false → s.reader.transaction = some (.read rec) →
        (s.reader.bounce = none ∨ s.reader.lastId ≠ some id) → s.role = .bay → readResponseOf chars =
          .good (.ok k id v) → k ≠ .cartridge →
      ∃ t, exec (.readResponse chars) s = .next t ∧
      t.reader.lastId = some id ∧ t.reader.bounce = some 3 ∧ t.reader.timeouts = 0 ∧
       t.fire = s.fire ∧ t.climate = s.climate ∧ t.sup = s.sup ∧ t.allot = s.allot ∧
         (if s.reader.readPending = true then t.reader.transaction = some (.read false) ∧ t.reader.signalPending =
           some .reject
        else t.reader.transaction = some .signalReject ∧ t.reader.signalPending = none) ∧
      t = { s with
            reader := t.reader,
            line := t.line,
            out := { s.out with active := t.out.active, reported := t.out.reported } } ∧ OnlyReports s.line t.line ∧
      (reportsGoOut s = true → t.line.reports.getLast? = some { kind := .unknownTag, tag := id, code := k.code }) ∧
      (troubleActive .readerFault s = false → t.line =
        (if reportsGoOut s = true then pushReport { kind := .unknownTag, tag := id, code := k.code } s.line else
          s.line))) ∧
    (∀ (s : State) (chars : List Byte) (rec : Bool) (id : Tag) (v : Option CaseClimate) (c : Consignment), s.phase =
      .running → s.reader.waiting = false → s.reader.transaction = some (.read rec) →
        (s.reader.bounce = none ∨ s.reader.lastId ≠ some id) → s.role = .dock → readResponseOf chars =
          .good (.ok .case id v) → (s.consignments.find? (fun c => decide (c.state = .courierPresent ∨ c.state =
            .receiving)) = some c) →
      ∃ t, exec (.readResponse chars) s = .next t ∧
      t.reader.lastId = some id ∧ t.reader.bounce = some 3 ∧ t.reader.timeouts = 0 ∧
       t.fire = s.fire ∧ t.climate = s.climate ∧ t.sup = s.sup ∧ t.allot = s.allot ∧
         (if s.reader.readPending = true then t.reader.transaction = some (.read false) ∧ t.reader.signalPending =
           some .accept
        else t.reader.transaction = some .signalAccept ∧ t.reader.signalPending = none) ∧
      t.consignments = (s.consignments.map fun x => if x.number = c.number then
        { x with
            caseId := if id = 0 then none else some id,
            caseClimate := if x.state = .receiving then v else x.caseClimate } else x) ∧
      t.custody = s.custody ∧ t.scanner = s.scanner) ∧
    (∀ (s : State) (chars : List Byte) (rec : Bool) (id : Tag) (v : Option CaseClimate) (c : Consignment), s.phase =
      .running → s.reader.waiting = false → s.reader.transaction = some (.read rec) →
        (s.reader.bounce = none ∨ s.reader.lastId ≠ some id) → s.role = .dock → readResponseOf chars =
          .good (.ok .badge id v) → s.consignments.find? (badgeReaches id) = some c → c.state = .courierPresent →
            CustodyTagsDistinct s → RecordNumbersDistinct s → (c.entries.filterMap fun x => x.tag).Nodup →
      ∃ t, exec (.readResponse chars) s = .next t ∧
      t.reader.lastId = some id ∧ t.reader.bounce = some 3 ∧ t.reader.timeouts = 0 ∧
       t.fire = s.fire ∧ t.climate = s.climate ∧ t.sup = s.sup ∧ t.allot = s.allot ∧
         (if s.reader.readPending = true then t.reader.transaction = some (.read false) ∧ t.reader.signalPending =
           some .accept
        else t.reader.transaction = some .signalAccept ∧ t.reader.signalPending = none) ∧
      t.consignments = s.consignments.filter (fun x => x.number != c.number) ∧
      (∀ x ∈ c.entries, x.state = .active → ∀ tag ∈ x.tag, ∀ e ∈ findCustody tag s, e.consignment = some c.number →
        (e.state = .loaded → findCustody tag t = none) ∧
        (e.state = .held → ∃ e' ∈ t.custody.entries, e'.tag = tag ∧ e'.state = .held ∧ e'.consignment = none ∧
          e'.owed = none)) ∧
      (∀ e ∈ t.custody.entries, e.consignment ≠ some c.number) ∧ t.scanner = s.scanner ∧
      (reportsGoOut s = true → (signOffReports c s).drop ((signOffReports c s).length - 8) <:+ t.line.reports) ∧
      (troubleActive .readerFault s = false → t.line = (queueReports (signOffReports c s) s).line) ∧
      (OffersSettled s → t.custody = { s.custody with
            entries := (custodyAfter (some c) (s.custody.entries.filter fun e => decide (¬ (e.state = .loaded ∧
              e.consignment = some c.number ∧ ∃ x ∈ c.entries, x.state = .active ∧ x.tag = some e.tag)))) })) ∧
    (∀ (s : State) (chars : List Byte) (rec : Bool) (id : Tag) (v : Option CaseClimate), s.phase = .running →
      s.reader.waiting = false → s.reader.transaction = some (.read rec) →
        (s.reader.bounce = none ∨ s.reader.lastId ≠ some id) → s.role = .dock → readResponseOf chars =
          .good (.ok .case id v) → (s.consignments.find? (fun c => decide (c.state = .courierPresent ∨ c.state =
            .receiving)) = none) →
      ∃ t, exec (.readResponse chars) s = .next t ∧
      t.reader.lastId = some id ∧ t.reader.bounce = some 3 ∧ t.reader.timeouts = 0 ∧
       t.fire = s.fire ∧ t.climate = s.climate ∧ t.sup = s.sup ∧ t.allot = s.allot ∧
         (if s.reader.readPending = true then t.reader.transaction = some (.read false) ∧ t.reader.signalPending =
           some .reject
        else t.reader.transaction = some .signalReject ∧ t.reader.signalPending = none) ∧
      t = { s with
            reader := t.reader,
            line := t.line,
            out := { s.out with active := t.out.active, reported := t.out.reported } } ∧ OnlyReports s.line t.line ∧
      (reportsGoOut s = true → t.line.reports.getLast? = some { kind := .unknownTag, tag := id, code := 3 }) ∧
      (troubleActive .readerFault s = false → t.line =
        (if reportsGoOut s = true then pushReport { kind := .unknownTag, tag := id, code := 3 } s.line else s.line)))

/-- For an OK CARTRIDGE read that is no bounce, with a READ pending. At a bay, for a tag no custody entry holds: if
the only candidate is an ACTIVE entry with the tag in an OUTBOUND record whose slot is PULLED, and the list has
room, the slot becomes OUT with the read tag and no window, the newest custody entry is HELD with the tag, number,
dock as peer, slot, no hold and no flag, it owes OFFER where a dock is configured (and the record is not
RECEIVING), any other slot that had the tag loses it (an OUT one becomes EMPTY with its number cleared: R83), and
REPORT PULL_DONE is queued with slot, tag and the slot's number; with a full list that read is rejected with no
report and no change; without a candidate one UNKNOWN_TAG report is queued, the signal is REJECT, and no slot,
record or custody entry changes. For a tag that a custody entry holds in another state than EXPECTED the read is
accepted and changes nothing. At either role an EXPECTED entry of the tag becomes TAKING with attempt count 1 and
TAKEN owed. At the dock a HELD entry under an OUTBOUND record in COURIER_PRESENT becomes LOADED and owes nothing; a
LOADED entry becomes HELD again; a tag that waits in a RECEIVING INBOUND record enters the custody list HELD, with
the record's number, the entry's station as peer and its slot, and the entry becomes ACTIVE. With a full list such
a read is rejected with no report; a read that none of these claims is rejected with one UNKNOWN_TAG report and no
change. Every accepted read signals ACCEPT. The last read ID and a bounce time of 3 s are set in every case; the
fire record, the climate record, the inputs and the allotter stand. A pending READ starts next and the signal stays
pending; with none the signal goes out at once. (R83, R89, R105, R109, R142, R146, R135) -/
def Obligations.CartridgeReadsMoveTheirCustody : Prop :=
    (∀ (s : State) (chars : List Byte) (rec : Bool) (id : Tag) (v : Option CaseClimate) (n m : Nat) (sl : Slot),
      s.phase = .running → s.reader.waiting = false → s.reader.transaction = some (.read rec) →
        (s.reader.bounce = none ∨ s.reader.lastId ≠ some id) → s.role = .bay → readResponseOf chars =
          .good (.ok .cartridge id v) → id ≠ 0 → findCustody id s = none → s.custody.entries.length < 24 →
            pullCandidates id s.consignments = [{ number := m, slot := n }] → findSlot n s = some sl → sl.state =
              .pulled → (s.scanner.slots.map fun sl => sl.number).Nodup →
      ∃ t, exec (.readResponse chars) s = .next t ∧
      t.reader.lastId = some id ∧ t.reader.bounce = some 3 ∧ t.reader.timeouts = 0 ∧
       t.fire = s.fire ∧ t.climate = s.climate ∧ t.sup = s.sup ∧ t.allot = s.allot ∧
         (if s.reader.readPending = true then t.reader.transaction = some (.read false) ∧ t.reader.signalPending =
           some .accept
        else t.reader.transaction = some .signalAccept ∧ t.reader.signalPending = none) ∧
      findSlot n t = some { sl with state := .out, window := none, tag := some id } ∧
      t.custody.entries.getLast? = some
        {
            tag := id,
            state := .held,
            consignment := some m,
            peer := (if s.cfg.dockStation = 0 then none else some s.cfg.dockStation),
            slot := some n,
            hold := 0,
            quarantine := false,
            wait := .none,
            timer := none,
            attempts := 0,
            owed := if s.cfg.dockStation ≠ 0 ∧ ∀ x ∈ s.consignments,
            x.number = m → x.state ≠ .receiving then some .offer else none } ∧
      (reportsGoOut s = true → t.line.reports.getLast? = some {
            kind := .pullDone,
            number := n,
            tag := id,
            consignment := sl.consignment.getD 0 }) ∧
      (troubleActive .readerFault s = false → t.line =
        (if reportsGoOut s = true then pushReport {
            kind := .pullDone,
            number := n,
            tag := id,
            consignment := sl.consignment.getD 0 } s.line else s.line)) ∧
      t.custody.entries.length = s.custody.entries.length + 1 ∧ t.consignments = s.consignments ∧
      (∀ o ∈ s.scanner.slots, o.number ≠ n → findSlot o.number t = some (withoutTag id o))) ∧
    (∀ (s : State) (chars : List Byte) (rec : Bool) (id : Tag) (v : Option CaseClimate), s.phase = .running →
      s.reader.waiting = false → s.reader.transaction = some (.read rec) →
        (s.reader.bounce = none ∨ s.reader.lastId ≠ some id) → s.role = .bay → readResponseOf chars =
          .good (.ok .cartridge id v) → findCustody id s = none → pullCandidates id s.consignments = [] →
      ∃ t, exec (.readResponse chars) s = .next t ∧
      t.reader.lastId = some id ∧ t.reader.bounce = some 3 ∧ t.reader.timeouts = 0 ∧
       t.fire = s.fire ∧ t.climate = s.climate ∧ t.sup = s.sup ∧ t.allot = s.allot ∧
         (if s.reader.readPending = true then t.reader.transaction = some (.read false) ∧ t.reader.signalPending =
           some .reject
        else t.reader.transaction = some .signalReject ∧ t.reader.signalPending = none) ∧
      t = { s with
            reader := t.reader,
            line := t.line,
            out := { s.out with active := t.out.active, reported := t.out.reported } } ∧ OnlyReports s.line t.line ∧
      (reportsGoOut s = true → t.line.reports.getLast? = some { kind := .unknownTag, tag := id, code := 1 }) ∧
      (troubleActive .readerFault s = false → t.line =
        (if reportsGoOut s = true then pushReport { kind := .unknownTag, tag := id, code := 1 } s.line else
          s.line))) ∧
    (∀ (s : State) (chars : List Byte) (rec : Bool) (id : Tag) (v : Option CaseClimate) (e : CustodyEntry), s.phase =
      .running → s.reader.waiting = false → s.reader.transaction = some (.read rec) →
        (s.reader.bounce = none ∨ s.reader.lastId ≠ some id) → readResponseOf chars = .good (.ok .cartridge id v) →
          findCustody id s = some e → e.state = .expected →
      ∃ t, exec (.readResponse chars) s = .next t ∧
      t.reader.lastId = some id ∧ t.reader.bounce = some 3 ∧ t.reader.timeouts = 0 ∧
       t.fire = s.fire ∧ t.climate = s.climate ∧ t.sup = s.sup ∧ t.allot = s.allot ∧
         (if s.reader.readPending = true then t.reader.transaction = some (.read false) ∧ t.reader.signalPending =
           some .accept
        else t.reader.transaction = some .signalAccept ∧ t.reader.signalPending = none) ∧
      t.custody = { s.custody with
            entries := (s.custody.entries.map fun x =>
        if x.tag = id then { x with
                state := .taking,
                timer := none,
                attempts := 1,
                owed := some .taken } else x) } ∧
      t.consignments = s.consignments ∧ t.scanner = s.scanner) ∧
    (∀ (s : State) (chars : List Byte) (rec : Bool) (id : Tag) (v : Option CaseClimate) (e : CustodyEntry), s.phase =
      .running → s.reader.waiting = false → s.reader.transaction = some (.read rec) →
        (s.reader.bounce = none ∨ s.reader.lastId ≠ some id) → s.role = .dock → readResponseOf chars =
          .good (.ok .cartridge id v) → findCustody id s = some e → e.state = .held →
            (∃ c ∈ s.consignments, e.consignment = some c.number ∧ c.direction = .outbound ∧ c.state =
              .courierPresent) →
      ∃ t, exec (.readResponse chars) s = .next t ∧
      t.reader.lastId = some id ∧ t.reader.bounce = some 3 ∧ t.reader.timeouts = 0 ∧
       t.fire = s.fire ∧ t.climate = s.climate ∧ t.sup = s.sup ∧ t.allot = s.allot ∧
         (if s.reader.readPending = true then t.reader.transaction = some (.read false) ∧ t.reader.signalPending =
           some .accept
        else t.reader.transaction = some .signalAccept ∧ t.reader.signalPending = none) ∧
      t.custody = { s.custody with
            entries := (s.custody.entries.map fun x =>
        if x.tag = id then { x with state := .loaded, wait := .none, owed := none } else x) } ∧
      t.consignments = s.consignments ∧ t.scanner = s.scanner) ∧
    (∀ (s : State) (chars : List Byte) (rec : Bool) (id : Tag) (v : Option CaseClimate) (e : CustodyEntry), s.phase =
      .running → s.reader.waiting = false → s.reader.transaction = some (.read rec) →
        (s.reader.bounce = none ∨ s.reader.lastId ≠ some id) → s.role = .dock → OffersSettled s →
          CustodyTagsDistinct s → readResponseOf chars = .good (.ok .cartridge id v) → findCustody id s = some e →
            e.state = .loaded →
      ∃ t, exec (.readResponse chars) s = .next t ∧
      t.reader.lastId = some id ∧ t.reader.bounce = some 3 ∧ t.reader.timeouts = 0 ∧
       t.fire = s.fire ∧ t.climate = s.climate ∧ t.sup = s.sup ∧ t.allot = s.allot ∧
         (if s.reader.readPending = true then t.reader.transaction = some (.read false) ∧ t.reader.signalPending =
           some .accept
        else t.reader.transaction = some .signalAccept ∧ t.reader.signalPending = none) ∧
      (∀ x ∈ t.custody.entries, if x.tag = id then
          x = { e with state := .held, owed := x.owed } ∧ (x.owed = none ∨ x.owed = some .offer)
        else x ∈ s.custody.entries) ∧ t.custody.entries.length = s.custody.entries.length ∧
      t.consignments = s.consignments ∧ t.scanner = s.scanner) ∧
    (∀ (s : State) (chars : List Byte) (rec : Bool) (id : Tag) (v : Option CaseClimate) (c : Consignment) (e : Entry),
      s.phase = .running → s.reader.waiting = false → s.reader.transaction = some (.read rec) →
        (s.reader.bounce = none ∨ s.reader.lastId ≠ some id) → s.role = .dock → readResponseOf chars =
          .good (.ok .cartridge id v) → findCustody id s = none → s.custody.entries.length < 24 →
            RecordNumbersDistinct s → (s.consignments.find? (fun c => decide (c.direction = .inbound ∧ c.state =
              .receiving ∧ ∃ e ∈ c.entries, e.tag = some id ∧ e.state = .waiting)) = some c) →
                (c.entries.find? (fun e => decide (e.tag = some id ∧ e.state = .waiting)) = some e) →
      ∃ t, exec (.readResponse chars) s = .next t ∧
      t.reader.lastId = some id ∧ t.reader.bounce = some 3 ∧ t.reader.timeouts = 0 ∧
       t.fire = s.fire ∧ t.climate = s.climate ∧ t.sup = s.sup ∧ t.allot = s.allot ∧
         (if s.reader.readPending = true then t.reader.transaction = some (.read false) ∧ t.reader.signalPending =
           some .accept
        else t.reader.transaction = some .signalAccept ∧ t.reader.signalPending = none) ∧
      findRecord c.number t = some { c with
            entries := (setFirst (fun e => decide (e.tag = some id ∧ e.state = .waiting)) .active c.entries) } ∧
      (∀ x ∈ t.custody.entries.getLast?, x = {
            tag := id,
            state := .held,
            consignment := some c.number,
            peer := if e.station = 0 then none else some e.station,
            slot := some e.slot,
            hold := 0,
            quarantine := false,
            wait := .none,
            timer := none,
            attempts := 0,
            owed := none }) ∧
      t.custody.entries.length = s.custody.entries.length + 1 ∧ t.scanner = s.scanner) ∧
    (∀ (s : State) (chars : List Byte) (rec : Bool) (id : Tag) (v : Option CaseClimate) (e : CustodyEntry), s.phase =
      .running → s.reader.waiting = false → s.reader.transaction = some (.read rec) →
        (s.reader.bounce = none ∨ s.reader.lastId ≠ some id) → s.role = .bay → readResponseOf chars =
          .good (.ok .cartridge id v) → findCustody id s = some e → e.state ≠ .expected →
      ∃ t, exec (.readResponse chars) s = .next t ∧
      t.reader.lastId = some id ∧ t.reader.bounce = some 3 ∧ t.reader.timeouts = 0 ∧
       t.fire = s.fire ∧ t.climate = s.climate ∧ t.sup = s.sup ∧ t.allot = s.allot ∧
         (if s.reader.readPending = true then t.reader.transaction = some (.read false) ∧ t.reader.signalPending =
           some .accept
        else t.reader.transaction = some .signalAccept ∧ t.reader.signalPending = none) ∧
      t = { s with
            reader := t.reader,
            line := t.line,
            out := { s.out with active := t.out.active, reported := t.out.reported } } ∧ OnlyReports s.line t.line ∧
              (troubleActive .readerFault s = false → t = { s with reader := t.reader })) ∧
    (∀ (s : State) (chars : List Byte) (rec : Bool) (id : Tag) (v : Option CaseClimate) (n m : Nat) (sl : Slot),
      s.phase = .running → s.reader.waiting = false → s.reader.transaction = some (.read rec) →
        (s.reader.bounce = none ∨ s.reader.lastId ≠ some id) → s.role = .bay → readResponseOf chars =
          .good (.ok .cartridge id v) → findCustody id s = none → 24 ≤ s.custody.entries.length →
            pullCandidates id s.consignments = [{ number := m, slot := n }] → findSlot n s = some sl → sl.state =
              .pulled →
      ∃ t, exec (.readResponse chars) s = .next t ∧
      t.reader.lastId = some id ∧ t.reader.bounce = some 3 ∧ t.reader.timeouts = 0 ∧
       t.fire = s.fire ∧ t.climate = s.climate ∧ t.sup = s.sup ∧ t.allot = s.allot ∧
         (if s.reader.readPending = true then t.reader.transaction = some (.read false) ∧ t.reader.signalPending =
           some .reject
        else t.reader.transaction = some .signalReject ∧ t.reader.signalPending = none) ∧
      t = { s with
            reader := t.reader,
            line := t.line,
            out := { s.out with active := t.out.active, reported := t.out.reported } } ∧ OnlyReports s.line t.line ∧
              (troubleActive .readerFault s = false → t = { s with reader := t.reader })) ∧
    (∀ (s : State) (chars : List Byte) (rec : Bool) (id : Tag) (v : Option CaseClimate), s.phase = .running →
      s.reader.waiting = false → s.reader.transaction = some (.read rec) →
        (s.reader.bounce = none ∨ s.reader.lastId ≠ some id) → s.role = .dock → readResponseOf chars =
          .good (.ok .cartridge id v) → findCustody id s = none → 24 ≤ s.custody.entries.length →
            (∃ c ∈ s.consignments, c.direction = .inbound ∧ c.state = .receiving ∧ ∃ e ∈ c.entries, e.tag = some id ∧
              e.state = .waiting) →
      ∃ t, exec (.readResponse chars) s = .next t ∧
      t.reader.lastId = some id ∧ t.reader.bounce = some 3 ∧ t.reader.timeouts = 0 ∧
       t.fire = s.fire ∧ t.climate = s.climate ∧ t.sup = s.sup ∧ t.allot = s.allot ∧
         (if s.reader.readPending = true then t.reader.transaction = some (.read false) ∧ t.reader.signalPending =
           some .reject
        else t.reader.transaction = some .signalReject ∧ t.reader.signalPending = none) ∧
      t = { s with
            reader := t.reader,
            line := t.line,
            out := { s.out with active := t.out.active, reported := t.out.reported } } ∧ OnlyReports s.line t.line ∧
              (troubleActive .readerFault s = false → t = { s with reader := t.reader })) ∧
    (∀ (s : State) (chars : List Byte) (rec : Bool) (id : Tag) (v : Option CaseClimate), s.phase = .running →
      s.reader.waiting = false → s.reader.transaction = some (.read rec) →
        (s.reader.bounce = none ∨ s.reader.lastId ≠ some id) → s.role = .dock → readResponseOf chars =
          .good (.ok .cartridge id v) → ((findCustody id s = none ∧ ∀ c ∈ s.consignments, c.direction = .inbound →
            c.state = .receiving → ∀ e ∈ c.entries, e.tag ≠ some id ∨ e.state ≠ .waiting) ∨
              (∃ e ∈ findCustody id s, e.state ≠ .expected ∧ e.state ≠ .loaded ∧
                (e.state = .held → ∀ c ∈ s.consignments, e.consignment = some c.number → c.direction ≠ .outbound ∨
                  c.state ≠ .courierPresent))) →
      ∃ t, exec (.readResponse chars) s = .next t ∧
      t.reader.lastId = some id ∧ t.reader.bounce = some 3 ∧ t.reader.timeouts = 0 ∧
       t.fire = s.fire ∧ t.climate = s.climate ∧ t.sup = s.sup ∧ t.allot = s.allot ∧
         (if s.reader.readPending = true then t.reader.transaction = some (.read false) ∧ t.reader.signalPending =
           some .reject
        else t.reader.transaction = some .signalReject ∧ t.reader.signalPending = none) ∧
      t = { s with
            reader := t.reader,
            line := t.line,
            out := { s.out with active := t.out.active, reported := t.out.reported } } ∧ OnlyReports s.line t.line ∧
      (reportsGoOut s = true → t.line.reports.getLast? = some { kind := .unknownTag, tag := id, code := 1 }) ∧
      (troubleActive .readerFault s = false → t.line =
        (if reportsGoOut s = true then pushReport { kind := .unknownTag, tag := id, code := 1 } s.line else s.line)))

/-- Of the tests of R113 the first that applies decides: a number in the table: ignored; number 0, no direction, or
deadline outside 1 to 1440: REPORT CONSIGNMENT_REFUSED with FORM (1); at a bay a peer that is 0 or not the dock
station: PEER (2); four records: FULL (3); else a record in OPENING, with the opening timer at 10 s, no entries,
the frame's number, direction and deadline, at the dock the badge and at a bay the peer, becomes the newest.
Nothing else changes but the reception of the frame. An ENTRY whose number has no record in OPENING, as after a
refused CONSIGN, is ignored. (R113) -/
def Obligations.ConsignIsJudgedByItsTests : Prop :=
    (∀ (s : State) (f : Frame), Accepted kindConsign f s → FromConsole f s →
      exec (.consign f) s = .next (if s.consignments.any (fun c => c.number == wordAt f.payload 0) then heard f s
        else if wordAt f.payload 0 = 0 ∨ ((byteAt f.payload 2).toNat ≠ 1 ∧ (byteAt f.payload 2).toNat ≠ 2) ∨
            wordAt f.payload 11 < 1 ∨ 1440 < wordAt f.payload 11 then
          queueReport {
            kind := .consignmentRefused,
            consignment := wordAt f.payload 0,
            code := 1 } (heard f s)
        else if s.role = .bay ∧
            ((byteAt f.payload 13).toNat = 0 ∨ (byteAt f.payload 13).toNat ≠ s.cfg.dockStation) then
          queueReport {
            kind := .consignmentRefused,
            consignment := wordAt f.payload 0,
            code := 2 } (heard f s)
        else if 4 ≤ s.consignments.length then
          queueReport {
            kind := .consignmentRefused,
            consignment := wordAt f.payload 0,
            code := 3 } (heard f s)
        else { heard f s with
            consignments := (s.consignments ++
          [{
                number := wordAt f.payload 0,
                direction := (if (byteAt f.payload 2).toNat = 1 then .outbound else .inbound),
                state := .opening,
                badge := if s.role = .dock then optTag (tagAt f.payload 3) else none,
                peer := (if s.role = .bay then some (byteAt f.payload 13).toNat else none),
                deadline := wordAt f.payload 11,
                openingTimer := some 10,
                deadlineTimer := none,
                courierTimer := none,
                caseId := none,
                caseClimate := none,
                entries := [] }]) })) ∧
    (∀ (s : State) (f : Frame), Accepted kindEntry f s → FromConsole f s →
      (∀ c ∈ findRecord (wordAt f.payload 0) s, c.state ≠ .opening) →
      exec (.entry f) s = .next (heard f s))

/-- For a record of the frame's number in OPENING: with no last flag, the one, two or three entries of the frame
are appended in WAITING, a tag of eight zero bytes as absent; each beyond 16 is dropped with ENTRY_REJECTED and
OVERFLOW. The first entry with the last flag, appended or dropped, ends OPENING, whatever follows it in the frame.
Then every entry of the record is validated in arrival order, at a bay and at the dock. One that fails is FAILED,
with one ENTRY_REJECTED of the first failing test: STATION 1 (not the own number; at the dock not 1 to 30, own or
console), SLOT_RANGE 2 (not in the slot table; at the dock not 0 OUTBOUND, not 1 to 128 INBOUND), DUPLICATE 3 (an
earlier entry, an entry in progress of another record or a custody entry has the tag; an entry without a tag
duplicates none: log 12), at a bay SLOT_STATE 4. One that passes stays as it is at the dock and is ACTIVE at a bay:
OUTBOUND, its slot, OCCUPIED with no tag or an equal one, becomes PULL_PENDING; INBOUND, its slot, EMPTY or OUT
with the tag, while no other slot has the tag (in a state that R91 names) or awaits it, becomes AWAITED with the
tag expected; the slot takes the number. With an entry in progress the record becomes ACTIVE, at the dock STAGING
or WAITING_COURIER, its deadline timer runs, and from at most 16 entries (R111, kept by O11) it has those and the
appended ones, at most 16. With none it closes at once with cause COMPLETE and its two counts, after the
rejections, slots and custody entries of its number changing as at every closing (R95, R128; several
PULL_UNVERIFIED in slot order: log 49). The cases of a record without entries are written out beside these. For a
number with no record in OPENING the frame is ignored. (R114, R115, R116, R88, R91, R112, R118, R191, R95, R128,
R135, R139) -/
def Obligations.EntriesFillAndValidateTheirRecord : Prop :=
    (∀ (s : State) (f : Frame) (c : Consignment), Accepted kindEntry f s → FromConsole f s → f.payload.length = 13 →
      byteAt f.payload 12 = 0 → findRecord (wordAt f.payload 0) s = some c → c.state = .opening →
      exec (.entry f) s = .next (if c.entries.length < 16 then
          { heard f s with
            consignments := (s.consignments.map fun x => if x.number = wordAt f.payload 0 then
              { x with
                entries := (x.entries ++
                  [{
                    tag := (if tagAt f.payload 2 = 0 then none else some (tagAt f.payload 2)),
                    station := (byteAt f.payload 10).toNat,
                    slot := (byteAt f.payload 11).toNat,
                    last := false,
                    state := .waiting }]) } else x) }
        else queueReport {
            kind := .entryRejected,
            number := (byteAt f.payload 11).toNat,
            consignment := wordAt f.payload 0,
            tag := tagAt f.payload 2,
            code := 13 } (heard f s))) ∧
    (∀ (s : State) (f : Frame) (c : Consignment), Accepted kindEntry f s → FromConsole f s → byteAt f.payload 12 ≠ 0 →
      findRecord (wordAt f.payload 0) s = some c → c.state = .opening → RecordNumbersDistinct s → s.role = .dock →
        c.direction = .outbound → c.entries = [] → (1 ≤ (byteAt f.payload 10).toNat ∧
          (byteAt f.payload 10).toNat ≤ 30) → (byteAt f.payload 10).toNat ≠ ownNumber s →
            (byteAt f.payload 10).toNat ≠ s.cfg.console → byteAt f.payload 11 = 0 →
              (tagAt f.payload 2 = 0 ∨ findCustody (tagAt f.payload 2) s = none) →
                (tagAt f.payload 2 = 0 ∨ ∀ x ∈ s.consignments, ∀ e ∈ x.entries, e.tag ≠ some (tagAt f.payload 2)) →
      exec (.entry f) s = .next ({ heard f s with
            consignments := (s.consignments.map fun x => if x.number = wordAt f.payload 0 then
            { x with
                state := .staging,
                openingTimer := none,
                deadlineTimer := some (c.deadline * 60),
                entries := [{
                    tag := (if tagAt f.payload 2 = 0 then none else some (tagAt f.payload 2)),
                    station := (byteAt f.payload 10).toNat,
                    slot := 0,
                    last := true,
                    state := .waiting }] } else x) })) ∧
    (∀ (s : State) (f : Frame) (c : Consignment) (sl : Slot), Accepted kindEntry f s → FromConsole f s →
      byteAt f.payload 12 ≠ 0 → findRecord (wordAt f.payload 0) s = some c → c.state = .opening →
        RecordNumbersDistinct s → s.role = .bay → c.direction = .outbound → c.entries = [] →
          (byteAt f.payload 10).toNat = ownNumber s → (byteAt f.payload 11).toNat ≤ slotCount s →
            1 ≤ (byteAt f.payload 11).toNat → findSlot (byteAt f.payload 11).toNat s = some sl → sl.state =
              .occupied → (sl.tag = none ∨ (tagAt f.payload 2 ≠ 0 ∧ sl.tag = some (tagAt f.payload 2))) →
                (tagAt f.payload 2 = 0 ∨ findCustody (tagAt f.payload 2) s = none) →
                  (tagAt f.payload 2 = 0 ∨ ∀ x ∈ s.consignments, ∀ e ∈ x.entries, e.tag ≠ some (tagAt f.payload 2)) →
      exec (.entry f) s = .next ({ heard f s with
            consignments := (s.consignments.map fun x => if x.number = wordAt f.payload 0 then
              { x with
                state := .active,
                openingTimer := none,
                deadlineTimer := some (c.deadline * 60),
                entries := [{
                    tag := (if tagAt f.payload 2 = 0 then none else some (tagAt f.payload 2)),
                    station := (byteAt f.payload 10).toNat,
                    slot := (byteAt f.payload 11).toNat,
                    last := true,
                    state := .active }] } else x),
            scanner := { s.scanner with
                slots := (s.scanner.slots.map fun x =>
              if x.number = (byteAt f.payload 11).toNat then
                { x with state := .pullPending, consignment := some (wordAt f.payload 0) } else x) } })) ∧
    (∀ (s : State) (f : Frame) (c : Consignment), Accepted kindEntry f s → FromConsole f s → byteAt f.payload 12 ≠ 0 →
      findRecord (wordAt f.payload 0) s = some c → c.state = .opening → RecordNumbersDistinct s → s.role = .bay →
        c.entries = [] → (byteAt f.payload 10).toNat ≠ ownNumber s →
          (∀ sl ∈ s.scanner.slots, sl.consignment ≠ some c.number) →
      ∃ t, exec (.entry f) s = .next t ∧
      findRecord (wordAt f.payload 0) t = none ∧ t.scanner = s.scanner ∧
      t.consignments = s.consignments.filter (fun x => x.number != c.number) ∧ t.fire = s.fire ∧ t.reader =
        s.reader) ∧
    (∀ (s : State) (f : Frame) (c : Consignment), Accepted kindEntry f s → FromConsole f s → f.payload.length = 24 →
      byteAt f.payload 12 = 0 → byteAt f.payload 23 = 0 → findRecord (wordAt f.payload 0) s = some c → c.state =
        .opening →
      exec (.entry f) s = .next (queueReports ([{
            kind := .entryRejected,
            number := (byteAt f.payload 11).toNat,
            consignment := wordAt f.payload 0,
            tag := tagAt f.payload 2,
            code := 13 }, {
            kind := .entryRejected,
            number := (byteAt f.payload 22).toNat,
            consignment := wordAt f.payload 0,
            tag := tagAt f.payload 13,
            code := 13 }].drop (16 - c.entries.length)) ({ heard f s with
            consignments := (s.consignments.map fun x => if x.number = wordAt f.payload 0 then { x with
                entries := (x.entries ++ [{
                    tag := (if tagAt f.payload 2 = 0 then none else some (tagAt f.payload 2)),
                    station := (byteAt f.payload 10).toNat,
                    slot := (byteAt f.payload 11).toNat,
                    last := false,
                    state := .waiting }, {
                    tag := (if tagAt f.payload 13 = 0 then none else some (tagAt f.payload 13)),
                    station := (byteAt f.payload 21).toNat,
                    slot := (byteAt f.payload 22).toNat,
                    last := false,
                    state := .waiting }].take (16 - c.entries.length)) } else x) }))) ∧
    (∀ (s : State) (f : Frame) (c : Consignment), Accepted kindEntry f s → FromConsole f s → f.payload.length = 35 →
      byteAt f.payload 12 = 0 → byteAt f.payload 23 = 0 → byteAt f.payload 34 = 0 →
        findRecord (wordAt f.payload 0) s = some c → c.state = .opening →
      exec (.entry f) s = .next (queueReports ([{
            kind := .entryRejected,
            number := (byteAt f.payload 11).toNat,
            consignment := wordAt f.payload 0,
            tag := tagAt f.payload 2,
            code := 13 }, {
            kind := .entryRejected,
            number := (byteAt f.payload 22).toNat,
            consignment := wordAt f.payload 0,
            tag := tagAt f.payload 13,
            code := 13 }, {
            kind := .entryRejected,
            number := (byteAt f.payload 33).toNat,
            consignment := wordAt f.payload 0,
            tag := tagAt f.payload 24,
            code := 13 }].drop (16 - c.entries.length)) ({ heard f s with
            consignments := (s.consignments.map fun x => if x.number = wordAt f.payload 0 then { x with
                entries := (x.entries ++ [{
                    tag := (if tagAt f.payload 2 = 0 then none else some (tagAt f.payload 2)),
                    station := (byteAt f.payload 10).toNat,
                    slot := (byteAt f.payload 11).toNat,
                    last := false,
                    state := .waiting }, {
                    tag := (if tagAt f.payload 13 = 0 then none else some (tagAt f.payload 13)),
                    station := (byteAt f.payload 21).toNat,
                    slot := (byteAt f.payload 22).toNat,
                    last := false,
                    state := .waiting }, {
                    tag := (if tagAt f.payload 24 = 0 then none else some (tagAt f.payload 24)),
                    station := (byteAt f.payload 32).toNat,
                    slot := (byteAt f.payload 33).toNat,
                    last := false,
                    state := .waiting }].take (16 - c.entries.length)) } else x) }))) ∧
    (∀ (s : State) (f : Frame) (c : Consignment) (sl : Slot), Accepted kindEntry f s → FromConsole f s →
      byteAt f.payload 12 ≠ 0 → findRecord (wordAt f.payload 0) s = some c → c.state = .opening →
        RecordNumbersDistinct s → s.role = .bay → c.direction = .inbound → c.entries = [] →
          (byteAt f.payload 10).toNat = ownNumber s → (byteAt f.payload 11).toNat ≤ slotCount s →
            1 ≤ (byteAt f.payload 11).toNat → findSlot (byteAt f.payload 11).toNat s = some sl →
              (sl.state = .empty ∨ (sl.state = .out ∧ tagAt f.payload 2 ≠ 0 ∧ sl.tag = some (tagAt f.payload 2))) →
                (tagAt f.payload 2 = 0 ∨ ∀ o ∈ s.scanner.slots, o.number ≠ (byteAt f.payload 11).toNat →
                  o.tag ≠ some (tagAt f.payload 2) ∧ o.expected ≠ some (tagAt f.payload 2)) →
                    (tagAt f.payload 2 = 0 ∨ findCustody (tagAt f.payload 2) s = none) →
                      (tagAt f.payload 2 = 0 ∨ ∀ x ∈ s.consignments, ∀ e ∈ x.entries,
                        e.tag ≠ some (tagAt f.payload 2)) →
      exec (.entry f) s = .next ({ heard f s with
            consignments := (s.consignments.map fun x => if x.number = wordAt f.payload 0 then
              { x with
                state := .active,
                openingTimer := none,
                deadlineTimer := some (c.deadline * 60),
                entries := [{
                    tag := (if tagAt f.payload 2 = 0 then none else some (tagAt f.payload 2)),
                    station := (byteAt f.payload 10).toNat,
                    slot := (byteAt f.payload 11).toNat,
                    last := true,
                    state := .active }] } else x),
            scanner := { s.scanner with
                slots := (s.scanner.slots.map fun x =>
              if x.number = (byteAt f.payload 11).toNat then { x with
                    state := .awaited,
                    expected := (if tagAt f.payload 2 = 0 then none else some (tagAt f.payload 2)),
                    consignment := some (wordAt f.payload 0) } else x) } })) ∧
    (∀ (s : State) (f : Frame) (c : Consignment), Accepted kindEntry f s → FromConsole f s → byteAt f.payload 12 ≠ 0 →
      findRecord (wordAt f.payload 0) s = some c → c.state = .opening → RecordNumbersDistinct s → OffersSettled s →
        s.role = .bay → c.entries = [] → ((byteAt f.payload 10).toNat ≠ ownNumber s ∨
          (byteAt f.payload 11).toNat < 1 ∨ slotCount s < (byteAt f.payload 11).toNat ∨
            (tagAt f.payload 2 ≠ 0 ∧ ((findCustody (tagAt f.payload 2) s).isSome = true ∨ ∃ x ∈ s.consignments,
              x.number ≠ wordAt f.payload 0 ∧ ∃ e ∈ x.entries, e.tag = some (tagAt f.payload 2) ∧
                (e.state = .waiting ∨ e.state = .active))) ∨
                  (c.direction = .outbound ∧ ∀ sl ∈ findSlot (byteAt f.payload 11).toNat s, sl.state ≠ .occupied ∨
                    (sl.tag ≠ none ∧ (tagAt f.payload 2 = 0 ∨ sl.tag ≠ some (tagAt f.payload 2)))) ∨
                      (c.direction = .inbound ∧ ∀ sl ∈ findSlot (byteAt f.payload 11).toNat s,
                        (sl.state ≠ .empty ∧ (sl.state ≠ .out ∨ tagAt f.payload 2 = 0 ∨
                          sl.tag ≠ some (tagAt f.payload 2))) ∨
                            (tagAt f.payload 2 ≠ 0 ∧ ∃ o ∈ s.scanner.slots, o.number ≠ sl.number ∧
                              ((o.tag = some (tagAt f.payload 2) ∧
                                (o.state = .pullPending ∨ o.state = .pulled ∨ o.state = .returnPending ∨ o.state =
                                  .occupied ∨ o.state = .hold ∨ o.state = .quarantine)) ∨
                                    (o.state = .awaited ∧ o.expected = some (tagAt f.payload 2)))))) →
      exec (.entry f) s = .next (queueReports
          ([{
            kind := .entryRejected,
            number := (byteAt f.payload 11).toNat,
            consignment := wordAt f.payload 0,
            tag := tagAt f.payload 2,
            code := (if (byteAt f.payload 10).toNat ≠ ownNumber s then 1 else if (byteAt f.payload 11).toNat < 1 ∨
              slotCount s < (byteAt f.payload 11).toNat then 2 else if tagAt f.payload 2 ≠ 0 ∧
                ((findCustody (tagAt f.payload 2) s).isSome = true ∨ ∃ x ∈ s.consignments,
                  x.number ≠ wordAt f.payload 0 ∧ ∃ e ∈ x.entries, e.tag = some (tagAt f.payload 2) ∧
                    (e.state = .waiting ∨ e.state = .active)) then 3 else 4) }] ++
            closingReports 1 c [{
            tag := none,
            station := (byteAt f.payload 10).toNat,
            slot := (byteAt f.payload 11).toNat,
            last := true,
            state := .failed .station }] s)
          { heard f s with
            consignments := s.consignments.filter fun x => x.number != c.number,
            scanner := { s.scanner with slots := slotsAfter (some c) s.role s.scanner.slots },
            custody := { s.custody with entries := custodyAfter (some c) s.custody.entries } })) ∧
    (∀ (s : State) (f : Frame) (c : Consignment), Accepted kindEntry f s → FromConsole f s → byteAt f.payload 12 ≠ 0 →
      findRecord (wordAt f.payload 0) s = some c → c.state = .opening → RecordNumbersDistinct s → s.role = .dock →
        c.direction = .inbound → c.entries = [] → (1 ≤ (byteAt f.payload 10).toNat ∧
          (byteAt f.payload 10).toNat ≤ 30) → (byteAt f.payload 10).toNat ≠ ownNumber s →
            (byteAt f.payload 10).toNat ≠ s.cfg.console →
              (1 ≤ (byteAt f.payload 11).toNat ∧ (byteAt f.payload 11).toNat ≤ 128) →
                (tagAt f.payload 2 = 0 ∨ findCustody (tagAt f.payload 2) s = none) →
                  (tagAt f.payload 2 = 0 ∨ ∀ x ∈ s.consignments, ∀ e ∈ x.entries, e.tag ≠ some (tagAt f.payload 2)) →
      exec (.entry f) s = .next ({ heard f s with
            consignments := (s.consignments.map fun x => if x.number = wordAt f.payload 0 then
            { x with
                state := .waitingCourier,
                openingTimer := none,
                deadlineTimer := some (c.deadline * 60),
                entries := [{
                    tag := (if tagAt f.payload 2 = 0 then none else some (tagAt f.payload 2)),
                    station := (byteAt f.payload 10).toNat,
                    slot := (byteAt f.payload 11).toNat,
                    last := true,
                    state := .waiting }] } else x) })) ∧
    (∀ (s : State) (f : Frame), Accepted kindEntry f s → FromConsole f s →
      (∀ c ∈ findRecord (wordAt f.payload 0) s, c.state ≠ .opening) →
      exec (.entry f) s = .next (heard f s)) ∧
    (∀ (s : State) (f : Frame) (c : Consignment) (v : Validated), Accepted kindEntry f s → FromConsole f s →
      (∃ e ∈ entryList f.payload, e.last = true) → findRecord (wordAt f.payload 0) s = some c → c.state = .opening →
      RecordNumbersDistinct s →
      v = validated c.number c.direction s [] s.scanner.slots
        (c.entries ++ (entriesTaken f.payload).take (16 - c.entries.length)) →
      (∃ e ∈ v.entries, e.state = .waiting ∨ e.state = .active) →
      exec (.entry f) s = .next (queueReports
          (((entriesTaken f.payload).drop (16 - c.entries.length)).map (fun e => {
            kind := .entryRejected,
            number := e.slot,
            consignment := c.number,
            tag := e.tag.getD 0,
            code := 13 }) ++ v.reports)
          { heard f s with
            consignments := (s.consignments.map fun x => if x.number = c.number then
              { x with
                state := (if s.role = .bay then .active else if c.direction = .outbound then .staging else
                  .waitingCourier),
                openingTimer := none,
                deadlineTimer := some (c.deadline * 60),
                entries := v.entries } else x),
            scanner := { s.scanner with slots := v.slots } })) ∧
    (∀ (s : State) (f : Frame) (c : Consignment) (v : Validated), Accepted kindEntry f s → FromConsole f s →
      (∃ e ∈ entryList f.payload, e.last = true) → findRecord (wordAt f.payload 0) s = some c → c.state = .opening →
      RecordNumbersDistinct s → OffersSettled s →
      v = validated c.number c.direction s [] s.scanner.slots
        (c.entries ++ (entriesTaken f.payload).take (16 - c.entries.length)) →
      (∀ e ∈ v.entries, e.state ≠ .waiting ∧ e.state ≠ .active) →
      exec (.entry f) s = .next (queueReports
          (((entriesTaken f.payload).drop (16 - c.entries.length)).map (fun e => {
            kind := .entryRejected,
            number := e.slot,
            consignment := c.number,
            tag := e.tag.getD 0,
            code := 13 }) ++ v.reports ++ closingReports 1 c v.entries s)
          { heard f s with
            consignments := s.consignments.filter fun x => x.number != c.number,
            scanner := { s.scanner with slots := slotsAfter (some c) s.role s.scanner.slots },
            custody := { s.custody with entries := custodyAfter (some c) s.custody.entries } })) ∧
    (∀ (s : State) (f : Frame) (c : Consignment), Accepted kindEntry f s → FromConsole f s →
      (byteAt f.payload 12 ≠ 0 ∨ byteAt f.payload 23 ≠ 0 ∨ byteAt f.payload 34 ≠ 0) →
        findRecord (wordAt f.payload 0) s = some c → c.state = .opening → RecordNumbersDistinct s →
          c.entries.length ≤ 16 →
      ∃ t, exec (.entry f) s = .next t ∧
      (∀ x ∈ findRecord (wordAt f.payload 0) t, x.openingTimer = none ∧ x.deadlineTimer = some (c.deadline * 60) ∧
        x.entries.length = min 16 (c.entries.length +
          (if byteAt f.payload 12 ≠ 0 then 1 else if byteAt f.payload 23 ≠ 0 then 2 else 3)) ∧
        x.state = (if s.role = .bay then .active else if c.direction = .outbound then .staging else
          .waitingCourier)) ∧
      (∀ x ∈ s.consignments, x.number ≠ wordAt f.payload 0 → x ∈ t.consignments) ∧
      t.fire = s.fire ∧ t.climate = s.climate ∧ t.reader = s.reader ∧ t.sup = s.sup ∧ t.out = s.out)

/-- For the record of a number, past OPENING for a CANCEL from the console and with its deadline timer for the
expiry: the record leaves the table and the others stay; no custody entry and, at a bay, no slot carries its number
afterwards. At a bay, of the slots that carry it, also as that of a kept prior state, PULL_PENDING becomes
OCCUPIED, PULLED UNEXPECTED of kind REMOVAL with the tag kept and without its window, AWAITED OUT where its tag is
known and else EMPTY, the expected tag removed; each other state stays; every other slot stays whole. A RELEASED
custody entry of the number that owes no CLEARED goes, and each other, LOADED, ADRIFT and DISPUTED among them,
stays in its state without the number; the entries of other numbers stay whole. One PULL_UNVERIFIED for each PULLED
slot of the number, in slot order (log 49), is queued, and after them CONSIGNMENT_CLOSED with the cause (CANCELLED
4, EXPIRED 3), the count of DONE entries and the count of all others, which have FAILED, and at the dock the case
ID. A CANCEL for a number not in the table is ignored; an expiry without its timer changes nothing. With its
opening timer, the record is removed with its entries and REPORT CONSIGNMENT_ABANDONED is queued; a CANCEL for a
record in OPENING removes it and queues CONSIGNMENT_CLOSED with cause CANCELLED and counts of 0. No slot, custody
entry or other record changes. Without the timer the expiry changes nothing. (R95, R126, R127, R128, R115, R135,
R139) -/
def Obligations.RecordsCloseWithTheirSlotsAndCustody : Prop :=
    (∀ (s : State) (f : Frame) (c : Consignment), Accepted kindCancel f s → FromConsole f s →
      findRecord (wordAt f.payload 0) s = some c → c.state ≠ .opening →
      ∃ t, exec (.cancel f) s = .next t ∧
      findRecord c.number t = none ∧ t.consignments = s.consignments.filter (fun x => x.number != c.number) ∧
      (∀ e ∈ t.custody.entries, e.consignment ≠ some c.number) ∧
      (∀ e ∈ s.custody.entries, e.consignment = some c.number → e.state = .loaded ∨ e.state = .adrift ∨ e.state =
        .disputed →
        ∃ e' ∈ t.custody.entries, e'.tag = e.tag ∧ e'.state = e.state) ∧
      (s.role = .bay → ∀ sl ∈ t.scanner.slots, sl.consignment ≠ some c.number) ∧
      t.scanner = { s.scanner with slots := slotsAfter (some c) s.role (s.scanner.slots) } ∧
      (OffersSettled s → t.custody = { s.custody with entries := custodyAfter (some c) (s.custody.entries) }) ∧
      t.line = (queueReports (closingReports 4 c c.entries s) (heard f s)).line ∧
      t = { s with
            consignments := t.consignments,
            custody := t.custody,
            scanner := t.scanner,
            line := t.line }) ∧
    (∀ (s : State) (n : Nat) (c : Consignment), s.phase = .running → findRecord n s = some c →
      c.deadlineTimer.isSome = true →
      ∃ t, exec (.deadlineTimerExpiry n) s = .next t ∧
      findRecord c.number t = none ∧ t.consignments = s.consignments.filter (fun x => x.number != c.number) ∧
      (∀ e ∈ t.custody.entries, e.consignment ≠ some c.number) ∧
      (∀ e ∈ s.custody.entries, e.consignment = some c.number → e.state = .loaded ∨ e.state = .adrift ∨ e.state =
        .disputed →
        ∃ e' ∈ t.custody.entries, e'.tag = e.tag ∧ e'.state = e.state) ∧
      (s.role = .bay → ∀ sl ∈ t.scanner.slots, sl.consignment ≠ some c.number) ∧
      t.scanner = { s.scanner with slots := slotsAfter (some c) s.role (s.scanner.slots) } ∧
      (OffersSettled s → t.custody = { s.custody with entries := custodyAfter (some c) (s.custody.entries) }) ∧
      t.line = (queueReports (closingReports 3 c c.entries s) s).line ∧
      t = { s with
            consignments := t.consignments,
            custody := t.custody,
            scanner := t.scanner,
            line := t.line }) ∧
    (∀ (s : State) (f : Frame), Accepted kindCancel f s → FromConsole f s → findRecord (wordAt f.payload 0) s = none →

      exec (.cancel f) s = .next (heard f s)) ∧
    (∀ (s : State) (n : Nat), s.phase = .running → (∀ c ∈ findRecord n s, c.deadlineTimer = none) →
      exec (.deadlineTimerExpiry n) s = .next (s)) ∧
    (∀ (s : State) (n : Nat) (c : Consignment), s.phase = .running → findRecord n s = some c → c.openingTimer.isSome =
      true →
      exec (.openingTimerExpiry n) s = .next (queueReport { kind := .consignmentAbandoned, consignment := n }
          { s with consignments := s.consignments.filter fun x => x.number != n })) ∧
    (∀ (s : State) (f : Frame) (c : Consignment), Accepted kindCancel f s → FromConsole f s →
      findRecord (wordAt f.payload 0) s = some c → c.state = .opening →
      exec (.cancel f) s = .next (queueReport {
            kind := .consignmentClosed,
            consignment := wordAt f.payload 0,
            code := 4,
            value1 := 0,
            value2 := 0 }
          { heard f s with
            consignments := (s.consignments.filter fun x => x.number != wordAt f.payload 0) })) ∧
    (∀ (s : State) (n : Nat), s.phase = .running → (∀ c ∈ findRecord n s, c.openingTimer = none) →
      exec (.openingTimerExpiry n) s = .next (s))

/-- With its timer in COURIER_PRESENT: the record returns to STAGING without the timer and keeps its case ID, its
LOADED custody entries become HELD and owe OFFER by the rule, every other custody entry and record stays. With its
timer in RECEIVING, while some entry is ACTIVE: WAITING entries become FAILED MISSING, the record becomes
DISTRIBUTING without the timer, and each HELD custody entry of an ACTIVE entry's tag takes the hold and the flag
computed from the case climate record, the HELD entries of the number owe OFFER by the rule, and every other entry
and record stays; at the dock, with no entry ACTIVE, the record closes with cause COMPLETE instead, its number
leaving the custody entries (R128 step 3). REPORT COURIER_TIMEOUT with the state left, 4 or 6, is queued first, and
at such a closing CONSIGNMENT_CLOSED after it (the model's choice, log 15). A BADGE read that reaches a RECEIVING
record with an ACTIVE entry signs it off in the same way, and one without an ACTIVE entry closes it with cause
COMPLETE, with no report of a timeout. Without the timer the expiry changes nothing. (R124, R125, R156, R107, R128,
R135, R139) -/
def Obligations.CourierWindowExpiryEndsTheSession : Prop :=
    (∀ (s : State) (n : Nat) (c : Consignment), s.phase = .running → findRecord n s = some c → c.courierTimer.isSome =
      true → c.state = .courierPresent → RecordNumbersDistinct s →
      ∃ t, exec (.courierWindowExpiry n) s = .next t ∧
      findRecord n t = some { c with state := .staging, courierTimer := none } ∧
      (t.custody.entries.map fun e => e.state) =
        (s.custody.entries.map fun e => if e.state = .loaded ∧ e.consignment = some n then .held else e.state) ∧
      t.custody.replies = s.custody.replies ∧
      t.line = (if reportsGoOut s = true then
        pushReport { kind := .courierTimeout, consignment := n, code := 4 } s.line else s.line) ∧
      t = { s with
            consignments := t.consignments,
            custody := t.custody,
            line := t.line } ∧
      t.consignments = s.consignments.map (fun x => if x.number = n then
        { x with state := .staging, courierTimer := none } else x) ∧
      (OffersSettled s → t.custody = { s.custody with
            entries := (s.custody.entries.map fun e =>
        if e.state = .loaded ∧ e.consignment = some n then { e with
                state := .held,
                owed := (if e.peer.isSome = true ∧ e.wait = .none then some .offer else none) } else e) })) ∧
    (∀ (s : State) (n : Nat) (c : Consignment), s.phase = .running → findRecord n s = some c → c.courierTimer.isSome =
      true → c.state = .receiving → RecordNumbersDistinct s → (∃ e ∈ c.entries, e.state = .active) →
      ∃ t, exec (.courierWindowExpiry n) s = .next t ∧
      findRecord n t = some { c with
            state := .distributing,
            courierTimer := none,
            entries := (c.entries.map fun e => if e.state = .waiting then { e with state := .failed .missing } else
              e) } ∧
      (∀ e ∈ s.custody.entries, e.state = .held → (∃ x ∈ c.entries, x.tag = some e.tag ∧ x.state = .active) →
        ∃ e' ∈ t.custody.entries, e'.tag = e.tag ∧ e'.state = .held ∧
          e'.hold = computeHold s.cfg (caseHoldClimate c.caseClimate) ∧ e'.quarantine =
            caseQuarantine s.cfg c.caseClimate) ∧
      (t.custody.entries.map fun e => (e.tag, e.state, e.consignment)) =
        (s.custody.entries.map fun e => (e.tag, e.state, e.consignment)) ∧
      t = { s with
            consignments := t.consignments,
            custody := t.custody,
            line := t.line } ∧
      t.line = (if reportsGoOut s = true then
        pushReport { kind := .courierTimeout, consignment := n, code := 6 } s.line else s.line) ∧
      (OffersSettled s → t.custody = { s.custody with
            entries := ((s.custody.entries.map fun e =>
        (if e.state = .held ∧ (∃ x ∈ c.entries, x.tag = some e.tag ∧ x.state = .active) then
            { e with
                hold := computeHold s.cfg (caseHoldClimate c.caseClimate),
                quarantine := caseQuarantine s.cfg c.caseClimate }
          else e)).map fun e =>
        (if e.state = .held ∧ e.consignment = some n then { e with
                owed := (if e.peer.isSome = true ∧ e.wait = .none then some .offer else none) } else e)) }) ∧
      (∀ x ∈ s.consignments, x.number ≠ n → x ∈ t.consignments)) ∧
    (∀ (s : State) (n : Nat), s.phase = .running → (∀ c ∈ findRecord n s, c.courierTimer = none) →
      exec (.courierWindowExpiry n) s = .next (s)) ∧
    (∀ (s : State) (n : Nat) (c : Consignment), s.phase = .running → s.role = .dock → findRecord n s = some c →
      c.courierTimer.isSome = true → c.state = .receiving → RecordNumbersDistinct s →
        (∀ e ∈ c.entries, e.state ≠ .active) →
      ∃ t, exec (.courierWindowExpiry n) s = .next t ∧
      findRecord n t = none ∧ t.consignments = s.consignments.filter (fun x => x.number != n) ∧
      (∀ e ∈ t.custody.entries, e.consignment ≠ some n) ∧
      t.line = (if reportsGoOut s = true then
          pushReport {
            kind := .consignmentClosed,
            consignment := n,
            tag := c.caseId.getD 0,
            code := 1,
            value1 := ((c.entries.filter fun e => e.state == .done).length : Int),
            value2 := ((c.entries.filter fun e => e.state !=
              .done).length : Int) } (pushReport { kind := .courierTimeout, consignment := n, code := 6 } s.line)
        else s.line) ∧
      t = { s with
            consignments := t.consignments,
            custody := t.custody,
            line := t.line } ∧
      (OffersSettled s → t.custody = { s.custody with entries := custodyAfter (some c) (s.custody.entries) })) ∧
    (∀ (s : State) (chars : List Byte) (rec : Bool) (id : Tag) (v : Option CaseClimate) (c : Consignment), s.phase =
      .running → s.reader.waiting = false → s.reader.transaction = some (.read rec) →
        (s.reader.bounce = none ∨ s.reader.lastId ≠ some id) → s.role = .dock → readResponseOf chars =
          .good (.ok .badge id v) → s.consignments.find? (badgeReaches id) = some c → c.state = .receiving →
            RecordNumbersDistinct s → (∃ e ∈ c.entries, e.state = .active) →
      ∃ t, exec (.readResponse chars) s = .next t ∧
      t.reader.lastId = some id ∧ t.reader.bounce = some 3 ∧ t.reader.timeouts = 0 ∧
       t.fire = s.fire ∧ t.climate = s.climate ∧ t.sup = s.sup ∧ t.allot = s.allot ∧
         (if s.reader.readPending = true then t.reader.transaction = some (.read false) ∧ t.reader.signalPending =
           some .accept
        else t.reader.transaction = some .signalAccept ∧ t.reader.signalPending = none) ∧
      findRecord c.number t = some { c with
            state := .distributing,
            courierTimer := none,
            entries := (c.entries.map fun e => if e.state = .waiting then { e with state := .failed .missing } else
              e) } ∧
      (∀ e ∈ s.custody.entries, e.state = .held → (∃ x ∈ c.entries, x.tag = some e.tag ∧ x.state = .active) →
        ∃ e' ∈ t.custody.entries, e'.tag = e.tag ∧ e'.state = .held ∧
          e'.hold = computeHold s.cfg (caseHoldClimate c.caseClimate) ∧ e'.quarantine =
            caseQuarantine s.cfg c.caseClimate ∧
          (OffersSettled t)) ∧
      (t.custody.entries.map fun e => (e.tag, e.state, e.consignment)) =
        (s.custody.entries.map fun e => (e.tag, e.state, e.consignment)) ∧ t.scanner = s.scanner ∧
      (OffersSettled s → t.custody = { s.custody with
            entries := ((s.custody.entries.map fun e =>
        (if e.state = .held ∧ (∃ x ∈ c.entries, x.tag = some e.tag ∧ x.state = .active) then
            { e with
                hold := computeHold s.cfg (caseHoldClimate c.caseClimate),
                quarantine := caseQuarantine s.cfg c.caseClimate }
          else e)).map fun e =>
        (if e.state = .held ∧ e.consignment = some c.number then { e with
                owed := (if e.peer.isSome = true ∧ e.wait = .none then some .offer else none) } else e)) }) ∧
      (∀ x ∈ s.consignments, x.number ≠ c.number → x ∈ t.consignments)) ∧
    (∀ (s : State) (chars : List Byte) (rec : Bool) (id : Tag) (v : Option CaseClimate) (c : Consignment), s.phase =
      .running → s.reader.waiting = false → s.reader.transaction = some (.read rec) →
        (s.reader.bounce = none ∨ s.reader.lastId ≠ some id) → s.role = .dock → readResponseOf chars =
          .good (.ok .badge id v) → s.consignments.find? (badgeReaches id) = some c → c.state = .receiving →
            RecordNumbersDistinct s → (∀ e ∈ c.entries, e.state ≠ .active) →
      ∃ t, exec (.readResponse chars) s = .next t ∧
      t.reader.lastId = some id ∧ t.reader.bounce = some 3 ∧ t.reader.timeouts = 0 ∧
       t.fire = s.fire ∧ t.climate = s.climate ∧ t.sup = s.sup ∧ t.allot = s.allot ∧
         (if s.reader.readPending = true then t.reader.transaction = some (.read false) ∧ t.reader.signalPending =
           some .accept
        else t.reader.transaction = some .signalAccept ∧ t.reader.signalPending = none) ∧
      t.consignments = s.consignments.filter (fun x => x.number != c.number) ∧
      (∀ e ∈ t.custody.entries, e.consignment ≠ some c.number) ∧ t.scanner = s.scanner ∧
      OnlyReports s.line t.line ∧ (reportsGoOut s = true → t.line.reports.getLast? = some {
            kind := .consignmentClosed,
            consignment := c.number,
            tag := c.caseId.getD 0,
            code := 1,
            value1 := ((c.entries.filter fun e => e.state == .done).length : Int),
            value2 := ((c.entries.filter fun e => e.state != .done).length : Int) }) ∧
      (troubleActive .readerFault s = false → t.line = (if reportsGoOut s = true then pushReport {
            kind := .consignmentClosed,
            consignment := c.number,
            tag := c.caseId.getD 0,
            code := 1,
            value1 := ((c.entries.filter fun e => e.state == .done).length : Int),
            value2 := ((c.entries.filter fun e => e.state != .done).length : Int) } s.line else s.line)) ∧
      (OffersSettled s → t.custody = { s.custody with entries := custodyAfter (some c) (s.custody.entries) }))

/-- The tests in order: fire state PRE_DISCHARGE, HELD or DISCHARGED: FIRE; a custody entry holds the tag:
DUPLICATE; the consignment table does not expect the tag under the number from the source: NO_CONSIGNMENT; the tag
waits in an INBOUND record: DUPLICATE; at a bay the slot is not AWAITED with the tag: SLOT_NOT_READY; 24 entries:
FULL. The first that applies adds REFUSE to the reply list, addressed to the source, with the number, the tag and
the reason (the list keeps its 24 places and takes no reply twice). An offer that passes creates the newest custody
entry: EXPECTED, the tag, the number, the source as peer, at a bay the slot, the hold clamped to 1440, the flag,
attempt count 0 and the lapse timer at the handover window plus 60 s. Nothing else changes but the reception of the
frame. The question of the table is that of R119, the hold is clamped to 1440 (R156), the reply list takes no reply
twice and no more than 24 (R132), and a tag of eight zero bytes is held and expected by none (R191, log 12). (R141,
R119, R132, R156, R191) -/
def Obligations.OfferIsJudgedByItsTests : Prop :=
    ∀ (s : State) (f : Frame), Accepted kindOffer f s →
      exec (.offer f) s = .next (if s.fire.state = .preDischarge ∨ s.fire.state = .held ∨ s.fire.state =
        .discharged then { heard f s with
            custody := { s.custody with
                replies := (pushReply s.custody.replies {
                    kind := .refuse .fire,
                    dst := f.src.toNat,
                    consignment := wordAt f.payload 0,
                    tag := tagAt f.payload 2 }) } }
        else if tagAt f.payload 2 ≠ 0 ∧ ∃ e ∈ s.custody.entries, e.tag = tagAt f.payload 2 then { heard f s with
            custody := { s.custody with
                replies := (pushReply s.custody.replies {
                    kind := .refuse .duplicate,
                    dst := f.src.toNat,
                    consignment := wordAt f.payload 0,
                    tag := tagAt f.payload 2 }) } }
        else if ¬ (tagAt f.payload 2 ≠ 0 ∧ ∃ c ∈ s.consignments, c.number = wordAt f.payload 0 ∧
            (if s.role = .bay then
              c.direction = .inbound ∧ c.state = .active ∧ c.peer = some f.src.toNat ∧
                ∃ e ∈ c.entries, e.tag = some (tagAt f.payload 2) ∧ e.state = .active
             else c.direction = .outbound ∧ (c.state = .staging ∨ c.state = .courierPresent) ∧
                ∃ e ∈ c.entries, e.tag = some (tagAt f.payload 2) ∧ e.state = .waiting ∧ e.station =
                  f.src.toNat)) then
          { heard f s with
            custody := { s.custody with
                replies := (pushReply s.custody.replies {
                    kind := .refuse .noConsignment,
                    dst := f.src.toNat,
                    consignment := wordAt f.payload 0,
                    tag := tagAt f.payload 2 }) } }
        else if ∃ c ∈ s.consignments, c.direction = .inbound ∧
            ∃ e ∈ c.entries, e.tag = some (tagAt f.payload 2) ∧ e.state = .waiting then { heard f s with
            custody := { s.custody with
                replies := (pushReply s.custody.replies {
                    kind := .refuse .duplicate,
                    dst := f.src.toNat,
                    consignment := wordAt f.payload 0,
                    tag := tagAt f.payload 2 }) } }
        else if s.role = .bay ∧ ∀ sl ∈ findSlot (byteAt f.payload 10).toNat s,
            sl.state ≠ .awaited ∨ sl.expected ≠ some (tagAt f.payload 2) then { heard f s with
            custody := { s.custody with
                replies := (pushReply s.custody.replies {
                    kind := .refuse .slotNotReady,
                    dst := f.src.toNat,
                    consignment := wordAt f.payload 0,
                    tag := tagAt f.payload 2 }) } }
        else if 24 ≤ s.custody.entries.length then { heard f s with
            custody := { s.custody with
                replies := (pushReply s.custody.replies {
                    kind := .refuse .full,
                    dst := f.src.toNat,
                    consignment := wordAt f.payload 0,
                    tag := tagAt f.payload 2 }) } }
        else { heard f s with
            custody := { s.custody with
                entries := (s.custody.entries ++
          [{
                    tag := tagAt f.payload 2,
                    state := .expected,
                    consignment := (if wordAt f.payload 0 = 0 then none else some (wordAt f.payload 0)),
                    peer := some f.src.toNat,
                    slot := (if s.role = .bay then some (byteAt f.payload 10).toNat else none),
                    hold := min 1440 (wordAt f.payload 11),
                    quarantine := byteAt f.payload 13 != 0,
                    wait := .none,
                    timer := some (s.cfg.handoverWindow + 60),
                    attempts := 0,
                    owed := none }]) } })

/-- TAKEN from the peer of an OFFERED or SUSPENDED entry: RELEASED, no timer, CLEARED owed; the first ACTIVE entry
of the tag in its record becomes DONE, and a record past OPENING with no entry left in progress closes. For a
RELEASED entry CLEARED is owed again, for an ADRIFT one LATE; otherwise, or from another station, LATE enters the
reply list, with the number and the tag of the TAKEN (log 24). REFUSE with FIRE or FULL returns an OFFERED or
SUSPENDED entry to HELD with that wait reason, no timer and nothing owed, and queues HANDOVER_REFUSED; with a final
reason the entry is HELD with no number and no wait reason and owes nothing (an entry without a number also takes
FIRE or FULL: log 28), and the record's entry is FAILED REFUSED; any other REFUSE is ignored. The handover timer of
an OFFERED entry: ADRIFT, WITHDRAW owed, the peer kept, the number cleared, the record's entry FAILED ADRIFT; for
an entry in another state, SUSPENDED included, nothing changes. A final REFUSE queues HANDOVER_REFUSED too, and the
expiry ADRIFT with cause TIMEOUT, each with the peer, the number as it stood, the tag and the reason or cause;
where the record closes, the reports of the closing follow (logs 15, 49). A notice acts on the first such entry,
and clears the custody entry's number also where there is none (logs 30, 10). Where the record closes, at a bay its
slots revert by R95's table, each custody entry with its number loses it, and a RELEASED one that owes no CLEARED
goes; every other slot and custody entry stays whole, and where nothing closes all do. (R120, R128, R133, R135,
R136, R137, R138, R95, R149) -/
def Obligations.GiverEntriesFollowTakenRefuseAndTheirTimer : Prop :=
    (∀ (s : State) (f : Frame) (e : CustodyEntry), Accepted kindTaken f s → CustodyTagsDistinct s →
      RecordNumbersDistinct s → tagAt f.payload 2 ≠ 0 → findCustody (tagAt f.payload 2) s = some e → e.peer =
        some f.src.toNat → (e.state = .offered ∨ e.state = .suspended) →
      ∃ t, exec (.taken f) s = .next t ∧
      (∃ x ∈ t.custody.entries, x.tag = (tagAt f.payload 2) ∧ x.state = .released ∧ x.timer = none ∧ x.owed =
        some .cleared ∧ x.peer = e.peer ∧ x.slot = e.slot ∧ x.hold = e.hold ∧ x.quarantine = e.quarantine) ∧
      (∀ m ∈ e.consignment, ∀ c ∈ findRecord m s, (∃ x ∈ c.entries, x.tag = some (tagAt f.payload 2) ∧ x.state =
        .active) →
        findRecord m t =
          (if c.state ≠ .opening ∧ ∀ x ∈ setFirst (fun x => decide (x.tag = some (tagAt f.payload 2) ∧ x.state =
            .active)) .done c.entries,
              x.state ≠ .waiting ∧ x.state ≠ .active then none
           else some { c with
            entries := (setFirst (fun x => decide (x.tag = some (tagAt f.payload 2) ∧ x.state =
              .active)) .done c.entries) })) ∧
      (∀ c ∈ s.consignments, e.consignment ≠ some c.number → c ∈ t.consignments) ∧
      (∀ x ∈ t.custody.entries, x.tag = (tagAt f.payload 2) ∨ ∃ y ∈ s.custody.entries, y.tag = x.tag ∧ y.state =
        x.state) ∧ t.scanner = { s.scanner with
            slots := (slotsAfter (closedByNotice e.consignment (fun x => decide (x.tag = some (tagAt f.payload 2) ∧
              x.state = .active)) .done s) s.role (s.scanner.slots)) } ∧
      (OffersSettled s → t.custody = { s.custody with
            entries := (custodyAfter (closedByNotice e.consignment (fun x => decide (x.tag =
              some (tagAt f.payload 2) ∧ x.state = .active)) .done s) (s.custody.entries.map fun x => if x.tag =
                tagAt f.payload 2 then { e with state := .released, timer := none, owed := some .cleared } else
                  x)) }) ∧ t = { s with
            custody := t.custody,
            consignments := t.consignments,
            scanner := t.scanner,
            line := t.line } ∧
      t.line = (queueReports ([] ++ noticeReports e.consignment (fun x => decide (x.tag = some (tagAt f.payload 2) ∧
        x.state = .active)) .done s) (heard f s)).line) ∧
    (∀ (s : State) (f : Frame) (e : CustodyEntry), Accepted kindTaken f s → tagAt f.payload 2 ≠ 0 →
      findCustody (tagAt f.payload 2) s = some e → e.peer = some f.src.toNat →
        (e.state = .released ∨ e.state = .adrift) →
      exec (.taken f) s = .next ({ heard f s with
            custody := { s.custody with
                entries := (s.custody.entries.map fun x =>
            if x.tag = tagAt f.payload 2 then
              { x with owed := some (if e.state = .released then .cleared else .late) } else x) } })) ∧
    (∀ (s : State) (f : Frame), Accepted kindTaken f s →
      (tagAt f.payload 2 = 0 ∨ ∀ e ∈ findCustody (tagAt f.payload 2) s, e.peer ≠ some f.src.toNat ∨
        (e.state ≠ .offered ∧ e.state ≠ .suspended ∧ e.state ≠ .released ∧ e.state ≠ .adrift)) →
      exec (.taken f) s = .next ({ heard f s with
            custody := { s.custody with
                replies := (pushReply s.custody.replies
            {
                    kind := .late,
                    dst := f.src.toNat,
                    consignment := wordAt f.payload 0,
                    tag := tagAt f.payload 2 }) } })) ∧
    (∀ (s : State) (f : Frame) (e : CustodyEntry), Accepted kindRefuse f s → OffersSettled s → tagAt f.payload 2 ≠ 0 →
      findCustody (tagAt f.payload 2) s = some e → e.peer = some f.src.toNat →
        (e.state = .offered ∨ e.state = .suspended) → (byteAt f.payload 10 = 1 ∨ byteAt f.payload 10 = 2) →
      exec (.refuse f) s = .next (queueReport
          {
            kind := .handoverRefused,
            number := f.src.toNat,
            consignment := e.consignment.getD 0,
            tag := e.tag,
            code := (byteAt f.payload 10).toNat }
          { heard f s with
            custody := { s.custody with
                entries := (s.custody.entries.map fun x =>
            if x.tag = tagAt f.payload 2 then
              { x with
                    state := .held,
                    timer := none,
                    owed := none,
                    wait := if byteAt f.payload 10 = 1 then .fire else .full } else x) } })) ∧
    (∀ (s : State) (f : Frame) (e : CustodyEntry), Accepted kindRefuse f s → CustodyTagsDistinct s →
      RecordNumbersDistinct s → tagAt f.payload 2 ≠ 0 → findCustody (tagAt f.payload 2) s = some e → e.peer =
        some f.src.toNat → (e.state = .offered ∨ e.state = .suspended) →
          (byteAt f.payload 10 = 3 ∨ byteAt f.payload 10 = 4 ∨ byteAt f.payload 10 = 5) →
      ∃ t, exec (.refuse f) s = .next t ∧
      (∃ x ∈ t.custody.entries, x.tag = (tagAt f.payload 2) ∧ x.state = .held ∧ x.consignment = none ∧ x.wait =
        .none ∧ x.timer = none ∧ x.owed = none ∧ x.slot = e.slot ∧ x.hold = e.hold ∧ x.quarantine = e.quarantine) ∧
      (∀ m ∈ e.consignment, ∀ c ∈ findRecord m s, (∃ x ∈ c.entries, x.tag = some (tagAt f.payload 2) ∧ x.state =
        .active) →
        findRecord m t =
          (if c.state ≠ .opening ∧ ∀ x ∈ setFirst (fun x => decide (x.tag = some (tagAt f.payload 2) ∧ x.state =
            .active)) (.failed .refused) c.entries,
              x.state ≠ .waiting ∧ x.state ≠ .active then none
           else some { c with
            entries := (setFirst (fun x => decide (x.tag = some (tagAt f.payload 2) ∧ x.state =
              .active)) (.failed .refused) c.entries) })) ∧
      (∀ c ∈ s.consignments, e.consignment ≠ some c.number → c ∈ t.consignments) ∧
      (∀ x ∈ t.custody.entries, x.tag = (tagAt f.payload 2) ∨ ∃ y ∈ s.custody.entries, y.tag = x.tag ∧ y.state =
        x.state) ∧ t.scanner = { s.scanner with
            slots := (slotsAfter (closedByNotice e.consignment (fun x => decide (x.tag = some (tagAt f.payload 2) ∧
              x.state = .active)) (.failed .refused) s) s.role (s.scanner.slots)) } ∧
      (OffersSettled s → t.custody = { s.custody with
            entries := (custodyAfter (closedByNotice e.consignment (fun x => decide (x.tag =
              some (tagAt f.payload 2) ∧ x.state =
                .active)) (.failed .refused) s) (s.custody.entries.map fun x => if x.tag = tagAt f.payload 2 then
                  { e with
                state := .held,
                consignment := none,
                wait := .none,
                timer := none,
                owed := none } else x)) }) ∧ t = { s with
            custody := t.custody,
            consignments := t.consignments,
            scanner := t.scanner,
            line := t.line } ∧
      t.line = (queueReports ([{
            kind := .handoverRefused,
            number := f.src.toNat,
            consignment := (e.consignment.getD 0),
            tag := (tagAt f.payload 2),
            code := (byteAt f.payload 10).toNat }] ++ noticeReports e.consignment (fun x => decide (x.tag =
              some (tagAt f.payload 2) ∧ x.state = .active)) (.failed .refused) s) (heard f s)).line) ∧
    (∀ (s : State) (f : Frame), Accepted kindRefuse f s →
      ((byteAt f.payload 10).toNat < 1 ∨ 5 < (byteAt f.payload 10).toNat ∨ tagAt f.payload 2 = 0 ∨
        ∀ e ∈ findCustody (tagAt f.payload 2) s, e.peer ≠ some f.src.toNat ∨
          (e.state ≠ .offered ∧ e.state ≠ .suspended)) →
      exec (.refuse f) s = .next (heard f s)) ∧
    (∀ (s : State) (tag : Tag) (e : CustodyEntry), s.phase = .running → CustodyTagsDistinct s →
      RecordNumbersDistinct s → findCustody tag s = some e → e.state = .offered → e.timer.isSome = true →
      ∃ t, exec (.handoverTimerExpiry tag) s = .next t ∧
      (∃ x ∈ t.custody.entries, x.tag = tag ∧ x.state = .adrift ∧ x.owed = some .withdraw ∧ x.peer = e.peer ∧
        x.consignment = none ∧ x.timer = none ∧ x.slot = e.slot ∧ x.hold = e.hold ∧ x.quarantine = e.quarantine) ∧
      (∀ m ∈ e.consignment, ∀ c ∈ findRecord m s, (∃ x ∈ c.entries, x.tag = some tag ∧ x.state = .active) →
        findRecord m t =
          (if c.state ≠ .opening ∧ ∀ x ∈ setFirst (fun x => decide (x.tag = some tag ∧ x.state =
            .active)) (.failed .adrift) c.entries,
              x.state ≠ .waiting ∧ x.state ≠ .active then none
           else some { c with
            entries := (setFirst (fun x => decide (x.tag = some tag ∧ x.state =
              .active)) (.failed .adrift) c.entries) })) ∧
      (∀ c ∈ s.consignments, e.consignment ≠ some c.number → c ∈ t.consignments) ∧
      (∀ x ∈ t.custody.entries, x.tag = tag ∨ ∃ y ∈ s.custody.entries, y.tag = x.tag ∧ y.state = x.state) ∧
        t.scanner = { s.scanner with
            slots := (slotsAfter (closedByNotice e.consignment (fun x => decide (x.tag = some tag ∧ x.state =
              .active)) (.failed .adrift) s) s.role (s.scanner.slots)) } ∧
      (OffersSettled s → t.custody = { s.custody with
            entries := (custodyAfter (closedByNotice e.consignment (fun x => decide (x.tag = some tag ∧ x.state =
              .active)) (.failed .adrift) s) (s.custody.entries.map fun x => if x.tag = tag then { e with
                state := .adrift,
                consignment := none,
                wait := .none,
                timer := none,
                owed := some .withdraw } else x)) }) ∧ t = { s with
            custody := t.custody,
            consignments := t.consignments,
            scanner := t.scanner,
            line := t.line } ∧
      t.line = (queueReports ([{
            kind := .adrift,
            number := (e.peer.getD 0),
            consignment := (e.consignment.getD 0),
            tag := tag,
            code := 1 }] ++ noticeReports e.consignment (fun x => decide (x.tag = some tag ∧ x.state =
              .active)) (.failed .adrift) s) s).line) ∧
    (∀ (s : State) (tag : Tag), s.phase = .running → (∀ e ∈ findCustody tag s, e.state ≠ .offered ∨ e.timer = none) →
      exec (.handoverTimerExpiry tag) s = .next (s))

/-- From the peer of a TAKING entry: CLEARED makes it HELD with no peer and no timer; at the dock the first WAITING
entry of the tag in its OUTBOUND record becomes ACTIVE (the model's reading, log 30, as below); at a bay whose slot
is AWAITED with the tag the slot becomes RETURN_PENDING with the tag and the return window, any other slot with the
tag losing it (an OUT one becomes EMPTY with its number cleared: R83), and if the slot cannot take it the entry is
DISPUTED. LATE and WITHDRAW make it DISPUTED: number (also where no record has the entry: log 10), timer and owed
frame cleared, the first entry of the tag in progress in its record FAILED DISPUTED (log 30), a record left with
none in progress closed. WITHDRAW removes an EXPECTED entry with no report. In any other case the three frames are
ignored. LAPSE_TIMER_EXPIRY removes an EXPECTED entry with one EXPECTED_LAPSED report. CONFIRM_TIMER_EXPIRY of a
TAKING entry with a count below 3 adds 1 to it and owes TAKEN again; at 3 the entry is DISPUTED. Each DISPUTED
entry has its report with the number, the tag and the cause, NO_ANSWER, LATE, WITHDRAWN or SLOT, and the peer,
which is 0 for SLOT (log 23); where its record closes, the reports of the closing follow (logs 15, 49). Where the
record closes, at a bay its slots revert by R95's table, each custody entry with its number loses it, and a
RELEASED one that owes no CLEARED goes; every other slot and custody entry stays whole, and where nothing closes
all do. Without their timer the expiries change nothing. (R92, R120, R128, R142, R144, R145, R95, R149, R83, R135)
-/
def Obligations.TakerEntriesFollowClearedLateWithdrawAndTimers : Prop :=
    (∀ (s : State) (f : Frame) (e : CustodyEntry), Accepted kindCleared f s → s.role = .dock → OffersSettled s →
      RecordNumbersDistinct s → tagAt f.payload 2 ≠ 0 → findCustody (tagAt f.payload 2) s = some e → e.peer =
        some f.src.toNat → e.state = .taking →
      exec (.cleared f) s = .next ({ heard f s with
            custody := { s.custody with
                entries := (s.custody.entries.map fun x =>
              if x.tag = tagAt f.payload 2 then { e with state := .held, peer := none, timer := none, owed := none }
              else x) },
            consignments := (s.consignments.map fun c =>
              if e.consignment = some c.number ∧ c.direction = .outbound then
                { c with
                entries := (setFirst (fun x => decide (x.tag = some (tagAt f.payload 2) ∧ x.state =
                  .waiting)) .active c.entries) }
              else c) })) ∧
    (∀ (s : State) (f : Frame) (e : CustodyEntry) (n : Nat) (sl : Slot), Accepted kindCleared f s → s.role = .bay →
      OffersSettled s → tagAt f.payload 2 ≠ 0 → findCustody (tagAt f.payload 2) s = some e → e.peer =
        some f.src.toNat → e.state = .taking → e.slot = some n → findSlot n s = some sl → sl.state = .awaited →
          sl.expected = some (tagAt f.payload 2) →
      exec (.cleared f) s = .next ({ heard f s with
            custody := { s.custody with
                entries := (s.custody.entries.map fun x =>
              if x.tag = tagAt f.payload 2 then { e with state := .held, peer := none, timer := none, owed := none }
              else x) },
            scanner := { s.scanner with
                slots := (s.scanner.slots.map fun o => if o.number = n then
              { o with
                    state := .returnPending,
                    expected := none,
                    window := some s.cfg.returnWindow,
                    tag := some (tagAt f.payload 2) } else withoutTag (tagAt f.payload 2) o) } })) ∧
    (∀ (s : State) (f : Frame) (e : CustodyEntry), Accepted kindCleared f s → s.role = .bay → CustodyTagsDistinct s →
      RecordNumbersDistinct s → tagAt f.payload 2 ≠ 0 → findCustody (tagAt f.payload 2) s = some e → e.peer =
        some f.src.toNat → e.state = .taking → (∀ sl ∈ findSlot (e.slot.getD 0) s, sl.state ≠ .awaited ∨
          sl.expected ≠ some (tagAt f.payload 2)) →
      ∃ t, exec (.cleared f) s = .next t ∧
      (∃ x ∈ t.custody.entries, x.tag = (tagAt f.payload 2) ∧ x.state = .disputed ∧ x.consignment = none ∧ x.timer =
        none ∧ x.owed = none ∧ x.slot = e.slot ∧ x.hold = e.hold ∧ x.quarantine = e.quarantine) ∧
      (∀ m ∈ e.consignment, ∀ c ∈ findRecord m s, (∃ x ∈ c.entries, x.tag = some (tagAt f.payload 2) ∧
        (x.state = .waiting ∨ x.state = .active)) →
        findRecord m t =
          (if c.state ≠ .opening ∧ ∀ x ∈ setFirst (fun x => decide (x.tag = some (tagAt f.payload 2) ∧
            (x.state = .waiting ∨ x.state = .active))) (.failed .disputed) c.entries,
              x.state ≠ .waiting ∧ x.state ≠ .active then none
           else some { c with
            entries := (setFirst (fun x => decide (x.tag = some (tagAt f.payload 2) ∧
              (x.state = .waiting ∨ x.state = .active))) (.failed .disputed) c.entries) })) ∧
      (∀ c ∈ s.consignments, e.consignment ≠ some c.number → c ∈ t.consignments) ∧
      (∀ x ∈ t.custody.entries, x.tag = (tagAt f.payload 2) ∨ ∃ y ∈ s.custody.entries, y.tag = x.tag ∧ y.state =
        x.state) ∧ t.scanner = { s.scanner with
            slots := (slotsAfter (closedByNotice e.consignment (fun x => decide (x.tag = some (tagAt f.payload 2) ∧
              (x.state = .waiting ∨ x.state = .active))) (.failed .disputed) s) s.role (s.scanner.slots)) } ∧
      (OffersSettled s → t.custody = { s.custody with
            entries := (custodyAfter (closedByNotice e.consignment (fun x => decide (x.tag =
              some (tagAt f.payload 2) ∧ (x.state = .waiting ∨ x.state =
                .active))) (.failed .disputed) s) (s.custody.entries.map fun x => if x.tag = tagAt f.payload 2 then
                  { e with
                state := .disputed,
                peer := none,
                consignment := none,
                wait := .none,
                timer := none,
                owed := none } else x)) }) ∧ t = { s with
            custody := t.custody,
            consignments := t.consignments,
            scanner := t.scanner,
            line := t.line } ∧
      t.line = (queueReports ([{
            kind := .disputed,
            number := 0,
            consignment := (e.consignment.getD 0),
            tag := (tagAt f.payload 2),
            code := 4 }] ++ noticeReports e.consignment (fun x => decide (x.tag = some (tagAt f.payload 2) ∧
              (x.state = .waiting ∨ x.state = .active))) (.failed .disputed) s) (heard f s)).line) ∧
    (∀ (s : State) (f : Frame) (e : CustodyEntry), Accepted kindLate f s → CustodyTagsDistinct s →
      RecordNumbersDistinct s → tagAt f.payload 2 ≠ 0 → findCustody (tagAt f.payload 2) s = some e → e.peer =
        some f.src.toNat → e.state = .taking →
      ∃ t, exec (.late f) s = .next t ∧
      (∃ x ∈ t.custody.entries, x.tag = (tagAt f.payload 2) ∧ x.state = .disputed ∧ x.consignment = none ∧ x.timer =
        none ∧ x.owed = none ∧ x.slot = e.slot ∧ x.hold = e.hold ∧ x.quarantine = e.quarantine) ∧
      (∀ m ∈ e.consignment, ∀ c ∈ findRecord m s, (∃ x ∈ c.entries, x.tag = some (tagAt f.payload 2) ∧
        (x.state = .waiting ∨ x.state = .active)) →
        findRecord m t =
          (if c.state ≠ .opening ∧ ∀ x ∈ setFirst (fun x => decide (x.tag = some (tagAt f.payload 2) ∧
            (x.state = .waiting ∨ x.state = .active))) (.failed .disputed) c.entries,
              x.state ≠ .waiting ∧ x.state ≠ .active then none
           else some { c with
            entries := (setFirst (fun x => decide (x.tag = some (tagAt f.payload 2) ∧
              (x.state = .waiting ∨ x.state = .active))) (.failed .disputed) c.entries) })) ∧
      (∀ c ∈ s.consignments, e.consignment ≠ some c.number → c ∈ t.consignments) ∧
      (∀ x ∈ t.custody.entries, x.tag = (tagAt f.payload 2) ∨ ∃ y ∈ s.custody.entries, y.tag = x.tag ∧ y.state =
        x.state) ∧ t.scanner = { s.scanner with
            slots := (slotsAfter (closedByNotice e.consignment (fun x => decide (x.tag = some (tagAt f.payload 2) ∧
              (x.state = .waiting ∨ x.state = .active))) (.failed .disputed) s) s.role (s.scanner.slots)) } ∧
      (OffersSettled s → t.custody = { s.custody with
            entries := (custodyAfter (closedByNotice e.consignment (fun x => decide (x.tag =
              some (tagAt f.payload 2) ∧ (x.state = .waiting ∨ x.state =
                .active))) (.failed .disputed) s) (s.custody.entries.map fun x => if x.tag = tagAt f.payload 2 then
                  { e with
                state := .disputed,
                consignment := none,
                wait := .none,
                timer := none,
                owed := none } else x)) }) ∧ t = { s with
            custody := t.custody,
            consignments := t.consignments,
            scanner := t.scanner,
            line := t.line } ∧
      t.line = (queueReports ([{
            kind := .disputed,
            number := f.src.toNat,
            consignment := (e.consignment.getD 0),
            tag := (tagAt f.payload 2),
            code := 2 }] ++ noticeReports e.consignment (fun x => decide (x.tag = some (tagAt f.payload 2) ∧
              (x.state = .waiting ∨ x.state = .active))) (.failed .disputed) s) (heard f s)).line) ∧
    (∀ (s : State) (f : Frame) (e : CustodyEntry), Accepted kindWithdraw f s → CustodyTagsDistinct s →
      RecordNumbersDistinct s → tagAt f.payload 2 ≠ 0 → findCustody (tagAt f.payload 2) s = some e → e.peer =
        some f.src.toNat → e.state = .taking →
      ∃ t, exec (.withdraw f) s = .next t ∧
      (∃ x ∈ t.custody.entries, x.tag = (tagAt f.payload 2) ∧ x.state = .disputed ∧ x.consignment = none ∧ x.timer =
        none ∧ x.owed = none ∧ x.slot = e.slot ∧ x.hold = e.hold ∧ x.quarantine = e.quarantine) ∧
      (∀ m ∈ e.consignment, ∀ c ∈ findRecord m s, (∃ x ∈ c.entries, x.tag = some (tagAt f.payload 2) ∧
        (x.state = .waiting ∨ x.state = .active)) →
        findRecord m t =
          (if c.state ≠ .opening ∧ ∀ x ∈ setFirst (fun x => decide (x.tag = some (tagAt f.payload 2) ∧
            (x.state = .waiting ∨ x.state = .active))) (.failed .disputed) c.entries,
              x.state ≠ .waiting ∧ x.state ≠ .active then none
           else some { c with
            entries := (setFirst (fun x => decide (x.tag = some (tagAt f.payload 2) ∧
              (x.state = .waiting ∨ x.state = .active))) (.failed .disputed) c.entries) })) ∧
      (∀ c ∈ s.consignments, e.consignment ≠ some c.number → c ∈ t.consignments) ∧
      (∀ x ∈ t.custody.entries, x.tag = (tagAt f.payload 2) ∨ ∃ y ∈ s.custody.entries, y.tag = x.tag ∧ y.state =
        x.state) ∧ t.scanner = { s.scanner with
            slots := (slotsAfter (closedByNotice e.consignment (fun x => decide (x.tag = some (tagAt f.payload 2) ∧
              (x.state = .waiting ∨ x.state = .active))) (.failed .disputed) s) s.role (s.scanner.slots)) } ∧
      (OffersSettled s → t.custody = { s.custody with
            entries := (custodyAfter (closedByNotice e.consignment (fun x => decide (x.tag =
              some (tagAt f.payload 2) ∧ (x.state = .waiting ∨ x.state =
                .active))) (.failed .disputed) s) (s.custody.entries.map fun x => if x.tag = tagAt f.payload 2 then
                  { e with
                state := .disputed,
                consignment := none,
                wait := .none,
                timer := none,
                owed := none } else x)) }) ∧ t = { s with
            custody := t.custody,
            consignments := t.consignments,
            scanner := t.scanner,
            line := t.line } ∧
      t.line = (queueReports ([{
            kind := .disputed,
            number := f.src.toNat,
            consignment := (e.consignment.getD 0),
            tag := (tagAt f.payload 2),
            code := 3 }] ++ noticeReports e.consignment (fun x => decide (x.tag = some (tagAt f.payload 2) ∧
              (x.state = .waiting ∨ x.state = .active))) (.failed .disputed) s) (heard f s)).line) ∧
    (∀ (s : State) (f : Frame) (e : CustodyEntry), Accepted kindWithdraw f s → tagAt f.payload 2 ≠ 0 →
      findCustody (tagAt f.payload 2) s = some e → e.peer = some f.src.toNat → e.state = .expected →
      exec (.withdraw f) s = .next ({ heard f s with
            custody := { s.custody with
                entries := s.custody.entries.filter fun x => x.tag != tagAt f.payload 2 } })) ∧
    (∀ (s : State) (f : Frame), Accepted kindCleared f s →
      (tagAt f.payload 2 = 0 ∨ ∀ e ∈ findCustody (tagAt f.payload 2) s, e.peer ≠ some f.src.toNat ∨
        e.state ≠ .taking) →
      exec (.cleared f) s = .next (heard f s)) ∧
    (∀ (s : State) (f : Frame), Accepted kindLate f s →
      (tagAt f.payload 2 = 0 ∨ ∀ e ∈ findCustody (tagAt f.payload 2) s, e.peer ≠ some f.src.toNat ∨
        e.state ≠ .taking) →
      exec (.late f) s = .next (heard f s)) ∧
    (∀ (s : State) (f : Frame), Accepted kindWithdraw f s →
      (tagAt f.payload 2 = 0 ∨ ∀ e ∈ findCustody (tagAt f.payload 2) s, e.peer ≠ some f.src.toNat ∨
        (e.state ≠ .taking ∧ e.state ≠ .expected)) →
      exec (.withdraw f) s = .next (heard f s)) ∧
    (∀ (s : State) (tag : Tag) (e : CustodyEntry), s.phase = .running → findCustody tag s = some e → e.state =
      .expected → e.timer.isSome = true →
      exec (.lapseTimerExpiry tag) s = .next (queueReport
          {
            kind := .expectedLapsed,
            number := e.peer.getD 0,
            consignment := e.consignment.getD 0,
            tag := e.tag,
            code := 0 }
          { s with
            custody := { s.custody with entries := s.custody.entries.filter fun x => x.tag != tag } })) ∧
    (∀ (s : State) (tag : Tag), s.phase = .running → (∀ e ∈ findCustody tag s, e.state ≠ .expected ∨ e.timer = none) →

      exec (.lapseTimerExpiry tag) s = .next (s)) ∧
    (∀ (s : State) (tag : Tag) (e : CustodyEntry), s.phase = .running → findCustody tag s = some e → e.state =
      .taking → e.timer.isSome = true → e.attempts < 3 →
      exec (.confirmTimerExpiry tag) s = .next ({ s with
            custody := { s.custody with
                entries := (s.custody.entries.map fun x =>
            if x.tag = tag then { x with timer := none, attempts := x.attempts + 1, owed := some .taken } else
              x) } })) ∧
    (∀ (s : State) (tag : Tag) (e : CustodyEntry), s.phase = .running → CustodyTagsDistinct s →
      RecordNumbersDistinct s → findCustody tag s = some e → e.state = .taking → e.timer.isSome = true →
        3 ≤ e.attempts →
      ∃ t, exec (.confirmTimerExpiry tag) s = .next t ∧
      (∃ x ∈ t.custody.entries, x.tag = tag ∧ x.state = .disputed ∧ x.consignment = none ∧ x.timer = none ∧ x.owed =
        none ∧ x.slot = e.slot ∧ x.hold = e.hold ∧ x.quarantine = e.quarantine) ∧
      (∀ m ∈ e.consignment, ∀ c ∈ findRecord m s, (∃ x ∈ c.entries, x.tag = some tag ∧
        (x.state = .waiting ∨ x.state = .active)) →
        findRecord m t =
          (if c.state ≠ .opening ∧ ∀ x ∈ setFirst (fun x => decide (x.tag = some tag ∧
            (x.state = .waiting ∨ x.state = .active))) (.failed .disputed) c.entries,
              x.state ≠ .waiting ∧ x.state ≠ .active then none
           else some { c with
            entries := (setFirst (fun x => decide (x.tag = some tag ∧
              (x.state = .waiting ∨ x.state = .active))) (.failed .disputed) c.entries) })) ∧
      (∀ c ∈ s.consignments, e.consignment ≠ some c.number → c ∈ t.consignments) ∧
      (∀ x ∈ t.custody.entries, x.tag = tag ∨ ∃ y ∈ s.custody.entries, y.tag = x.tag ∧ y.state = x.state) ∧
        t.scanner = { s.scanner with
            slots := (slotsAfter (closedByNotice e.consignment (fun x => decide (x.tag = some tag ∧
              (x.state = .waiting ∨ x.state = .active))) (.failed .disputed) s) s.role (s.scanner.slots)) } ∧
      (OffersSettled s → t.custody = { s.custody with
            entries := (custodyAfter (closedByNotice e.consignment (fun x => decide (x.tag = some tag ∧
              (x.state = .waiting ∨ x.state =
                .active))) (.failed .disputed) s) (s.custody.entries.map fun x => if x.tag = tag then { e with
                state := .disputed,
                consignment := none,
                wait := .none,
                timer := none,
                owed := none } else x)) }) ∧ t = { s with
            custody := t.custody,
            consignments := t.consignments,
            scanner := t.scanner,
            line := t.line } ∧
      t.line = (queueReports ([{
            kind := .disputed,
            number := (e.peer.getD 0),
            consignment := (e.consignment.getD 0),
            tag := tag,
            code := 1 }] ++ noticeReports e.consignment (fun x => decide (x.tag = some tag ∧
              (x.state = .waiting ∨ x.state = .active))) (.failed .disputed) s) s).line) ∧
    (∀ (s : State) (tag : Tag), s.phase = .running → (∀ e ∈ findCustody tag s, e.state ≠ .taking ∨ e.timer = none) →
      exec (.confirmTimerExpiry tag) s = .next (s))

/-- RESOLVE KEEP of an ADRIFT or DISPUTED entry makes it HELD with peer, number, wait reason, timer, attempt count
and owed frame cleared, and slot, hold and flag kept; a numberless HELD entry it leaves as it is (log 37); for
either, at a bay the first slot AWAITED (log 38) with the tag becomes RETURN_PENDING with the return window, any
other slot that has the tag losing it (an OUT one becomes EMPTY with its number cleared: R83). DROP removes the
entry. A RESOLVE of another action, or for no such entry, queues COMMAND_REFUSED with the tag and changes nothing
else. A QUERY of one of the six subjects takes the newest of the two places when one is free, and is dropped
otherwise. COMMAND_INVALID queues COMMAND_REFUSED with the code, whatever it carries (log 17), with slot 0 and tag
0 for a wrong length (log 14). From a source that is not the configured console the kinds of console frames only
mark their source heard. (R92, R148, R169, R180, R191, R83) -/
def Obligations.ResolveQueriesAndInvalidCommandsFromTheConsole : Prop :=
    (∀ (s : State) (f : Frame) (e : CustodyEntry), AcceptedCommand 8 f s → byteAt f.payload 8 = 1 →
      tagAt f.payload 0 ≠ 0 → findCustody (tagAt f.payload 0) s = some e →
        (e.state = .adrift ∨ e.state = .disputed ∨ (e.state = .held ∧ e.consignment = none)) →
          (s.role = .bay → ∀ o ∈ s.scanner.slots, o.state ≠ .awaited ∨ o.expected ≠ some (tagAt f.payload 0)) →
      exec (.resolve f) s = .next ({ heard f s with
            custody := { s.custody with
                entries := (s.custody.entries.map fun x =>
            if x.tag = tagAt f.payload 0 ∧ x.state ≠ .held then
              { x with
                    state := .held,
                    peer := none,
                    consignment := none,
                    wait := .none,
                    timer := none,
                    attempts := 0,
                    owed := none } else x) } })) ∧
    (∀ (s : State) (f : Frame) (e : CustodyEntry) (sl : Slot), AcceptedCommand 8 f s → byteAt f.payload 8 = 1 →
      tagAt f.payload 0 ≠ 0 → findCustody (tagAt f.payload 0) s = some e →
        (e.state = .adrift ∨ e.state = .disputed ∨ (e.state = .held ∧ e.consignment = none)) → s.role = .bay →
          (s.scanner.slots.map fun o => o.number).Nodup →
            (s.scanner.slots.find? (fun o => decide (o.state = .awaited ∧ o.expected = some (tagAt f.payload 0))) =
              some sl) →
      exec (.resolve f) s = .next ({ heard f s with
            custody := { s.custody with
                entries := (s.custody.entries.map fun x =>
              if x.tag = tagAt f.payload 0 ∧ x.state ≠ .held then
                { x with
                    state := .held,
                    peer := none,
                    consignment := none,
                    wait := .none,
                    timer := none,
                    attempts := 0,
                    owed := none } else x) },
            scanner := { s.scanner with
                slots := (s.scanner.slots.map fun o => if o.number = sl.number then
              { o with
                    state := .returnPending,
                    expected := none,
                    window := some s.cfg.returnWindow,
                    tag := some (tagAt f.payload 0) } else withoutTag (tagAt f.payload 0) o) } })) ∧
    (∀ (s : State) (f : Frame) (e : CustodyEntry), AcceptedCommand 8 f s → byteAt f.payload 8 = 2 →
      tagAt f.payload 0 ≠ 0 → findCustody (tagAt f.payload 0) s = some e →
        (e.state = .adrift ∨ e.state = .disputed ∨ (e.state = .held ∧ e.consignment = none)) →
      exec (.resolve f) s = .next ({ heard f s with
            custody := { s.custody with
                entries := s.custody.entries.filter fun x => x.tag != tagAt f.payload 0 } })) ∧
    (∀ (s : State) (f : Frame), AcceptedCommand 8 f s →
      ((byteAt f.payload 8 ≠ 1 ∧ byteAt f.payload 8 ≠ 2) ∨ tagAt f.payload 0 = 0 ∨
        ∀ e ∈ findCustody (tagAt f.payload 0) s, e.state ≠ .adrift ∧ e.state ≠ .disputed ∧
          (e.state ≠ .held ∨ e.consignment ≠ none)) →
      exec (.resolve f) s =
        .next (queueReport { kind := .commandRefused, tag := tagAt f.payload 0, code := 8 } (heard f s))) ∧
    (∀ (s : State) (f : Frame) (q : Subject), Accepted kindQuery f s → FromConsole f s → byteAt f.payload 0 =
      toByte q.code →
      exec (.query f) s = .next (if s.line.answers.length < 2 then
          { heard f s with
            line := { (heard f s).line with
                answers := (s.line.answers ++
              [{
                    subject := q,
                    start := (byteAt f.payload 1).toNat,
                    consignment := wordAt f.payload 2,
                    source := f.src.toNat }]) } }
        else heard f s)) ∧
    (∀ (s : State) (f : Frame), Accepted kindQuery f s → FromConsole f s →
      (byteAt f.payload 0 = 0 ∨ 6 < (byteAt f.payload 0).toNat) →
      exec (.query f) s = .next (heard f s)) ∧
    (∀ (s : State) (f : Frame), Accepted kindCommand f s → FromConsole f s →
      exec (.commandInvalid f) s = .next (queueReport
          {
            kind := .commandRefused,
            code := (byteAt f.payload 0).toNat,
            number := (if byteAt f.payload 0 = 7 ∧ f.payload.length = 2 then (byteAt f.payload 1).toNat else 0),
            tag := (if byteAt f.payload 0 = 8 ∧ f.payload.length = 10 then tagAt f.payload 1 else 0) }
          (heard f s))) ∧
    (∀ (s : State) (f : Frame), Accepted kindConsign f s → ¬ FromConsole f s →
      exec (.consign f) s = .next (heard f s)) ∧
    (∀ (s : State) (f : Frame), Accepted kindEntry f s → ¬ FromConsole f s →
      exec (.entry f) s = .next (heard f s)) ∧
    (∀ (s : State) (f : Frame), Accepted kindCancel f s → ¬ FromConsole f s →
      exec (.cancel f) s = .next (heard f s)) ∧
    (∀ (s : State) (f : Frame), Accepted kindQuery f s → ¬ FromConsole f s →
      exec (.query f) s = .next (heard f s)) ∧
    (∀ (s : State) (f : Frame), Accepted kindCommand f s → ¬ FromConsole f s →
      exec (.commandInvalid f) s = .next (heard f s)) ∧
    (∀ (s : State) (f : Frame), Accepted kindCommand (commandFrame 1 f) s → ¬ FromConsole f s →
      exec (.fireReset f) s = .next (heard f s)) ∧
    (∀ (s : State) (f : Frame), Accepted kindCommand (commandFrame 2 f) s → ¬ FromConsole f s →
      exec (.silence f) s = .next (heard f s)) ∧
    (∀ (s : State) (f : Frame), Accepted kindCommand (commandFrame 3 f) s → ¬ FromConsole f s →
      exec (.testStart f) s = .next (heard f s)) ∧
    (∀ (s : State) (f : Frame), Accepted kindCommand (commandFrame 4 f) s → ¬ FromConsole f s →
      exec (.testEnd f) s = .next (heard f s)) ∧
    (∀ (s : State) (f : Frame), Accepted kindCommand (commandFrame 5 f) s → ¬ FromConsole f s →
      exec (.isolateOn f) s = .next (heard f s)) ∧
    (∀ (s : State) (f : Frame), Accepted kindCommand (commandFrame 6 f) s → ¬ FromConsole f s →
      exec (.isolateOff f) s = .next (heard f s)) ∧
    (∀ (s : State) (f : Frame), Accepted kindCommand (commandFrame 7 f) s → ¬ FromConsole f s →
      exec (.clearQuarantine f) s = .next (heard f s)) ∧
    (∀ (s : State) (f : Frame), Accepted kindCommand (commandFrame 8 f) s → ¬ FromConsole f s →
      exec (.resolve f) s = .next (heard f s)) ∧
    (∀ (s : State) (f : Frame), Accepted kindCommand (commandFrame 9 f) s → ¬ FromConsole f s →
      exec (.restart f) s = .next (heard f s))

/-- The station waits for its image with uptime 0. The fire record is empty in STABILIZING, isolation kept; the
climate state is STARTING with history and episode kept, an OPEN episode closed; the allotter is OFF and forced;
slots in the middle of a movement revert, numbers, windows and expected tags cleared, tags and holds kept; the
consignment table is empty; EXPECTED, TAKING and RELEASED custody entries go, OFFERED and SUSPENDED ones become
ADRIFT with WITHDRAW owed, HELD and LOADED ones HELD with no peer, ADRIFT and DISPUTED ones stay, all with no
number; the peer table is unheard, the queues hold only what the restart itself queues: one ALARM where a reported
fire value changes, so none from STABILIZING with no own alarm or abort and no manual flag, a STATE of a
dehumidifier that ran, and one ADRIFT report with cause RESTART for each OFFERED or SUSPENDED entry, in the order
of the list, with the number and the peer as they stood before (log 39), queued or dropped by the console number of
the old image (the model's choice, log 46); beyond 8 the oldest are lost and the flag is set (R179).
RELEASE_ISOLATED, CONFIG_DEFAULT and MAINS_FAIL keep their values, every other trouble is clear. The straps and the
configured values stand until the image is read. (R18, R45, R65, R78, R98, R110, R130, R151, R164, R182, R186, R43) -/
def Obligations.AcceptedRestartGivesEveryBlockItsRestartValues : Prop :=
    ∀ (s : State) (f : Frame), AcceptedCommand 9 f s →
      (s.fire.state ≠ .preDischarge ∧ s.fire.state ≠ .held ∧ s.fire.state ≠ .discharged) →
      ∃ t, exec (.restart f) s = .next t ∧
      t.phase = .restarting ∧ t.uptime = 0 ∧ t.own = s.own ∧ t.role = s.role ∧ t.cfg = s.cfg ∧
      t.fire = { State.reset.fire with isolated := s.fire.isolated } ∧
      t.climate = { State.reset.climate with
            history := s.climate.history,
            episode := (if s.climate.episode.status = .opened then { s.climate.episode with status := .closed }
          else s.climate.episode) } ∧
      t.allot = State.reset.allot ∧ t.hold = State.reset.hold ∧ t.consignments = [] ∧
      t.reader = { State.reset.reader with waiting := true } ∧
      t.sup = { State.reset.sup with
            inputs := (s.cfg.inputTypes.map fun ty =>
        {
                settled := .unsettled,
                candidate := none,
                stage := (if ty = .detector ∨ ty = .pressure then .withheld else .ready) }) } ∧
      t.scanner.slots = (s.scanner.slots.map fun sl =>
        { sl with
            candidate := false,
            consignment := none,
            state := (if sl.state = .pullPending then .occupied
            else if sl.state = .pulled then .unexpectedRemoval
            else if sl.state = .returnPending then .out
            else if sl.state = .awaited then (if sl.tag.isSome then .out else .empty)
            else if sl.state = .unexpectedPresence .awaited then
              .unexpectedPresence (if sl.tag.isSome then .out else .empty)
            else sl.state),
            window := (if sl.state = .pulled ∨ sl.state = .returnPending then none else sl.window),
            expected := (if sl.state = .awaited ∨ sl.state = .unexpectedPresence .awaited then none else
              sl.expected) }) ∧
      t.custody.replies = [] ∧ t.custody.suspended = false ∧
      t.custody.entries =
        ((s.custody.entries.filter fun e =>
            decide (e.state ≠ .expected ∧ e.state ≠ .taking ∧ e.state ≠ .released)).map fun e =>
          { e with
            consignment := none,
            wait := .none,
            timer := none,
            attempts := 0,
            state := (if e.state = .offered ∨ e.state = .suspended then .adrift
              else if e.state = .loaded then .held else e.state),
            peer := if e.state = .held ∨ e.state = .loaded then none else e.peer,
            owed := (if e.state = .offered ∨ e.state = .suspended then some .withdraw else none) }) ∧
      (∀ p ∈ t.line.peers, p = {
            heard := false,
            fresh := false,
            age := 3,
            awaiting := false,
            fire := none,
            state := none }) ∧
      t.line.alarmQueued = decide (s.fire.state ≠ .stabilizing ∨ ownAlarmCount s ≠ 0 ∨ ownAbortActive s = true ∨
        s.fire.manual = true) ∧ t.line.stateQueued = s.allot.running ∧
      t.line.answers = [] ∧ t.line.handoverRetry = none ∧ t.line.answerRetry = none ∧ t.line.reportRetry = none ∧
      t.line.tx = none ∧ t.line.statusTimer = none ∧ t.line.conflictTimer = none ∧
      t.line.reports = (if reportsGoOut s = true then ((s.custody.entries.filter fun e => decide (e.state = .offered ∨
        e.state = .suspended)).map fun e => ({
            kind := .adrift,
            number := e.peer.getD 0,
            consignment := e.consignment.getD 0,
            tag := e.tag,
            code := 2 } : Report)).drop (((s.custody.entries.filter fun e => decide (e.state = .offered ∨ e.state =
              .suspended)).map fun e => ({
            kind := .adrift,
            number := e.peer.getD 0,
            consignment := e.consignment.getD 0,
            tag := e.tag,
            code := 2 } : Report)).length - 8) else []) ∧
      t.line.reportsLost = (reportsGoOut s && decide (8 < ((s.custody.entries.filter fun e => decide (e.state =
        .offered ∨ e.state = .suspended)).map fun e => ({
            kind := .adrift,
            number := e.peer.getD 0,
            consignment := e.consignment.getD 0,
            tag := e.tag,
            code := 2 } : Report)).length)) ∧
      (∀ x ∈ allTroubles, troubleActive x t =
        (troubleActive x s && (x == .releaseIsolated || x == .configDefault || x == .mainsFail))) ∧
      t.out.reported = s.out.reported ∧ t.out.doorOpen = none ∧ t.out.doorForced = none ∧
      t.out.mainsFail = s.out.mainsFail ∧ t.out.mainsClear = s.out.mainsClear

/-- For every command that brings a complete frame: while the station drives the line nothing is received, and a
discard or a gap changes nothing either (log 19); a bad check, or a length its kind does not allow with a source
other than the own number, raises the discard count by 1, ends the reception and changes nothing else but
LINE_NOISY and its report; a good check from the own number sets STATION_CONFLICT and starts the conflict timer,
uncounted (at an own number of 0 or 31 too: log 22); a source outside 1 to 30, or an invalid strap, changes only
the reception; a valid frame addressed to another station only marks its source heard. The abandonments (framing
error, marked character, a length above 48, an inter-character gap) count too; LINE_NOISY is set when the count
becomes exactly 8, and not by a later discard of the window (log 9); a marked character leaves the new frame in
progress. A valid frame that the row VALID_FRAME_DROPPED carries marks its source heard, whatever its kind (log
18). CONFLICT_TIMER_EXPIRY with the timer removes it and clears STATION_CONFLICT. (R165, R166, R168, R176, R177) -/
def Obligations.DiscardedAndDroppedFramesAreCountedOrMarked : Prop :=
    (∀ (c : Instr) (kind : Byte) (f : Frame) (s : State), frameOf c = some (kind, f) → s.phase = .running →
      (s.line.tx.isSome = true → exec c s = .next s) ∧
      (s.line.tx = none →
        if checkGood kind f = false ∨ (f.src.toNat ≠ ownNumber s ∧ lengthAllowed kind f.payload.length = false) then
          ∃ t, exec c s = .next t ∧
            OnlyReports { s.line with receiving := false, discards := s.line.discards + 1 } t.line ∧
            (∀ x ∈ allTroubles, troubleActive x t =
              if x = .lineNoisy ∧ s.line.discards + 1 = 8 then true else troubleActive x s) ∧
            t = { s with
            line := t.line,
            out := { s.out with active := t.out.active, reported := t.out.reported } }
        else if f.src.toNat = ownNumber s then
          ∃ t, exec c s = .next t ∧ troubleActive .stationConflict t = true ∧
            OnlyReports { s.line with
            receiving := false,
            conflictTimer := some s.cfg.statusInterval } t.line ∧
            (∀ x ∈ allTroubles, x ≠ .stationConflict → troubleActive x t = troubleActive x s) ∧
            t = { s with
            line := t.line,
            out := { s.out with active := t.out.active, reported := t.out.reported } }
        else if f.src.toNat < 1 ∨ 30 < f.src.toNat ∨ troubleActive .strapInvalid s = true then
          exec c s = .next { s with line := { s.line with receiving := false } }
        else if f.dst.toNat ≠ 0 ∧ f.dst.toNat ≠ ownNumber s then exec c s = .next (heard f s)
        else True)) ∧
    (∀ (s : State), s.phase = .running → s.line.tx = none →
      ∃ t, exec (.frameGapTimeout) s = .next t ∧
      t.line.discards = s.line.discards + 1 ∧
      (∀ x ∈ allTroubles, troubleActive x t =
        if x = .lineNoisy ∧ s.line.discards + 1 = 8 then true else troubleActive x s) ∧
      t.line = { s.line with
            receiving := false,
            discards := t.line.discards,
            reports := t.line.reports,
            reportsLost := t.line.reportsLost,
            droppedSinceTake := t.line.droppedSinceTake } ∧
      t = { s with
            line := t.line,
            out := { s.out with active := t.out.active, reported := t.out.reported } }) ∧
    (∀ (s : State), s.phase = .running → s.line.tx = none →
      ∃ t, exec (.discardedFrame .framingError) s = .next t ∧
      t.line.discards = s.line.discards + 1 ∧
      (∀ x ∈ allTroubles, troubleActive x t =
        if x = .lineNoisy ∧ s.line.discards + 1 = 8 then true else troubleActive x s) ∧
      t.line = { s.line with
            receiving := false,
            discards := t.line.discards,
            reports := t.line.reports,
            reportsLost := t.line.reportsLost,
            droppedSinceTake := t.line.droppedSinceTake } ∧
      t = { s with
            line := t.line,
            out := { s.out with active := t.out.active, reported := t.out.reported } }) ∧
    (∀ (s : State), s.phase = .running → s.line.tx = none →
      ∃ t, exec (.discardedFrame .markedCharacter) s = .next t ∧
      t.line.discards = s.line.discards + 1 ∧
      (∀ x ∈ allTroubles, troubleActive x t =
        if x = .lineNoisy ∧ s.line.discards + 1 = 8 then true else troubleActive x s) ∧
      t.line = { s.line with
            receiving := true,
            discards := t.line.discards,
            reports := t.line.reports,
            reportsLost := t.line.reportsLost,
            droppedSinceTake := t.line.droppedSinceTake } ∧
      t = { s with
            line := t.line,
            out := { s.out with active := t.out.active, reported := t.out.reported } }) ∧
    (∀ (s : State), s.phase = .running → s.line.tx = none →
      ∃ t, exec (.discardedFrame .lengthAbove48) s = .next t ∧
      t.line.discards = s.line.discards + 1 ∧
      (∀ x ∈ allTroubles, troubleActive x t =
        if x = .lineNoisy ∧ s.line.discards + 1 = 8 then true else troubleActive x s) ∧
      t.line = { s.line with
            receiving := false,
            discards := t.line.discards,
            reports := t.line.reports,
            reportsLost := t.line.reportsLost,
            droppedSinceTake := t.line.droppedSinceTake } ∧
      t = { s with
            line := t.line,
            out := { s.out with active := t.out.active, reported := t.out.reported } }) ∧
    (∀ (s : State) (kind : Byte) (f : Frame), s.phase = .running → s.line.tx = none → troubleActive .strapInvalid s =
      false → checkGood kind f = true → f.src.toNat ≠ ownNumber s → lengthAllowed kind f.payload.length = true →
        (1 ≤ f.src.toNat ∧ f.src.toNat ≤ 30) →
      exec (.validFrameDropped kind f) s = .next (heard f s)) ∧
    (∀ (s : State), s.phase = .running → s.line.conflictTimer.isSome = true →
      ∃ t, exec (.conflictTimerExpiry) s = .next t ∧
      troubleActive .stationConflict t = false ∧ t.line.conflictTimer = none ∧
      (∀ x ∈ allTroubles, x ≠ .stationConflict → troubleActive x t = troubleActive x s) ∧
      OnlyReports { s.line with conflictTimer := none } t.line ∧ t = { s with
            line := t.line,
            out := { s.out with active := t.out.active, reported := t.out.reported } }) ∧
    (∀ (s : State), s.phase = .running → s.line.conflictTimer = none →
      exec (.conflictTimerExpiry) s = .next (s)) ∧
    (∀ (s : State), s.phase = .running → s.line.tx.isSome = true →
      exec (.frameGapTimeout) s = .next (s)) ∧
    (∀ (s : State) (cause : DiscardCause), s.phase = .running → s.line.tx.isSome = true →
      exec (.discardedFrame cause) s = .next (s))

/-- READBACK_FAILURE returns the frame on the line to its class (a slot mark, or the retry place with the frame as
built), counts the mismatch and sets LINE_NOISY when the count becomes exactly 16 (log 9). FRAME_SENT frees the
transmitter, sets the mismatch count to 0 and, for a STATE that carried it, clears the reports-lost flag unless a
report was dropped since. LINE_STUCK_SET sets LINE_STUCK first, with its TROUBLE_SET (R187; before any of
LINE_NOISY: log 15), then counts a frame being received and returns a frame being sent; LINE_NOISY is set by the
8th discard and the 16th mismatch exactly (log 9). LINE_STUCK_CLEAR clears it: every heard peer is stale with age 3
and awaits a STATE. STATUS_TIMER_EXPIRY reloads the timer, queues a STATE, raises the age of each fresh peer, stale
at 3, and closes the window: the discard count is 0, the mark clear, and LINE_NOISY clear if the window had
neither. (R170, R171, R174, R175, R176, R178, R179, R187) -/
def Obligations.ReadbackStuckLineAndStatusTimerActAsStated : Prop :=
    (∀ (s : State) (x : Transmission), s.phase = .running → s.line.tx = some x →
      ∃ t, exec (.readbackFailure) s = .next t ∧
      t.line.tx = none ∧ t.line.mismatches = s.line.mismatches + 1 ∧ t.line.windowMismatch = true ∧
      t.line.alarmQueued = (s.line.alarmQueued || x.cls == .alarm) ∧
      t.line.stateQueued = (s.line.stateQueued || x.cls == .state) ∧
      t.line.handoverRetry = (if x.cls = .handover then some x.sent else s.line.handoverRetry) ∧
      t.line.answerRetry = (if x.cls = .answer then some x.sent else s.line.answerRetry) ∧
      t.line.reportRetry = (if x.cls = .report then some x.sent else s.line.reportRetry) ∧
      (∀ y ∈ allTroubles, troubleActive y t =
        if y = .lineNoisy ∧ s.line.mismatches + 1 = 16 then true else troubleActive y s) ∧
      t.line.peers = s.line.peers ∧ t.line.discards = s.line.discards ∧ t = { s with
            line := t.line,
            out := { s.out with active := t.out.active, reported := t.out.reported } }) ∧
    (∀ (s : State), s.phase = .running → s.line.tx = none →
      exec (.readbackFailure) s = .next (s)) ∧
    (∀ (s : State) (x : Transmission), s.phase = .running → s.line.tx = some x →
      exec (.frameSent) s = .next ({ s with
            line := { s.line with
                tx := none,
                mismatches := 0,
                reportsLost := (if x.carriesLost = true ∧ s.line.droppedSinceTake = false then false else
                  s.line.reportsLost) } })) ∧
    (∀ (s : State), s.phase = .running → s.line.tx = none →
      exec (.frameSent) s = .next (s)) ∧
    (∀ (s : State) (r : Bool), s.phase = .running →
      ∃ t, exec (.lineStuckSet r) s = .next t ∧
      troubleActive .lineStuck t = true ∧ t.line.tx = none ∧
      t.line.discards = s.line.discards + (if r = true ∨ s.line.receiving = true then 1 else 0) ∧
      t.line.receiving = false ∧ t.line.peers = s.line.peers ∧
      (∀ x ∈ s.line.tx, t.line.tx = none ∧ t.line.mismatches = s.line.mismatches + 1 ∧ t.line.windowMismatch = true ∧
        t.line.alarmQueued = (s.line.alarmQueued || x.cls == .alarm) ∧ t.line.stateQueued =
          (s.line.stateQueued || x.cls == .state) ∧ t.line.handoverRetry =
            (if x.cls = .handover then some x.sent else s.line.handoverRetry) ∧ t.line.answerRetry =
              (if x.cls = .answer then some x.sent else s.line.answerRetry) ∧ t.line.reportRetry =
                (if x.cls = .report then some x.sent else s.line.reportRetry)) ∧
      (s.line.tx = none → t.line.mismatches = s.line.mismatches ∧ t.line.alarmQueued = s.line.alarmQueued ∧
        t.line.stateQueued = s.line.stateQueued) ∧
      (∀ y ∈ allTroubles, y ≠ .lineStuck → y ≠ .lineNoisy → troubleActive y t = troubleActive y s) ∧
      t = { s with
            line := t.line,
            out := { s.out with active := t.out.active, reported := t.out.reported } } ∧
      (s.fire.state ≠ .stabilizing → troubleActive .lineStuck s = false → reportsGoOut s = true →
        s.line.reports.length ≤ 5 → t.line.reports[s.line.reports.length]? =
          some { kind := .troubleSet, code := 18 }) ∧
      troubleActive .lineNoisy t =
        (troubleActive .lineNoisy s || ((r || s.line.receiving) && decide (s.line.discards + 1 = 8)) ||
          (s.line.tx.isSome && decide (s.line.mismatches + 1 = 16)))) ∧
    (∀ (s : State), s.phase = .running → troubleActive .lineStuck s = true →
      ∃ t, exec (.lineStuckClear) s = .next t ∧
      troubleActive .lineStuck t = false ∧
      t.line.peers = (s.line.peers.map fun p => if p.heard then
        { p with fresh := false, age := 3, awaiting := true } else p) ∧
      (∀ y ∈ allTroubles, y ≠ .lineStuck → troubleActive y t = troubleActive y s) ∧
      t.cfg = s.cfg ∧ t.sup = s.sup ∧ t.reader = s.reader ∧ t.consignments = s.consignments ∧
      t.fire.latches = s.fire.latches ∧ t.fire.isolated = s.fire.isolated ∧ t.fire.ownAbort = s.fire.ownAbort) ∧
    (∀ (s : State), s.phase = .running → troubleActive .lineStuck s = false →
      exec (.lineStuckClear) s = .next (s)) ∧
    (∀ (s : State), s.phase = .running →
      ∃ t, exec (.statusTimerExpiry) s = .next t ∧
      t.line.statusTimer = some s.cfg.statusInterval ∧ t.line.stateQueued = true ∧
      t.line.peers = (s.line.peers.map fun p =>
        if p.fresh = false then p else if p.age + 1 < 3 then { p with age := p.age + 1 }
        else { p with age := 3, fresh := false }) ∧
      t.line.discards = 0 ∧ t.line.windowMismatch = false ∧ t.line.mismatches = s.line.mismatches ∧
      (∀ y ∈ allTroubles, troubleActive y t =
        if y = .lineNoisy ∧ s.line.discards = 0 ∧ s.line.windowMismatch = false then false else troubleActive y s) ∧
      t.cfg = s.cfg ∧ t.sup = s.sup ∧ t.reader = s.reader ∧ t.consignments = s.consignments ∧
      t.fire.latches = s.fire.latches ∧ t.fire.isolated = s.fire.isolated ∧ t.fire.ownAbort = s.fire.ownAbort ∧
      ((∀ p ∈ s.line.peers, p.fresh = true → p.age < 2) → t = { s with
            line := t.line,
            out := { s.out with active := t.out.active, reported := t.out.reported } }))

/-- With the transmitter free, neither LINE_STUCK nor STRAP_INVALID set: the lowest class with a frame waiting, of
ALARM, HANDOVER, ANSWER, REPORT and STATE, is taken when the idle time is at least 4 plus 36 times its index plus
the own number, and nothing changes before. The ALARM and the STATE are filled from the records at that moment and
go to destination 0 (log 5); a retry goes as built, before every other frame of its class; the oldest reply leaves
the list; an owed OFFER makes its entry OFFERED with the handover timer, a TAKEN starts its confirm timer at 2 s,
and every owed mark taken is cleared; a RELEASED entry without number goes with its CLEARED; the oldest query
leaves the queue and its answer goes to its source; the oldest report leaves the queue and goes to the console
number as it stands at the take (the model's choice, log 46). A taken frame leaves the climate record as it is (the
model's reading, log 42). With a frame on the line, LINE_STUCK or STRAP_INVALID, or nothing waiting, nothing is
taken. (R43, R132, R134, R135, R172, R173, R174, R179, R180, 13_frame_and_record_formats.md) -/
def Obligations.TransmitStartTakesTheLowestClassAtItsGap : Prop :=
    (∀ (s : State) (idle : Nat), s.phase = .running → s.line.tx = none → troubleActive .lineStuck s = false →
      troubleActive .strapInvalid s = false → s.line.alarmQueued = true →
      exec (.transmitStart idle) s = .next (if 4 + ownNumber s ≤ idle then
          { s with
            line := { s.line with
                alarmQueued := false,
                tx := (some {
                    cls := .alarm,
                    sent := (buildFrame kindAlarm 0 (ownNumber s) ([toByte s.fire.state.code,
                      toByte (if s.fire.state = .test then 0 else ownAlarmCount s),
                        toByte (if s.fire.state = .preDischarge then s.fire.countdown.getD 0 else 0),
                          toByte ((if s.fire.state ≠ .test ∧ ownAbortActive s = true then 1 else
                            0) + (if s.fire.manual then 2 else 0)), toByte s.cfg.spaceGroup])),
                    carriesLost := false }) } }
        else s)) ∧
    (∀ (s : State) (idle : Nat) (g : SentFrame), s.phase = .running → s.line.tx = none → troubleActive .lineStuck s =
      false → troubleActive .strapInvalid s = false → s.line.alarmQueued = false → s.line.handoverRetry = some g →
      exec (.transmitStart idle) s = .next (if 40 + ownNumber s ≤ idle then { s with
            line := { s.line with
                handoverRetry := none,
                tx := some { cls := .handover, sent := g, carriesLost := false } } } else s)) ∧
    (∀ (s : State) (idle : Nat) (r : Reply) (rs : List Reply) (why : RefuseReason), s.phase = .running → s.line.tx =
      none → troubleActive .lineStuck s = false → troubleActive .strapInvalid s = false → s.line.alarmQueued = false →
        s.line.handoverRetry = none → s.custody.replies = r :: rs → r.kind = .refuse why →
      exec (.transmitStart idle) s = .next (if 40 + ownNumber s ≤ idle then
          { s with
            custody := { s.custody with replies := rs },
            line := { s.line with
                tx := (some {
                    cls := .handover,
                    sent := (buildFrame kindRefuse r.dst (ownNumber s) (bytes16 r.consignment ++ tagBytes r.tag ++
                      [toByte why.code])),
                    carriesLost := false }) } }
        else s)) ∧
    (∀ (s : State) (idle : Nat) (r : Reply) (rs : List Reply), s.phase = .running → s.line.tx = none →
      troubleActive .lineStuck s = false → troubleActive .strapInvalid s = false → s.line.alarmQueued = false →
        s.line.handoverRetry = none → s.custody.replies = r :: rs → r.kind = .late →
      exec (.transmitStart idle) s = .next (if 40 + ownNumber s ≤ idle then
          { s with
            custody := { s.custody with replies := rs },
            line := { s.line with
                tx := (some {
                    cls := .handover,
                    sent := (buildFrame kindLate r.dst (ownNumber s) (bytes16 r.consignment ++ tagBytes r.tag)),
                    carriesLost := false }) } }
        else s)) ∧
    (∀ (s : State) (idle : Nat) (e : CustodyEntry) (o : OwedFrame), s.phase = .running → s.line.tx = none →
      troubleActive .lineStuck s = false → troubleActive .strapInvalid s = false → s.line.alarmQueued = false →
        s.line.handoverRetry = none → s.custody.replies = [] →
          (s.custody.entries.find? (fun e => decide (e.owed ≠ none ∧
            (e.owed = some .offer → s.custody.suspended = false))) = some e) → e.owed = some o →
      exec (.transmitStart idle) s = .next (if 40 + ownNumber s ≤ idle then
          { s with
            custody := { s.custody with
                entries := (if o = .cleared ∧ e.state = .released ∧ e.consignment = none then
                  s.custody.entries.filter fun x => x.tag != e.tag else s.custody.entries.map fun x => if x.tag =
                    e.tag then { x with
                    owed := none,
                    state := if o = .offer then .offered else x.state,
                    timer := (if o = .offer then some s.cfg.handoverWindow else if o = .taken then some 2 else
                      x.timer) } else x) },
            line := { s.line with
                tx := (some {
                    cls := .handover,
                    sent := (buildFrame o.kind (e.peer.getD 0) (ownNumber s) (bytes16 (e.consignment.getD 0) ++
                      tagBytes e.tag ++ (if o = .offer then
                        [toByte (if s.role = .dock then e.slot.getD 0 else
                          0)] ++ bytes16 e.hold ++ [toByte (if e.quarantine then 1 else 0)] else []))),
                    carriesLost := false }) } }
        else s)) ∧
    (∀ (s : State) (idle : Nat) (g : SentFrame), s.phase = .running → s.line.tx = none → troubleActive .lineStuck s =
      false → troubleActive .strapInvalid s = false → s.line.alarmQueued = false → s.line.handoverRetry = none →
        s.custody.replies = [] → (s.custody.entries.find? (fun e => decide (e.owed ≠ none ∧
          (e.owed = some .offer → s.custody.suspended = false))) = none) → s.line.answerRetry = some g →
      exec (.transmitStart idle) s = .next (if 76 + ownNumber s ≤ idle then { s with
            line := { s.line with
                answerRetry := none,
                tx := some { cls := .answer, sent := g, carriesLost := false } } } else s)) ∧
    (∀ (s : State) (idle : Nat) (q : Query) (qs : List Query), s.phase = .running → s.line.tx = none →
      troubleActive .lineStuck s = false → troubleActive .strapInvalid s = false → s.line.alarmQueued = false →
        s.line.handoverRetry = none → s.custody.replies = [] →
          (s.custody.entries.find? (fun e => decide (e.owed ≠ none ∧
            (e.owed = some .offer → s.custody.suspended = false))) = none) → s.line.answerRetry = none →
              s.line.answers = q :: qs →
      ∃ t, exec (.transmitStart idle) s = .next t ∧
      (if 76 + ownNumber s ≤ idle then t.line.answers = qs ∧
        (∀ x ∈ t.line.tx, x.cls = .answer ∧ x.sent.kind = kindAnswer ∧ x.sent.frame.dst = toByte q.source ∧
          x.sent.frame.src = toByte (ownNumber s) ∧ checkGood kindAnswer x.sent.frame = true ∧
          x.sent.frame.payload.take 2 = [toByte q.subject.code, toByte q.start]) ∧ t.line.tx.isSome = true ∧
        t = { s with
            line := { s.line with answers := qs, tx := t.line.tx },
            freeCount := t.freeCount }
       else t = s)) ∧
    (∀ (s : State) (idle : Nat) (g : SentFrame), s.phase = .running → s.line.tx = none → troubleActive .lineStuck s =
      false → troubleActive .strapInvalid s = false → s.line.alarmQueued = false → s.line.handoverRetry = none →
        s.custody.replies = [] → (s.custody.entries.find? (fun e => decide (e.owed ≠ none ∧
          (e.owed = some .offer → s.custody.suspended = false))) = none) → s.line.answerRetry = none →
            s.line.answers = [] → s.line.reportRetry = some g →
      exec (.transmitStart idle) s = .next (if 112 + ownNumber s ≤ idle then { s with
            line := { s.line with
                reportRetry := none,
                tx := some { cls := .report, sent := g, carriesLost := false } } } else s)) ∧
    (∀ (s : State) (idle : Nat) (r : Report) (rs : List Report), s.phase = .running → s.line.tx = none →
      troubleActive .lineStuck s = false → troubleActive .strapInvalid s = false → s.line.alarmQueued = false →
        s.line.handoverRetry = none → s.custody.replies = [] →
          (s.custody.entries.find? (fun e => decide (e.owed ≠ none ∧
            (e.owed = some .offer → s.custody.suspended = false))) = none) → s.line.answerRetry = none →
              s.line.answers = [] → s.line.reportRetry = none → s.line.reports = r :: rs →
      exec (.transmitStart idle) s = .next (if 112 + ownNumber s ≤ idle then
          { s with
            line := { s.line with
                reports := rs,
                tx := (some {
                    cls := .report,
                    sent := (buildFrame kindReport s.cfg.console (ownNumber s) ([toByte r.kind.code,
                      toByte r.number] ++ bytes16 r.consignment ++ tagBytes r.tag ++ [toByte r.code] ++ signedBytes16
                        r.value1 ++ signedBytes16 r.value2)),
                    carriesLost := false }) } }
        else s)) ∧
    (∀ (s : State) (idle : Nat), s.phase = .running → s.line.tx = none → troubleActive .lineStuck s = false →
      troubleActive .strapInvalid s = false → s.line.alarmQueued = false → s.line.handoverRetry = none →
        s.custody.replies = [] → (s.custody.entries.find? (fun e => decide (e.owed ≠ none ∧
          (e.owed = some .offer → s.custody.suspended = false))) = none) → s.line.answerRetry = none →
            s.line.answers = [] → s.line.reportRetry = none → s.line.reports = [] → s.line.stateQueued = true →
      exec (.transmitStart idle) s = .next (if 148 + ownNumber s ≤ idle then
          { s with
            line := { s.line with
                stateQueued := false,
                droppedSinceTake := false,
                tx := (some {
                    cls := .state,
                    sent := (buildFrame kindState 0 (ownNumber s)
              ([toByte (if s.role = .bay then 1 else 2), toByte s.cfg.spaceGroup] ++ [toByte s.fire.state.code,
                toByte (if s.fire.state = .test then 0 else ownAlarmCount s),
                  toByte (if s.fire.state = .preDischarge then s.fire.countdown.getD 0 else 0)] ++
               [toByte ((if s.fire.state ≠ .test ∧ ownAbortActive s = true then 1 else 0) + (if s.fire.manual then
                 2 else 0) + (if s.allot.running then 4 else 0) +
                  (if s.allot.request then 8 else 0) + (if s.line.reportsLost then 16 else 0) +
                  (if s.climate.bay.isSome then 32 else 0)),
                toByte (s.out.active.toNat / 2 ^ 24), toByte (s.out.active.toNat / 2 ^ 16),
                toByte (s.out.active.toNat / 2 ^ 8), toByte s.out.active.toNat, toByte s.climate.state.code] ++
               bytes16 ((s.climate.bay.map fun b => b.rh).getD 0) ++
               signedBytes16 ((s.climate.bay.map fun b => b.t).getD 0) ++ bytes16 (excess s) ++
               [toByte s.custody.entries.length, toByte s.consignments.length])),
                    carriesLost := s.line.reportsLost }) } }
        else s)) ∧
    (∀ (s : State) (idle : Nat), s.phase = .running → s.line.tx = none → troubleActive .lineStuck s = false →
      troubleActive .strapInvalid s = false → s.line.alarmQueued = false → s.line.handoverRetry = none →
        s.custody.replies = [] → (s.custody.entries.find? (fun e => decide (e.owed ≠ none ∧
          (e.owed = some .offer → s.custody.suspended = false))) = none) → s.line.answerRetry = none →
            s.line.answers = [] → s.line.reportRetry = none → s.line.reports = [] → s.line.stateQueued = false →
      exec (.transmitStart idle) s = .next (s)) ∧
    (∀ (s : State) (idle : Nat), s.phase = .running → (s.line.tx.isSome = true ∨ troubleActive .lineStuck s = true ∨
      troubleActive .strapInvalid s = true) →
      exec (.transmitStart idle) s = .next (s))

/-- A probe is faulted when a code of its two channels is 8 or less or 4087 or more; else its values come from the
sums, plus half of 2^n, divided by 2^n. The last PROBE_CONVERSION_END of a sequence is the sample. In LOST the
excursion state stays and its timer goes. Else, on the bay values: IN_BAND out of band becomes PENDING with the
delay, or EXCURSION at once for a delay of 0 (R57); PENDING in band becomes IN_BAND, and out of band stays, its
timer running on, or beginning again (at 0 s in EXCURSION) where the sample left LOST; EXCURSION ends only 20
within every limit. A sample that enters EXCURSION queues REPORT EXCURSION_START, one that ends it EXCURSION_END,
with the HOLD_DONE reports of a minute expiry that waited in the pause after it (R160, log 2); after these stands
the TROUBLE_CLEAR of CLIMATE_STARVED where the owed count falls to 0 (the order is the model's choice, log 15), and
of more than 8 the newest remain; no other sample queues either. The record, made before the allotter acts (before
the sample-taken notice: R59; before the notice of leaving STARTING or LOST: the model's choice, log 51), holds the
uptime, the bay values, the climate state, whether the dehumidifier ran, whether the fire state is raised and the
excursion state; it is stored for the first sample since the start and else by EVERY, CHANGE (another climate state
than the last record, or bay values at least the deadband off it, or an empty ring) or EXCURSION (not IN_BAND
before or after); a ring of 64 loses its oldest. An OPEN episode's extremes widen to the bay values. (R47, R48,
R49, R55, R56, R58, R59, R60, R61, R62, R57, R160) -/
def Obligations.SamplesMoveTheExcursionAndTheHistory : Prop :=
    (∀ (n : Nat) (rh t : Channel), probeValue n rh t =
      if rh.low ≤ 8 ∨ 4087 ≤ rh.high ∨ t.low ≤ 8 ∨ 4087 ≤ t.high then none
      else some {
            rh := ((rh.sum + 2 ^ n / 2) / 2 ^ n * 1000 + 2047) / 4095,
            t := (-400 + (((t.sum + 2 ^ n / 2) / 2 ^ n * 1100 + 2047) / 4095 : Nat)) }) ∧
    (∀ (s : State) (c : Code) (q : Sequence), s.phase = .running → s.sup.conv = .probe → s.sup.seq = some q →
      4 * 2 ^ s.cfg.averaging ≤ q.done + 1 →
      ∃ t, exec (.probeConversionEnd c) s = .next t ∧
      (t.climate.state = .lost → t.climate.excursion = s.climate.excursion ∧ t.climate.excursionTimer = none) ∧
      (t.climate.state ≠ .lost → ∀ b ∈ t.climate.bay,
        t.climate.excursion =
          (if s.climate.excursion = .inBand then
            (if ¬ (s.cfg.rhHigh ≤ b.rh ∨ b.rh ≤ s.cfg.rhLow ∨ s.cfg.tHigh ≤ b.t ∨ b.t ≤ s.cfg.tLow) then .inBand else
              if s.cfg.excursionDelay = 0 then .excursion else .pending)
           else if s.climate.excursion = .pending then
            (if ¬ (s.cfg.rhHigh ≤ b.rh ∨ b.rh ≤ s.cfg.rhLow ∨ s.cfg.tHigh ≤ b.t ∨ b.t ≤ s.cfg.tLow) then .inBand
             else if s.climate.state = .lost ∧ s.cfg.excursionDelay = 0 then .excursion else .pending)
           else if (b.rh + 20 ≤ s.cfg.rhHigh ∧ s.cfg.rhLow + 20 ≤ b.rh ∧ b.t + 20 ≤ s.cfg.tHigh ∧
             s.cfg.tLow + 20 ≤ b.t) then .inBand else .excursion) ∧
        (t.climate.excursion = .pending → t.climate.excursionTimer =
          if s.climate.excursion = .pending ∧ s.climate.state ≠ .lost then s.climate.excursionTimer
          else some s.cfg.excursionDelay) ∧
        (t.climate.excursion ≠ s.climate.excursion → t.climate.excursion ≠ .pending → t.climate.excursionTimer =
          none) ∧
        (t.climate.excursion = .excursion → s.climate.excursion ≠ .excursion → reportsGoOut s = true →
          [({ kind := .excursionStart, value1 := (b.rh : Int), value2 := b.t } : Report)] ++ (if s.sup.owed = 1 ∧
            troubleActive .climateStarved s = true ∧ s.fire.state ≠ .stabilizing then
              [({ kind := .troubleClear, code := Trouble.climateStarved.code } : Report)] else
                []) <:+ t.line.reports) ∧
        (s.climate.excursion = .excursion → t.climate.excursion = .inBand → reportsGoOut s = true →
          ([({ kind := .excursionEnd, value1 := (b.rh : Int), value2 := b.t } : Report)] ++ (if s.hold.paused = true ∧
            s.hold.seconds = 0 ∧ pauseCondition t = false then
              (s.scanner.slots.filter fun sl => decide (sl.state = .hold ∧ sl.hold.getD 0 ≤ 1)).map (fun sl =>
                ({ kind := .holdDone, number := sl.number, tag := sl.tag.getD 0 } : Report))
             else []) ++ (if s.sup.owed = 1 ∧ troubleActive .climateStarved s = true ∧
               s.fire.state ≠ .stabilizing then
              [({ kind := .troubleClear, code := Trouble.climateStarved.code } : Report)] else
                [])).drop (((if s.hold.paused = true ∧ s.hold.seconds = 0 ∧ pauseCondition t = false then
              (s.scanner.slots.filter fun sl => decide (sl.state = .hold ∧ sl.hold.getD 0 ≤ 1)).map (fun sl =>
                ({ kind := .holdDone, number := sl.number, tag := sl.tag.getD 0 } : Report))
             else []) ++ (if s.sup.owed = 1 ∧ troubleActive .climateStarved s = true ∧
               s.fire.state ≠ .stabilizing then
              [({ kind := .troubleClear, code := Trouble.climateStarved.code } : Report)] else
                [])).length - 7) <:+ t.line.reports)) ∧
      (∀ r ∈ t.line.reports, r ∈ s.line.reports ∨
        (r.kind = .excursionStart → t.climate.excursion = .excursion ∧ s.climate.excursion ≠ .excursion) ∧
        (r.kind = .excursionEnd → t.climate.excursion = .inBand ∧ s.climate.excursion = .excursion)) ∧
      t.climate.storedSinceStart = true ∧
      t.climate.history =
        (if s.climate.storedSinceStart = false ∨ s.cfg.policy = .every ∨
            (s.cfg.policy = .change ∧ ∀ l ∈ s.climate.history.getLast?, l.climate ≠ t.climate.state ∨
              ∃ a ∈ t.climate.bay, ∃ b ∈ l.bay, s.cfg.deadband ≤ ((a.rh : Int) - (b.rh : Int)).natAbs ∨
                s.cfg.deadband ≤ (a.t - b.t).natAbs) ∨
            (s.cfg.policy = .excursion ∧ (t.climate.excursion ≠ .inBand ∨ s.climate.excursion ≠ .inBand)) then
          (if s.climate.history.length < 64 then s.climate.history else s.climate.history.tail) ++ [{
            stamp := s.uptime,
            bay := t.climate.bay,
            climate := t.climate.state,
            running := s.allot.running,
            fireRaised := s.fire.state.raised,
            excursion := t.climate.excursion }]
         else s.climate.history) ∧
      (∀ b ∈ t.climate.bay, s.climate.episode.status = .opened → t.climate.episode.extremes = some
        {
            tMin := (min ((s.climate.episode.extremes.map fun x => x.tMin).getD b.t) b.t),
            tMax := (max ((s.climate.episode.extremes.map fun x => x.tMax).getD b.t) b.t),
            rhMax := (max ((s.climate.episode.extremes.map fun x => x.rhMax).getD b.rh) b.rh) }) ∧
      (s.climate.episode.status ≠ .opened → t.climate.episode = s.climate.episode))

/-- At the last PROBE_CONVERSION_END of a sequence, where the allotter is forced exactly while a forced-off
condition holds: under such a condition it stays as it is if it was forced, and else its request clears and a
RUNNING dehumidifier stops with the minimum-off timer. With none, the request is set at the RH target plus the band
up or above, clear at the RH target less the band down or below, and else as it was (clear after forcing). A
RUNNING dehumidifier with the request clear and no minimum-run timer stops; one that is OFF, requests and has no
minimum-off timer starts exactly when running count plus rank is below the cap, with the minimum-run timer. An
accepted STATE or ALARM that leaves the fire state as it was starts a dehumidifier that is OFF, not forced,
requests and has no minimum-off timer, exactly when running count plus rank, with the peer table as it then is, are
below the cap; else the allotter stays. Each start and each stop queues a STATE. (R67, R68, R69, R70, R71, R72,
R73, R74, R170) -/
def Obligations.SamplesAndPeerUpdatesMoveTheDehumidifier : Prop :=
    (∀ (s : State) (c : Code) (q : Sequence), s.phase = .running → s.sup.conv = .probe → s.sup.seq = some q →
      4 * 2 ^ s.cfg.averaging ≤ q.done + 1 → DryingGuarded s →
      ∃ t, exec (.probeConversionEnd c) s = .next t ∧
      t.allot.forced = forcedCondition t ∧
      (t.allot.forced = true → t.allot =
        if s.allot.forced = true then s.allot
        else if s.allot.running = true then {
            running := false,
            minRun := none,
            minOff := if s.cfg.minOffTime = 0 then none else some s.cfg.minOffTime,
            request := false,
            forced := true }
        else { s.allot with request := false, forced := true }) ∧
      (t.allot.forced = false → ∀ b ∈ t.climate.bay,
        t.allot.request =
          (if s.cfg.rhTarget + s.cfg.bandUp ≤ b.rh then true else if b.rh ≤ s.cfg.rhTarget - s.cfg.bandDown then false
           else s.allot.request && !s.allot.forced) ∧
        t.allot =
          (if s.allot.running = true then
            (if t.allot.request = false ∧ s.allot.minRun = none then
              {
            running := false,
            minRun := none,
            minOff := if s.cfg.minOffTime = 0 then none else some s.cfg.minOffTime,
            request := false,
            forced := false }
             else { s.allot with request := t.allot.request, forced := false })
           else if t.allot.request = true ∧ s.allot.minOff = none ∧ runningCount s + rank t < s.cfg.cap then
            {
            running := true,
            minOff := none,
            minRun := if s.cfg.minRunTime = 0 then none else some s.cfg.minRunTime,
            request := true,
            forced := false }
           else { s.allot with request := t.allot.request, forced := false })) ∧
      t.line.stateQueued = (s.line.stateQueued || t.allot.running != s.allot.running)) ∧
    (∀ (s : State) (f : Frame), Accepted kindState f s → FixedSizes s →
      ∃ t, exec (.stateFrame f) s = .next t ∧
      (t.fire.state = s.fire.state → t.allot =
        (if s.allot.running = false ∧ s.allot.forced = false ∧ s.allot.request = true ∧ s.allot.minOff = none ∧
            runningCount t + rank t < s.cfg.cap then { s.allot with
            running := true,
            minOff := none,
            minRun := if s.cfg.minRunTime = 0 then none else some s.cfg.minRunTime }
         else s.allot) ∧ t.line.stateQueued = (s.line.stateQueued || t.allot.running != s.allot.running))) ∧
    (∀ (s : State) (f : Frame), Accepted kindAlarm f s → FixedSizes s →
      ∃ t, exec (.alarmFrame f) s = .next t ∧
      (t.fire.state = s.fire.state → t.allot =
        (if s.allot.running = false ∧ s.allot.forced = false ∧ s.allot.request = true ∧ s.allot.minOff = none ∧
            runningCount t + rank t < s.cfg.cap then { s.allot with
            running := true,
            minOff := none,
            minRun := if s.cfg.minRunTime = 0 then none else some s.cfg.minRunTime }
         else s.allot) ∧ t.line.stateQueued = (s.line.stateQueued || t.allot.running != s.allot.running)))

/-- An accepted STATE, and a peer's ALARM while it awaits no STATE, that leaves the fire state as it was: each HELD
custody entry with that peer loses wait reason FIRE where the frame shows NORMAL, and FULL where it is a STATE with
a custody count below 24; it then owes OFFER if it has a number whose record is not RECEIVING, and every other
entry stays. In HELD: after a STATE that does not show DISCHARGED (also one that shows PRE_DISCHARGE with a lower
countdown, since adoption is judged before the evaluation: log 7), after an ABORT input's two scans out of ALARM,
after a status timer expiry at which some peer goes stale, and after LINE_STUCK clears, the station stays HELD
while abort is active, own or of a fresh same-space peer, and else is in PRE_DISCHARGE at the abort restart value
with the manual flag clear; a status timer expiry at which no peer goes stale leaves the fire record. A status
timer expiry at which some peer goes stale, and a clearing of LINE_STUCK, that leave the fire state as it was,
start the dehumidifier exactly where the grant evaluation on the peer table as it then is allows it. (R22, R31,
R32, R72, R139, R170, R171, R175) -/
def Obligations.PeerUpdatesEndWaitsAndAbortsEndHeld : Prop :=
    (∀ (s : State) (f : Frame), Accepted kindState f s → FixedSizes s → OffersSettled s →
      ∃ t, exec (.stateFrame f) s = .next t ∧
      (t.fire.state = s.fire.state → t.custody = { s.custody with
            entries := (s.custody.entries.map fun e =>
        if e.state = .held ∧ e.peer = some f.src.toNat ∧
          ((e.wait = .fire ∧ byteAt f.payload 2 = 1) ∨ (e.wait = .full ∧ (byteAt f.payload 17).toNat < 24)) then
          { e with
                wait := .none,
                owed := if e.consignment.isSome = true ∧ ∀ c ∈ s.consignments,
                e.consignment = some c.number → c.state ≠ .receiving then some .offer else none }
        else e) })) ∧
    (∀ (s : State) (f : Frame), Accepted kindAlarm f s → FixedSizes s → OffersSettled s →
      ∃ t, exec (.alarmFrame f) s = .next t ∧
      (t.fire.state = s.fire.state → t.custody = { s.custody with
            entries := (s.custody.entries.map fun e =>
        if e.state = .held ∧ e.peer = some f.src.toNat ∧ (peerOf f.src.toNat s).awaiting = false ∧ e.wait = .fire ∧
          byteAt f.payload 0 = 1 then
          { e with
                wait := .none,
                owed := if e.consignment.isSome = true ∧ ∀ c ∈ s.consignments,
                e.consignment = some c.number → c.state ≠ .receiving then some .offer else none }
        else e) })) ∧
    (∀ (s : State) (f : Frame), Accepted kindState f s → FixedSizes s → s.fire.state = .held →
      byteAt f.payload 2 ≠ 6 →
      ∃ t, exec (.stateFrame f) s = .next t ∧
      (if abortActive t = true then t.fire.state = .held ∧ t.fire.countdown = s.fire.countdown ∧ t.fire.manual =
        s.fire.manual else t.fire.state = .preDischarge ∧ t.fire.countdown = some s.cfg.abortRestart ∧ t.fire.manual =
          false) ∧ t.fire.latches = s.fire.latches ∧ t.fire.ownAbort = s.fire.ownAbort ∧ t.fire.releasePulse =
            s.fire.releasePulse) ∧
    (∀ (s : State) (i : InputNo) (c : Code), s.phase = .running → FixedSizes s → s.sup.conv = .input i →
      s.fire.state = .held → inputType i s = .abort → inputRecord i s = {
            settled := .alarm,
            candidate := some (scanBand .alarm c),
            stage := .ready } → scanBand .alarm c ≠ .alarm →
      ∃ t, exec (.inputConversionEnd c) s = .next t ∧
      t.fire.ownAbort = s.fire.ownAbort.filter (fun j => j != i) ∧
      (if abortActive t = true then t.fire.state = .held ∧ t.fire.countdown = s.fire.countdown ∧ t.fire.manual =
        s.fire.manual else t.fire.state = .preDischarge ∧ t.fire.countdown = some s.cfg.abortRestart ∧ t.fire.manual =
          false) ∧
      t.fire.latches = s.fire.latches ∧ t.fire.releasePulse = s.fire.releasePulse) ∧
    (∀ (s : State), s.phase = .running → s.fire.state = .held →
      ∃ t, exec (.statusTimerExpiry) s = .next t ∧
      (if (∃ p ∈ s.line.peers, p.fresh = true ∧ 2 ≤ p.age) then
        (if abortActive t = true then t.fire.state = .held ∧ t.fire.countdown = s.fire.countdown ∧ t.fire.manual =
          s.fire.manual else t.fire.state = .preDischarge ∧ t.fire.countdown = some s.cfg.abortRestart ∧
            t.fire.manual = false) ∧ t.fire.latches = s.fire.latches ∧ t.fire.ownAbort = s.fire.ownAbort ∧
              t.fire.releasePulse = s.fire.releasePulse else t.fire = s.fire)) ∧
    (∀ (s : State), s.phase = .running → troubleActive .lineStuck s = true → s.fire.state = .held →
      ∃ t, exec (.lineStuckClear) s = .next t ∧
      (if abortActive t = true then t.fire.state = .held ∧ t.fire.countdown = s.fire.countdown ∧ t.fire.manual =
        s.fire.manual else t.fire.state = .preDischarge ∧ t.fire.countdown = some s.cfg.abortRestart ∧ t.fire.manual =
          false) ∧ t.fire.latches = s.fire.latches ∧ t.fire.ownAbort = s.fire.ownAbort ∧ t.fire.releasePulse =
            s.fire.releasePulse) ∧
    (∀ (s : State), s.phase = .running →
      ∃ t, exec (.statusTimerExpiry) s = .next t ∧
      (¬ (∃ p ∈ s.line.peers, p.fresh = true ∧ 2 ≤ p.age) → t.allot = s.allot) ∧
        ((∃ p ∈ s.line.peers, p.fresh = true ∧ 2 ≤ p.age) → t.fire.state = s.fire.state → t.allot =
        if s.allot.running = false ∧ s.allot.forced = false ∧ s.allot.request = true ∧ s.allot.minOff = none ∧
            runningCount t + rank t < s.cfg.cap then { s.allot with
            running := true,
            minOff := none,
            minRun := if s.cfg.minRunTime = 0 then none else some s.cfg.minRunTime }
        else s.allot)) ∧
    (∀ (s : State), s.phase = .running → troubleActive .lineStuck s = true →
      ∃ t, exec (.lineStuckClear) s = .next t ∧
      (t.fire.state = s.fire.state → t.allot =
        if s.allot.running = false ∧ s.allot.forced = false ∧ s.allot.request = true ∧ s.allot.minOff = none ∧
            runningCount t + rank t < s.cfg.cap then { s.allot with
            running := true,
            minOff := none,
            minRun := if s.cfg.minRunTime = 0 then none else some s.cfg.minRunTime }
        else s.allot))

/-- When TRANSMIT_START takes a query, the payload is the subject, the start and the count of the records, the
header of a CONSIGNMENT answer whose number is in the table, and the records. SLOTS gives up to 3 slots numbered
from the start, each its number, state, detail, tag (the expected one while AWAITED is the state or kept),
consignment number (also of a kept prior state: log 43) and hold; CUSTODY up to 2 entries after the first start
ones; CONSIGNMENT up to 3 entries after the first start ones; HISTORY up to 4 records after the first start ones;
PEERS up to 3 stations from the start without the own; EPISODE its record from start 0 alone, one byte while there
is no episode. Where a value is absent, the failure reason of an entry that is not FAILED among them, and no byte
is stated for it, the byte is free (log 3). (R180, R181, R192, R82, R131, R59, R62, R170,
13_frame_and_record_formats.md) -/
def Obligations.AnswersCarryTheOwnersRecords : Prop :=
    (∀ (s : State) (idle : Nat) (q : Query) (qs : List Query), s.phase = .running → s.line.tx = none →
      troubleActive .lineStuck s = false → troubleActive .strapInvalid s = false → s.line.alarmQueued = false →
        s.line.handoverRetry = none → s.custody.replies = [] →
          (s.custody.entries.find? (fun e => decide (e.owed ≠ none ∧
            (e.owed = some .offer → s.custody.suspended = false))) = none) → s.line.answerRetry = none →
              s.line.answers = q :: qs → 76 + ownNumber s ≤ idle → q.subject = .slots →
      ∃ t, exec (.transmitStart idle) s = .next t ∧
      (∀ x ∈ t.line.tx, Carries x.sent.frame.payload q ([]) (((s.scanner.slots.filter fun sl => decide (1 ≤ sl.number
        ∧ q.start ≤ sl.number)).take 3).map fun sl =>
        stated ([toByte sl.number, toByte sl.state.code, toByte sl.state.detail] ++
          tagBytes ((if sl.state = .awaited ∨ sl.state = .unexpectedPresence .awaited then sl.expected else
            sl.tag).getD 0) ++
          bytes16 (sl.consignment.getD 0)) ++
        ((sl.hold.map fun h => stated (bytes16 h)).getD [none, none]))) ∧ t.line.tx.isSome = true) ∧
    (∀ (s : State) (idle : Nat) (q : Query) (qs : List Query), s.phase = .running → s.line.tx = none →
      troubleActive .lineStuck s = false → troubleActive .strapInvalid s = false → s.line.alarmQueued = false →
        s.line.handoverRetry = none → s.custody.replies = [] →
          (s.custody.entries.find? (fun e => decide (e.owed ≠ none ∧
            (e.owed = some .offer → s.custody.suspended = false))) = none) → s.line.answerRetry = none →
              s.line.answers = q :: qs → 76 + ownNumber s ≤ idle → q.subject = .custody →
      ∃ t, exec (.transmitStart idle) s = .next t ∧
      (∀ x ∈ t.line.tx, Carries x.sent.frame.payload q ([]) (((s.custody.entries.drop q.start).take 2).map fun e =>
        stated (tagBytes e.tag ++ [toByte e.state.code, if e.quarantine then 1 else
          0] ++ bytes16 (e.consignment.getD 0)) ++
        [e.peer.map toByte, e.slot.map toByte] ++ stated (bytes16 e.hold) ++
        ((e.timer.map fun h => stated (bytes16 h)).getD [none, none]))) ∧ t.line.tx.isSome = true) ∧
    (∀ (s : State) (idle : Nat) (q : Query) (qs : List Query) (c : Consignment), s.phase = .running → s.line.tx =
      none → troubleActive .lineStuck s = false → troubleActive .strapInvalid s = false → s.line.alarmQueued = false →
        s.line.handoverRetry = none → s.custody.replies = [] →
          (s.custody.entries.find? (fun e => decide (e.owed ≠ none ∧
            (e.owed = some .offer → s.custody.suspended = false))) = none) → s.line.answerRetry = none →
              s.line.answers = q :: qs → 76 + ownNumber s ≤ idle → q.subject = .consignment →
                findRecord q.consignment s = some c →
      ∃ t, exec (.transmitStart idle) s = .next t ∧
      (∀ x ∈ t.line.tx, Carries x.sent.frame.payload q (stated (bytes16 q.consignment ++ [toByte c.direction.code,
        toByte c.state.code])) (((c.entries.drop q.start).take 3).map fun e =>
        stated (tagBytes (e.tag.getD 0) ++ [toByte e.station, toByte e.slot, if e.last then 1 else 0,
          toByte e.state.code]) ++
        [match e.state with | .failed r => some (toByte r.code) | _ => none])) ∧ t.line.tx.isSome = true) ∧
    (∀ (s : State) (idle : Nat) (q : Query) (qs : List Query), s.phase = .running → s.line.tx = none →
      troubleActive .lineStuck s = false → troubleActive .strapInvalid s = false → s.line.alarmQueued = false →
        s.line.handoverRetry = none → s.custody.replies = [] →
          (s.custody.entries.find? (fun e => decide (e.owed ≠ none ∧
            (e.owed = some .offer → s.custody.suspended = false))) = none) → s.line.answerRetry = none →
              s.line.answers = q :: qs → 76 + ownNumber s ≤ idle → q.subject = .consignment →
                findRecord q.consignment s = none →
      ∃ t, exec (.transmitStart idle) s = .next t ∧
      (∀ x ∈ t.line.tx, Carries x.sent.frame.payload q ([]) ([])) ∧ t.line.tx.isSome = true) ∧
    (∀ (s : State) (idle : Nat) (q : Query) (qs : List Query), s.phase = .running → s.line.tx = none →
      troubleActive .lineStuck s = false → troubleActive .strapInvalid s = false → s.line.alarmQueued = false →
        s.line.handoverRetry = none → s.custody.replies = [] →
          (s.custody.entries.find? (fun e => decide (e.owed ≠ none ∧
            (e.owed = some .offer → s.custody.suspended = false))) = none) → s.line.answerRetry = none →
              s.line.answers = q :: qs → 76 + ownNumber s ≤ idle → q.subject = .history →
      ∃ t, exec (.transmitStart idle) s = .next t ∧
      (∀ x ∈ t.line.tx, Carries x.sent.frame.payload q ([]) (((s.climate.history.drop q.start).take 4).map fun r =>
        stated [toByte (r.stamp.toNat / 65536), toByte (r.stamp.toNat / 256), toByte r.stamp.toNat,
          toByte ((if r.bay.isSome then 1 else 0) + (if r.running then 2 else 0) + (if r.fireRaised then 4 else 0)),
          toByte r.climate.code, toByte r.excursion.code] ++
        ((r.bay.map fun b => stated (bytes16 b.rh ++ signedBytes16 b.t)).getD [none, none, none, none]))) ∧
          t.line.tx.isSome = true) ∧
    (∀ (s : State) (idle : Nat) (q : Query) (qs : List Query), s.phase = .running → s.line.tx = none →
      troubleActive .lineStuck s = false → troubleActive .strapInvalid s = false → s.line.alarmQueued = false →
        s.line.handoverRetry = none → s.custody.replies = [] →
          (s.custody.entries.find? (fun e => decide (e.owed ≠ none ∧
            (e.owed = some .offer → s.custody.suspended = false))) = none) → s.line.answerRetry = none →
              s.line.answers = q :: qs → 76 + ownNumber s ≤ idle → q.subject = .peers → FixedSizes s →
      ∃ t, exec (.transmitStart idle) s = .next t ∧
      (∀ x ∈ t.line.tx, Carries x.sent.frame.payload q ([]) ((((List.range 31).filter fun n => decide (1 ≤ n ∧
        q.start ≤ n ∧ n ≠ ownNumber s)).take 3).map fun n =>
        stated [toByte n, if (peerOf n s).heard = false then 0 else if (peerOf n s).fresh then 1 else 2,
          toByte ((if (peerOf n s).awaiting then 1 else 0) + (if (peerOf n s).fire.any (fun p => p.abort) then 2 else
            0) +
            (if (peerOf n s).fire.any (fun p => p.manual) then 4 else 0) +
            (if (peerOf n s).state.any (fun p => p.running) then 8 else 0) +
            (if (peerOf n s).state.any (fun p => p.requesting) then 16 else 0)),
          toByte (peerOf n s).age, toByte (((peerOf n s).state.map fun p => p.role).getD 0)] ++
        (((peerOf n s).fire.map fun p =>
          stated [toByte p.group, toByte p.fire, toByte p.alarms, toByte p.countdown]).getD [none, none, none,
            none]) ++
        (((peerOf n s).state.map fun p => stated (bytes16 p.excess ++ [toByte p.custody])).getD [none, none,
          none]))) ∧ t.line.tx.isSome = true) ∧
    (∀ (s : State) (idle : Nat) (q : Query) (qs : List Query), s.phase = .running → s.line.tx = none →
      troubleActive .lineStuck s = false → troubleActive .strapInvalid s = false → s.line.alarmQueued = false →
        s.line.handoverRetry = none → s.custody.replies = [] →
          (s.custody.entries.find? (fun e => decide (e.owed ≠ none ∧
            (e.owed = some .offer → s.custody.suspended = false))) = none) → s.line.answerRetry = none →
              s.line.answers = q :: qs → 76 + ownNumber s ≤ idle → q.subject = .episode →
      ∃ t, exec (.transmitStart idle) s = .next t ∧
      (∀ x ∈ t.line.tx, Carries x.sent.frame.payload q ([]) (if q.start ≠ 0 then [] else if s.climate.episode.status =
        .none then [stated [0]]
        else [stated [toByte s.climate.episode.status.code,
            toByte ((if s.climate.episode.discharged then 1 else 0) + (if s.climate.episode.extremes.isSome then
              2 else 0))] ++
          ((s.climate.episode.extremes.map fun x =>
            stated (signedBytes16 x.tMin ++ signedBytes16 x.tMax ++ bytes16 x.rhMax)).getD
              [none, none, none, none, none, none]) ++
          stated (bytes16 s.climate.episode.count)])) ∧ t.line.tx.isSome = true)
end

