-- ==== Sys2Proof/Laws/State.lean ====
section
/-! SUPPORT. One lemma per field for each update of the state, so that no proof unfolds a record update. -/

namespace Sys2Proof.Machine

variable (s : State)

/-! ### `setActive` -/

@[simp] theorem setActive_phase (x : Trouble) (b : Bool) : (setActive x b s).phase = s.phase := rfl
@[simp] theorem setActive_own (x : Trouble) (b : Bool) : (setActive x b s).own = s.own := rfl
@[simp] theorem setActive_role (x : Trouble) (b : Bool) : (setActive x b s).role = s.role := rfl
@[simp] theorem setActive_uptime (x : Trouble) (b : Bool) : (setActive x b s).uptime = s.uptime := rfl
@[simp] theorem setActive_minuteLeft (x : Trouble) (b : Bool) : (setActive x b s).minuteLeft = s.minuteLeft := rfl
@[simp] theorem setActive_cfg (x : Trouble) (b : Bool) : (setActive x b s).cfg = s.cfg := rfl
@[simp] theorem setActive_sup (x : Trouble) (b : Bool) : (setActive x b s).sup = s.sup := rfl
@[simp] theorem setActive_fire (x : Trouble) (b : Bool) : (setActive x b s).fire = s.fire := rfl
@[simp] theorem setActive_climate (x : Trouble) (b : Bool) : (setActive x b s).climate = s.climate := rfl
@[simp] theorem setActive_allot (x : Trouble) (b : Bool) : (setActive x b s).allot = s.allot := rfl
@[simp] theorem setActive_scanner (x : Trouble) (b : Bool) : (setActive x b s).scanner = s.scanner := rfl
@[simp] theorem setActive_reader (x : Trouble) (b : Bool) : (setActive x b s).reader = s.reader := rfl
@[simp] theorem setActive_consignments (x : Trouble) (b : Bool) : (setActive x b s).consignments = s.consignments := rfl
@[simp] theorem setActive_custody (x : Trouble) (b : Bool) : (setActive x b s).custody = s.custody := rfl
@[simp] theorem setActive_hold (x : Trouble) (b : Bool) : (setActive x b s).hold = s.hold := rfl
@[simp] theorem setActive_line (x : Trouble) (b : Bool) : (setActive x b s).line = s.line := rfl
@[simp] theorem setActive_out (x : Trouble) (b : Bool) :
    (setActive x b s).out =
      { s.out with active := setTroubleBit s.out.active x.code b } := rfl
@[simp] theorem setActive_freeCount (x : Trouble) (b : Bool) : (setActive x b s).freeCount = s.freeCount := rfl
@[simp] theorem setActive_pending (x : Trouble) (b : Bool) : (setActive x b s).pending = s.pending := rfl

/-! ### `setReported` -/

@[simp] theorem setReported_phase (x : Trouble) (b : Bool) : (setReported x b s).phase = s.phase := rfl
@[simp] theorem setReported_own (x : Trouble) (b : Bool) : (setReported x b s).own = s.own := rfl
@[simp] theorem setReported_role (x : Trouble) (b : Bool) : (setReported x b s).role = s.role := rfl
@[simp] theorem setReported_uptime (x : Trouble) (b : Bool) : (setReported x b s).uptime = s.uptime := rfl
@[simp] theorem setReported_minuteLeft (x : Trouble) (b : Bool) : (setReported x b s).minuteLeft = s.minuteLeft := rfl
@[simp] theorem setReported_cfg (x : Trouble) (b : Bool) : (setReported x b s).cfg = s.cfg := rfl
@[simp] theorem setReported_sup (x : Trouble) (b : Bool) : (setReported x b s).sup = s.sup := rfl
@[simp] theorem setReported_fire (x : Trouble) (b : Bool) : (setReported x b s).fire = s.fire := rfl
@[simp] theorem setReported_climate (x : Trouble) (b : Bool) : (setReported x b s).climate = s.climate := rfl
@[simp] theorem setReported_allot (x : Trouble) (b : Bool) : (setReported x b s).allot = s.allot := rfl
@[simp] theorem setReported_scanner (x : Trouble) (b : Bool) : (setReported x b s).scanner = s.scanner := rfl
@[simp] theorem setReported_reader (x : Trouble) (b : Bool) : (setReported x b s).reader = s.reader := rfl
@[simp] theorem setReported_consignments (x : Trouble) (b : Bool) : (setReported x b s).consignments = s.consignments := rfl
@[simp] theorem setReported_custody (x : Trouble) (b : Bool) : (setReported x b s).custody = s.custody := rfl
@[simp] theorem setReported_hold (x : Trouble) (b : Bool) : (setReported x b s).hold = s.hold := rfl
@[simp] theorem setReported_line (x : Trouble) (b : Bool) : (setReported x b s).line = s.line := rfl
@[simp] theorem setReported_out (x : Trouble) (b : Bool) :
    (setReported x b s).out =
      { s.out with reported := setTroubleBit s.out.reported x.code b } := rfl
@[simp] theorem setReported_freeCount (x : Trouble) (b : Bool) : (setReported x b s).freeCount = s.freeCount := rfl
@[simp] theorem setReported_pending (x : Trouble) (b : Bool) : (setReported x b s).pending = s.pending := rfl

/-! ### `queueAlarm` -/

@[simp] theorem queueAlarm_phase : (queueAlarm s).phase = s.phase := rfl
@[simp] theorem queueAlarm_own : (queueAlarm s).own = s.own := rfl
@[simp] theorem queueAlarm_role : (queueAlarm s).role = s.role := rfl
@[simp] theorem queueAlarm_uptime : (queueAlarm s).uptime = s.uptime := rfl
@[simp] theorem queueAlarm_minuteLeft : (queueAlarm s).minuteLeft = s.minuteLeft := rfl
@[simp] theorem queueAlarm_cfg : (queueAlarm s).cfg = s.cfg := rfl
@[simp] theorem queueAlarm_sup : (queueAlarm s).sup = s.sup := rfl
@[simp] theorem queueAlarm_fire : (queueAlarm s).fire = s.fire := rfl
@[simp] theorem queueAlarm_climate : (queueAlarm s).climate = s.climate := rfl
@[simp] theorem queueAlarm_allot : (queueAlarm s).allot = s.allot := rfl
@[simp] theorem queueAlarm_scanner : (queueAlarm s).scanner = s.scanner := rfl
@[simp] theorem queueAlarm_reader : (queueAlarm s).reader = s.reader := rfl
@[simp] theorem queueAlarm_consignments : (queueAlarm s).consignments = s.consignments := rfl
@[simp] theorem queueAlarm_custody : (queueAlarm s).custody = s.custody := rfl
@[simp] theorem queueAlarm_hold : (queueAlarm s).hold = s.hold := rfl
@[simp] theorem queueAlarm_line : (queueAlarm s).line = { s.line with alarmQueued := true } := rfl
@[simp] theorem queueAlarm_out : (queueAlarm s).out = s.out := rfl
@[simp] theorem queueAlarm_freeCount : (queueAlarm s).freeCount = s.freeCount := rfl
@[simp] theorem queueAlarm_pending : (queueAlarm s).pending = s.pending := rfl

/-! ### `queueState` -/

@[simp] theorem queueState_phase : (queueState s).phase = s.phase := rfl
@[simp] theorem queueState_own : (queueState s).own = s.own := rfl
@[simp] theorem queueState_role : (queueState s).role = s.role := rfl
@[simp] theorem queueState_uptime : (queueState s).uptime = s.uptime := rfl
@[simp] theorem queueState_minuteLeft : (queueState s).minuteLeft = s.minuteLeft := rfl
@[simp] theorem queueState_cfg : (queueState s).cfg = s.cfg := rfl
@[simp] theorem queueState_sup : (queueState s).sup = s.sup := rfl
@[simp] theorem queueState_fire : (queueState s).fire = s.fire := rfl
@[simp] theorem queueState_climate : (queueState s).climate = s.climate := rfl
@[simp] theorem queueState_allot : (queueState s).allot = s.allot := rfl
@[simp] theorem queueState_scanner : (queueState s).scanner = s.scanner := rfl
@[simp] theorem queueState_reader : (queueState s).reader = s.reader := rfl
@[simp] theorem queueState_consignments : (queueState s).consignments = s.consignments := rfl
@[simp] theorem queueState_custody : (queueState s).custody = s.custody := rfl
@[simp] theorem queueState_hold : (queueState s).hold = s.hold := rfl
@[simp] theorem queueState_line : (queueState s).line = { s.line with stateQueued := true } := rfl
@[simp] theorem queueState_out : (queueState s).out = s.out := rfl
@[simp] theorem queueState_freeCount : (queueState s).freeCount = s.freeCount := rfl
@[simp] theorem queueState_pending : (queueState s).pending = s.pending := rfl

/-! ### `setInput` -/

@[simp] theorem setInput_phase (i : InputNo) (r : InputRecord) : (setInput i r s).phase = s.phase := rfl
@[simp] theorem setInput_own (i : InputNo) (r : InputRecord) : (setInput i r s).own = s.own := rfl
@[simp] theorem setInput_role (i : InputNo) (r : InputRecord) : (setInput i r s).role = s.role := rfl
@[simp] theorem setInput_uptime (i : InputNo) (r : InputRecord) : (setInput i r s).uptime = s.uptime := rfl
@[simp] theorem setInput_minuteLeft (i : InputNo) (r : InputRecord) : (setInput i r s).minuteLeft = s.minuteLeft := rfl
@[simp] theorem setInput_cfg (i : InputNo) (r : InputRecord) : (setInput i r s).cfg = s.cfg := rfl
@[simp] theorem setInput_sup (i : InputNo) (r : InputRecord) :
    (setInput i r s).sup =
      { s.sup with inputs := s.sup.inputs.set i.val r } := rfl
@[simp] theorem setInput_fire (i : InputNo) (r : InputRecord) : (setInput i r s).fire = s.fire := rfl
@[simp] theorem setInput_climate (i : InputNo) (r : InputRecord) : (setInput i r s).climate = s.climate := rfl
@[simp] theorem setInput_allot (i : InputNo) (r : InputRecord) : (setInput i r s).allot = s.allot := rfl
@[simp] theorem setInput_scanner (i : InputNo) (r : InputRecord) : (setInput i r s).scanner = s.scanner := rfl
@[simp] theorem setInput_reader (i : InputNo) (r : InputRecord) : (setInput i r s).reader = s.reader := rfl
@[simp] theorem setInput_consignments (i : InputNo) (r : InputRecord) : (setInput i r s).consignments = s.consignments := rfl
@[simp] theorem setInput_custody (i : InputNo) (r : InputRecord) : (setInput i r s).custody = s.custody := rfl
@[simp] theorem setInput_hold (i : InputNo) (r : InputRecord) : (setInput i r s).hold = s.hold := rfl
@[simp] theorem setInput_line (i : InputNo) (r : InputRecord) : (setInput i r s).line = s.line := rfl
@[simp] theorem setInput_out (i : InputNo) (r : InputRecord) : (setInput i r s).out = s.out := rfl
@[simp] theorem setInput_freeCount (i : InputNo) (r : InputRecord) : (setInput i r s).freeCount = s.freeCount := rfl
@[simp] theorem setInput_pending (i : InputNo) (r : InputRecord) : (setInput i r s).pending = s.pending := rfl

/-! ### `setLatch` -/

@[simp] theorem setLatch_phase (i : InputNo) (l : Latch) : (setLatch i l s).phase = s.phase := rfl
@[simp] theorem setLatch_own (i : InputNo) (l : Latch) : (setLatch i l s).own = s.own := rfl
@[simp] theorem setLatch_role (i : InputNo) (l : Latch) : (setLatch i l s).role = s.role := rfl
@[simp] theorem setLatch_uptime (i : InputNo) (l : Latch) : (setLatch i l s).uptime = s.uptime := rfl
@[simp] theorem setLatch_minuteLeft (i : InputNo) (l : Latch) : (setLatch i l s).minuteLeft = s.minuteLeft := rfl
@[simp] theorem setLatch_cfg (i : InputNo) (l : Latch) : (setLatch i l s).cfg = s.cfg := rfl
@[simp] theorem setLatch_sup (i : InputNo) (l : Latch) : (setLatch i l s).sup = s.sup := rfl
@[simp] theorem setLatch_fire (i : InputNo) (l : Latch) :
    (setLatch i l s).fire =
      { s.fire with latches := s.fire.latches.set i.val l } := rfl
@[simp] theorem setLatch_climate (i : InputNo) (l : Latch) : (setLatch i l s).climate = s.climate := rfl
@[simp] theorem setLatch_allot (i : InputNo) (l : Latch) : (setLatch i l s).allot = s.allot := rfl
@[simp] theorem setLatch_scanner (i : InputNo) (l : Latch) : (setLatch i l s).scanner = s.scanner := rfl
@[simp] theorem setLatch_reader (i : InputNo) (l : Latch) : (setLatch i l s).reader = s.reader := rfl
@[simp] theorem setLatch_consignments (i : InputNo) (l : Latch) : (setLatch i l s).consignments = s.consignments := rfl
@[simp] theorem setLatch_custody (i : InputNo) (l : Latch) : (setLatch i l s).custody = s.custody := rfl
@[simp] theorem setLatch_hold (i : InputNo) (l : Latch) : (setLatch i l s).hold = s.hold := rfl
@[simp] theorem setLatch_line (i : InputNo) (l : Latch) : (setLatch i l s).line = s.line := rfl
@[simp] theorem setLatch_out (i : InputNo) (l : Latch) : (setLatch i l s).out = s.out := rfl
@[simp] theorem setLatch_freeCount (i : InputNo) (l : Latch) : (setLatch i l s).freeCount = s.freeCount := rfl
@[simp] theorem setLatch_pending (i : InputNo) (l : Latch) : (setLatch i l s).pending = s.pending := rfl

/-! ### `withLine` -/

@[simp] theorem withLine_phase (l : LineController) : (withLine l s).phase = s.phase := rfl
@[simp] theorem withLine_own (l : LineController) : (withLine l s).own = s.own := rfl
@[simp] theorem withLine_role (l : LineController) : (withLine l s).role = s.role := rfl
@[simp] theorem withLine_uptime (l : LineController) : (withLine l s).uptime = s.uptime := rfl
@[simp] theorem withLine_minuteLeft (l : LineController) : (withLine l s).minuteLeft = s.minuteLeft := rfl
@[simp] theorem withLine_cfg (l : LineController) : (withLine l s).cfg = s.cfg := rfl
@[simp] theorem withLine_sup (l : LineController) : (withLine l s).sup = s.sup := rfl
@[simp] theorem withLine_fire (l : LineController) : (withLine l s).fire = s.fire := rfl
@[simp] theorem withLine_climate (l : LineController) : (withLine l s).climate = s.climate := rfl
@[simp] theorem withLine_allot (l : LineController) : (withLine l s).allot = s.allot := rfl
@[simp] theorem withLine_scanner (l : LineController) : (withLine l s).scanner = s.scanner := rfl
@[simp] theorem withLine_reader (l : LineController) : (withLine l s).reader = s.reader := rfl
@[simp] theorem withLine_consignments (l : LineController) : (withLine l s).consignments = s.consignments := rfl
@[simp] theorem withLine_custody (l : LineController) : (withLine l s).custody = s.custody := rfl
@[simp] theorem withLine_hold (l : LineController) : (withLine l s).hold = s.hold := rfl
@[simp] theorem withLine_line (l : LineController) : (withLine l s).line = l := rfl
@[simp] theorem withLine_out (l : LineController) : (withLine l s).out = s.out := rfl
@[simp] theorem withLine_freeCount (l : LineController) : (withLine l s).freeCount = s.freeCount := rfl
@[simp] theorem withLine_pending (l : LineController) : (withLine l s).pending = s.pending := rfl

/-! ### `setReceiving` -/

@[simp] theorem setReceiving_phase (b : Bool) : (setReceiving b s).phase = s.phase := rfl
@[simp] theorem setReceiving_own (b : Bool) : (setReceiving b s).own = s.own := rfl
@[simp] theorem setReceiving_role (b : Bool) : (setReceiving b s).role = s.role := rfl
@[simp] theorem setReceiving_uptime (b : Bool) : (setReceiving b s).uptime = s.uptime := rfl
@[simp] theorem setReceiving_minuteLeft (b : Bool) : (setReceiving b s).minuteLeft = s.minuteLeft := rfl
@[simp] theorem setReceiving_cfg (b : Bool) : (setReceiving b s).cfg = s.cfg := rfl
@[simp] theorem setReceiving_sup (b : Bool) : (setReceiving b s).sup = s.sup := rfl
@[simp] theorem setReceiving_fire (b : Bool) : (setReceiving b s).fire = s.fire := rfl
@[simp] theorem setReceiving_climate (b : Bool) : (setReceiving b s).climate = s.climate := rfl
@[simp] theorem setReceiving_allot (b : Bool) : (setReceiving b s).allot = s.allot := rfl
@[simp] theorem setReceiving_scanner (b : Bool) : (setReceiving b s).scanner = s.scanner := rfl
@[simp] theorem setReceiving_reader (b : Bool) : (setReceiving b s).reader = s.reader := rfl
@[simp] theorem setReceiving_consignments (b : Bool) : (setReceiving b s).consignments = s.consignments := rfl
@[simp] theorem setReceiving_custody (b : Bool) : (setReceiving b s).custody = s.custody := rfl
@[simp] theorem setReceiving_hold (b : Bool) : (setReceiving b s).hold = s.hold := rfl
@[simp] theorem setReceiving_line (b : Bool) : (setReceiving b s).line = { s.line with receiving := b } := rfl
@[simp] theorem setReceiving_out (b : Bool) : (setReceiving b s).out = s.out := rfl
@[simp] theorem setReceiving_freeCount (b : Bool) : (setReceiving b s).freeCount = s.freeCount := rfl
@[simp] theorem setReceiving_pending (b : Bool) : (setReceiving b s).pending = s.pending := rfl

/-! ### `setPeer` -/

@[simp] theorem setPeer_phase (n : Nat) (p : Peer) : (setPeer n p s).phase = s.phase := rfl
@[simp] theorem setPeer_own (n : Nat) (p : Peer) : (setPeer n p s).own = s.own := rfl
@[simp] theorem setPeer_role (n : Nat) (p : Peer) : (setPeer n p s).role = s.role := rfl
@[simp] theorem setPeer_uptime (n : Nat) (p : Peer) : (setPeer n p s).uptime = s.uptime := rfl
@[simp] theorem setPeer_minuteLeft (n : Nat) (p : Peer) : (setPeer n p s).minuteLeft = s.minuteLeft := rfl
@[simp] theorem setPeer_cfg (n : Nat) (p : Peer) : (setPeer n p s).cfg = s.cfg := rfl
@[simp] theorem setPeer_sup (n : Nat) (p : Peer) : (setPeer n p s).sup = s.sup := rfl
@[simp] theorem setPeer_fire (n : Nat) (p : Peer) : (setPeer n p s).fire = s.fire := rfl
@[simp] theorem setPeer_climate (n : Nat) (p : Peer) : (setPeer n p s).climate = s.climate := rfl
@[simp] theorem setPeer_allot (n : Nat) (p : Peer) : (setPeer n p s).allot = s.allot := rfl
@[simp] theorem setPeer_scanner (n : Nat) (p : Peer) : (setPeer n p s).scanner = s.scanner := rfl
@[simp] theorem setPeer_reader (n : Nat) (p : Peer) : (setPeer n p s).reader = s.reader := rfl
@[simp] theorem setPeer_consignments (n : Nat) (p : Peer) : (setPeer n p s).consignments = s.consignments := rfl
@[simp] theorem setPeer_custody (n : Nat) (p : Peer) : (setPeer n p s).custody = s.custody := rfl
@[simp] theorem setPeer_hold (n : Nat) (p : Peer) : (setPeer n p s).hold = s.hold := rfl
@[simp] theorem setPeer_line (n : Nat) (p : Peer) :
    (setPeer n p s).line =
      { s.line with peers := s.line.peers.set (n - 1) p } := rfl
@[simp] theorem setPeer_out (n : Nat) (p : Peer) : (setPeer n p s).out = s.out := rfl
@[simp] theorem setPeer_freeCount (n : Nat) (p : Peer) : (setPeer n p s).freeCount = s.freeCount := rfl
@[simp] theorem setPeer_pending (n : Nat) (p : Peer) : (setPeer n p s).pending = s.pending := rfl

/-! ### `withReader` -/

@[simp] theorem withReader_phase (r : ReaderPort) : (withReader r s).phase = s.phase := rfl
@[simp] theorem withReader_own (r : ReaderPort) : (withReader r s).own = s.own := rfl
@[simp] theorem withReader_role (r : ReaderPort) : (withReader r s).role = s.role := rfl
@[simp] theorem withReader_uptime (r : ReaderPort) : (withReader r s).uptime = s.uptime := rfl
@[simp] theorem withReader_minuteLeft (r : ReaderPort) : (withReader r s).minuteLeft = s.minuteLeft := rfl
@[simp] theorem withReader_cfg (r : ReaderPort) : (withReader r s).cfg = s.cfg := rfl
@[simp] theorem withReader_sup (r : ReaderPort) : (withReader r s).sup = s.sup := rfl
@[simp] theorem withReader_fire (r : ReaderPort) : (withReader r s).fire = s.fire := rfl
@[simp] theorem withReader_climate (r : ReaderPort) : (withReader r s).climate = s.climate := rfl
@[simp] theorem withReader_allot (r : ReaderPort) : (withReader r s).allot = s.allot := rfl
@[simp] theorem withReader_scanner (r : ReaderPort) : (withReader r s).scanner = s.scanner := rfl
@[simp] theorem withReader_reader (r : ReaderPort) : (withReader r s).reader = r := rfl
@[simp] theorem withReader_consignments (r : ReaderPort) : (withReader r s).consignments = s.consignments := rfl
@[simp] theorem withReader_custody (r : ReaderPort) : (withReader r s).custody = s.custody := rfl
@[simp] theorem withReader_hold (r : ReaderPort) : (withReader r s).hold = s.hold := rfl
@[simp] theorem withReader_line (r : ReaderPort) : (withReader r s).line = s.line := rfl
@[simp] theorem withReader_out (r : ReaderPort) : (withReader r s).out = s.out := rfl
@[simp] theorem withReader_freeCount (r : ReaderPort) : (withReader r s).freeCount = s.freeCount := rfl
@[simp] theorem withReader_pending (r : ReaderPort) : (withReader r s).pending = s.pending := rfl

/-! ### `withCustody` -/

@[simp] theorem withCustody_phase (es : List CustodyEntry) : (withCustody es s).phase = s.phase := rfl
@[simp] theorem withCustody_own (es : List CustodyEntry) : (withCustody es s).own = s.own := rfl
@[simp] theorem withCustody_role (es : List CustodyEntry) : (withCustody es s).role = s.role := rfl
@[simp] theorem withCustody_uptime (es : List CustodyEntry) : (withCustody es s).uptime = s.uptime := rfl
@[simp] theorem withCustody_minuteLeft (es : List CustodyEntry) : (withCustody es s).minuteLeft = s.minuteLeft := rfl
@[simp] theorem withCustody_cfg (es : List CustodyEntry) : (withCustody es s).cfg = s.cfg := rfl
@[simp] theorem withCustody_sup (es : List CustodyEntry) : (withCustody es s).sup = s.sup := rfl
@[simp] theorem withCustody_fire (es : List CustodyEntry) : (withCustody es s).fire = s.fire := rfl
@[simp] theorem withCustody_climate (es : List CustodyEntry) : (withCustody es s).climate = s.climate := rfl
@[simp] theorem withCustody_allot (es : List CustodyEntry) : (withCustody es s).allot = s.allot := rfl
@[simp] theorem withCustody_scanner (es : List CustodyEntry) : (withCustody es s).scanner = s.scanner := rfl
@[simp] theorem withCustody_reader (es : List CustodyEntry) : (withCustody es s).reader = s.reader := rfl
@[simp] theorem withCustody_consignments (es : List CustodyEntry) : (withCustody es s).consignments = s.consignments := rfl
@[simp] theorem withCustody_custody (es : List CustodyEntry) :
    (withCustody es s).custody =
      { s.custody with entries := es } := rfl
@[simp] theorem withCustody_hold (es : List CustodyEntry) : (withCustody es s).hold = s.hold := rfl
@[simp] theorem withCustody_line (es : List CustodyEntry) : (withCustody es s).line = s.line := rfl
@[simp] theorem withCustody_out (es : List CustodyEntry) : (withCustody es s).out = s.out := rfl
@[simp] theorem withCustody_freeCount (es : List CustodyEntry) : (withCustody es s).freeCount = s.freeCount := rfl
@[simp] theorem withCustody_pending (es : List CustodyEntry) : (withCustody es s).pending = s.pending := rfl

/-! ### `mapCustody` -/

@[simp] theorem mapCustody_phase (g : CustodyEntry → CustodyEntry) : (mapCustody g s).phase = s.phase := rfl
@[simp] theorem mapCustody_own (g : CustodyEntry → CustodyEntry) : (mapCustody g s).own = s.own := rfl
@[simp] theorem mapCustody_role (g : CustodyEntry → CustodyEntry) : (mapCustody g s).role = s.role := rfl
@[simp] theorem mapCustody_uptime (g : CustodyEntry → CustodyEntry) : (mapCustody g s).uptime = s.uptime := rfl
@[simp] theorem mapCustody_minuteLeft (g : CustodyEntry → CustodyEntry) : (mapCustody g s).minuteLeft = s.minuteLeft := rfl
@[simp] theorem mapCustody_cfg (g : CustodyEntry → CustodyEntry) : (mapCustody g s).cfg = s.cfg := rfl
@[simp] theorem mapCustody_sup (g : CustodyEntry → CustodyEntry) : (mapCustody g s).sup = s.sup := rfl
@[simp] theorem mapCustody_fire (g : CustodyEntry → CustodyEntry) : (mapCustody g s).fire = s.fire := rfl
@[simp] theorem mapCustody_climate (g : CustodyEntry → CustodyEntry) : (mapCustody g s).climate = s.climate := rfl
@[simp] theorem mapCustody_allot (g : CustodyEntry → CustodyEntry) : (mapCustody g s).allot = s.allot := rfl
@[simp] theorem mapCustody_scanner (g : CustodyEntry → CustodyEntry) : (mapCustody g s).scanner = s.scanner := rfl
@[simp] theorem mapCustody_reader (g : CustodyEntry → CustodyEntry) : (mapCustody g s).reader = s.reader := rfl
@[simp] theorem mapCustody_consignments (g : CustodyEntry → CustodyEntry) : (mapCustody g s).consignments = s.consignments := rfl
@[simp] theorem mapCustody_custody (g : CustodyEntry → CustodyEntry) :
    (mapCustody g s).custody =
      { s.custody with entries := s.custody.entries.map g } := rfl
@[simp] theorem mapCustody_hold (g : CustodyEntry → CustodyEntry) : (mapCustody g s).hold = s.hold := rfl
@[simp] theorem mapCustody_line (g : CustodyEntry → CustodyEntry) : (mapCustody g s).line = s.line := rfl
@[simp] theorem mapCustody_out (g : CustodyEntry → CustodyEntry) : (mapCustody g s).out = s.out := rfl
@[simp] theorem mapCustody_freeCount (g : CustodyEntry → CustodyEntry) : (mapCustody g s).freeCount = s.freeCount := rfl
@[simp] theorem mapCustody_pending (g : CustodyEntry → CustodyEntry) : (mapCustody g s).pending = s.pending := rfl

/-! ### `updateCustody` -/

@[simp] theorem updateCustody_phase (t : Tag) (g : CustodyEntry → CustodyEntry) : (updateCustody t g s).phase = s.phase := rfl
@[simp] theorem updateCustody_own (t : Tag) (g : CustodyEntry → CustodyEntry) : (updateCustody t g s).own = s.own := rfl
@[simp] theorem updateCustody_role (t : Tag) (g : CustodyEntry → CustodyEntry) : (updateCustody t g s).role = s.role := rfl
@[simp] theorem updateCustody_uptime (t : Tag) (g : CustodyEntry → CustodyEntry) : (updateCustody t g s).uptime = s.uptime := rfl
@[simp] theorem updateCustody_minuteLeft (t : Tag) (g : CustodyEntry → CustodyEntry) : (updateCustody t g s).minuteLeft = s.minuteLeft := rfl
@[simp] theorem updateCustody_cfg (t : Tag) (g : CustodyEntry → CustodyEntry) : (updateCustody t g s).cfg = s.cfg := rfl
@[simp] theorem updateCustody_sup (t : Tag) (g : CustodyEntry → CustodyEntry) : (updateCustody t g s).sup = s.sup := rfl
@[simp] theorem updateCustody_fire (t : Tag) (g : CustodyEntry → CustodyEntry) : (updateCustody t g s).fire = s.fire := rfl
@[simp] theorem updateCustody_climate (t : Tag) (g : CustodyEntry → CustodyEntry) : (updateCustody t g s).climate = s.climate := rfl
@[simp] theorem updateCustody_allot (t : Tag) (g : CustodyEntry → CustodyEntry) : (updateCustody t g s).allot = s.allot := rfl
@[simp] theorem updateCustody_scanner (t : Tag) (g : CustodyEntry → CustodyEntry) : (updateCustody t g s).scanner = s.scanner := rfl
@[simp] theorem updateCustody_reader (t : Tag) (g : CustodyEntry → CustodyEntry) : (updateCustody t g s).reader = s.reader := rfl
@[simp] theorem updateCustody_consignments (t : Tag) (g : CustodyEntry → CustodyEntry) : (updateCustody t g s).consignments = s.consignments := rfl
@[simp] theorem updateCustody_custody (t : Tag) (g : CustodyEntry → CustodyEntry) :
    (updateCustody t g s).custody =
      { s.custody with entries := s.custody.entries.map fun e => if e.tag = t then g e else e } := rfl
@[simp] theorem updateCustody_hold (t : Tag) (g : CustodyEntry → CustodyEntry) : (updateCustody t g s).hold = s.hold := rfl
@[simp] theorem updateCustody_line (t : Tag) (g : CustodyEntry → CustodyEntry) : (updateCustody t g s).line = s.line := rfl
@[simp] theorem updateCustody_out (t : Tag) (g : CustodyEntry → CustodyEntry) : (updateCustody t g s).out = s.out := rfl
@[simp] theorem updateCustody_freeCount (t : Tag) (g : CustodyEntry → CustodyEntry) : (updateCustody t g s).freeCount = s.freeCount := rfl
@[simp] theorem updateCustody_pending (t : Tag) (g : CustodyEntry → CustodyEntry) : (updateCustody t g s).pending = s.pending := rfl

/-! ### `removeCustody` -/

@[simp] theorem removeCustody_phase (t : Tag) : (removeCustody t s).phase = s.phase := rfl
@[simp] theorem removeCustody_own (t : Tag) : (removeCustody t s).own = s.own := rfl
@[simp] theorem removeCustody_role (t : Tag) : (removeCustody t s).role = s.role := rfl
@[simp] theorem removeCustody_uptime (t : Tag) : (removeCustody t s).uptime = s.uptime := rfl
@[simp] theorem removeCustody_minuteLeft (t : Tag) : (removeCustody t s).minuteLeft = s.minuteLeft := rfl
@[simp] theorem removeCustody_cfg (t : Tag) : (removeCustody t s).cfg = s.cfg := rfl
@[simp] theorem removeCustody_sup (t : Tag) : (removeCustody t s).sup = s.sup := rfl
@[simp] theorem removeCustody_fire (t : Tag) : (removeCustody t s).fire = s.fire := rfl
@[simp] theorem removeCustody_climate (t : Tag) : (removeCustody t s).climate = s.climate := rfl
@[simp] theorem removeCustody_allot (t : Tag) : (removeCustody t s).allot = s.allot := rfl
@[simp] theorem removeCustody_scanner (t : Tag) : (removeCustody t s).scanner = s.scanner := rfl
@[simp] theorem removeCustody_reader (t : Tag) : (removeCustody t s).reader = s.reader := rfl
@[simp] theorem removeCustody_consignments (t : Tag) : (removeCustody t s).consignments = s.consignments := rfl
@[simp] theorem removeCustody_custody (t : Tag) :
    (removeCustody t s).custody =
      { s.custody with entries := s.custody.entries.filter fun e => e.tag != t } := rfl
@[simp] theorem removeCustody_hold (t : Tag) : (removeCustody t s).hold = s.hold := rfl
@[simp] theorem removeCustody_line (t : Tag) : (removeCustody t s).line = s.line := rfl
@[simp] theorem removeCustody_out (t : Tag) : (removeCustody t s).out = s.out := rfl
@[simp] theorem removeCustody_freeCount (t : Tag) : (removeCustody t s).freeCount = s.freeCount := rfl
@[simp] theorem removeCustody_pending (t : Tag) : (removeCustody t s).pending = s.pending := rfl

/-! ### `addCustody` -/

@[simp] theorem addCustody_phase (e : CustodyEntry) : (addCustody e s).phase = s.phase := rfl
@[simp] theorem addCustody_own (e : CustodyEntry) : (addCustody e s).own = s.own := rfl
@[simp] theorem addCustody_role (e : CustodyEntry) : (addCustody e s).role = s.role := rfl
@[simp] theorem addCustody_uptime (e : CustodyEntry) : (addCustody e s).uptime = s.uptime := rfl
@[simp] theorem addCustody_minuteLeft (e : CustodyEntry) : (addCustody e s).minuteLeft = s.minuteLeft := rfl
@[simp] theorem addCustody_cfg (e : CustodyEntry) : (addCustody e s).cfg = s.cfg := rfl
@[simp] theorem addCustody_sup (e : CustodyEntry) : (addCustody e s).sup = s.sup := rfl
@[simp] theorem addCustody_fire (e : CustodyEntry) : (addCustody e s).fire = s.fire := rfl
@[simp] theorem addCustody_climate (e : CustodyEntry) : (addCustody e s).climate = s.climate := rfl
@[simp] theorem addCustody_allot (e : CustodyEntry) : (addCustody e s).allot = s.allot := rfl
@[simp] theorem addCustody_scanner (e : CustodyEntry) : (addCustody e s).scanner = s.scanner := rfl
@[simp] theorem addCustody_reader (e : CustodyEntry) : (addCustody e s).reader = s.reader := rfl
@[simp] theorem addCustody_consignments (e : CustodyEntry) : (addCustody e s).consignments = s.consignments := rfl
@[simp] theorem addCustody_custody (e : CustodyEntry) :
    (addCustody e s).custody =
      { s.custody with entries := s.custody.entries ++ [e] } := rfl
@[simp] theorem addCustody_hold (e : CustodyEntry) : (addCustody e s).hold = s.hold := rfl
@[simp] theorem addCustody_line (e : CustodyEntry) : (addCustody e s).line = s.line := rfl
@[simp] theorem addCustody_out (e : CustodyEntry) : (addCustody e s).out = s.out := rfl
@[simp] theorem addCustody_freeCount (e : CustodyEntry) : (addCustody e s).freeCount = s.freeCount := rfl
@[simp] theorem addCustody_pending (e : CustodyEntry) : (addCustody e s).pending = s.pending := rfl

/-! ### `addReply` -/

@[simp] theorem addReply_phase (r : Reply) : (addReply r s).phase = s.phase := rfl
@[simp] theorem addReply_own (r : Reply) : (addReply r s).own = s.own := rfl
@[simp] theorem addReply_role (r : Reply) : (addReply r s).role = s.role := rfl
@[simp] theorem addReply_uptime (r : Reply) : (addReply r s).uptime = s.uptime := rfl
@[simp] theorem addReply_minuteLeft (r : Reply) : (addReply r s).minuteLeft = s.minuteLeft := rfl
@[simp] theorem addReply_cfg (r : Reply) : (addReply r s).cfg = s.cfg := rfl
@[simp] theorem addReply_sup (r : Reply) : (addReply r s).sup = s.sup := rfl
@[simp] theorem addReply_fire (r : Reply) : (addReply r s).fire = s.fire := rfl
@[simp] theorem addReply_climate (r : Reply) : (addReply r s).climate = s.climate := rfl
@[simp] theorem addReply_allot (r : Reply) : (addReply r s).allot = s.allot := rfl
@[simp] theorem addReply_scanner (r : Reply) : (addReply r s).scanner = s.scanner := rfl
@[simp] theorem addReply_reader (r : Reply) : (addReply r s).reader = s.reader := rfl
@[simp] theorem addReply_consignments (r : Reply) : (addReply r s).consignments = s.consignments := rfl
@[simp] theorem addReply_custody (r : Reply) :
    (addReply r s).custody =
      { s.custody with replies := pushReply s.custody.replies r } := rfl
@[simp] theorem addReply_hold (r : Reply) : (addReply r s).hold = s.hold := rfl
@[simp] theorem addReply_line (r : Reply) : (addReply r s).line = s.line := rfl
@[simp] theorem addReply_out (r : Reply) : (addReply r s).out = s.out := rfl
@[simp] theorem addReply_freeCount (r : Reply) : (addReply r s).freeCount = s.freeCount := rfl
@[simp] theorem addReply_pending (r : Reply) : (addReply r s).pending = s.pending := rfl

/-! ### `settleOffers` -/

@[simp] theorem settleOffers_phase : (settleOffers s).phase = s.phase := rfl
@[simp] theorem settleOffers_own : (settleOffers s).own = s.own := rfl
@[simp] theorem settleOffers_role : (settleOffers s).role = s.role := rfl
@[simp] theorem settleOffers_uptime : (settleOffers s).uptime = s.uptime := rfl
@[simp] theorem settleOffers_minuteLeft : (settleOffers s).minuteLeft = s.minuteLeft := rfl
@[simp] theorem settleOffers_cfg : (settleOffers s).cfg = s.cfg := rfl
@[simp] theorem settleOffers_sup : (settleOffers s).sup = s.sup := rfl
@[simp] theorem settleOffers_fire : (settleOffers s).fire = s.fire := rfl
@[simp] theorem settleOffers_climate : (settleOffers s).climate = s.climate := rfl
@[simp] theorem settleOffers_allot : (settleOffers s).allot = s.allot := rfl
@[simp] theorem settleOffers_scanner : (settleOffers s).scanner = s.scanner := rfl
@[simp] theorem settleOffers_reader : (settleOffers s).reader = s.reader := rfl
@[simp] theorem settleOffers_consignments : (settleOffers s).consignments = s.consignments := rfl
@[simp] theorem settleOffers_custody :
    (settleOffers s).custody =
      { s.custody with entries := s.custody.entries.map (settleOffer s) } := rfl
@[simp] theorem settleOffers_hold : (settleOffers s).hold = s.hold := rfl
@[simp] theorem settleOffers_line : (settleOffers s).line = s.line := rfl
@[simp] theorem settleOffers_out : (settleOffers s).out = s.out := rfl
@[simp] theorem settleOffers_freeCount : (settleOffers s).freeCount = s.freeCount := rfl
@[simp] theorem settleOffers_pending : (settleOffers s).pending = s.pending := rfl

/-! ### `mapSlots` -/

@[simp] theorem mapSlots_phase (g : Slot → Slot) : (mapSlots g s).phase = s.phase := rfl
@[simp] theorem mapSlots_own (g : Slot → Slot) : (mapSlots g s).own = s.own := rfl
@[simp] theorem mapSlots_role (g : Slot → Slot) : (mapSlots g s).role = s.role := rfl
@[simp] theorem mapSlots_uptime (g : Slot → Slot) : (mapSlots g s).uptime = s.uptime := rfl
@[simp] theorem mapSlots_minuteLeft (g : Slot → Slot) : (mapSlots g s).minuteLeft = s.minuteLeft := rfl
@[simp] theorem mapSlots_cfg (g : Slot → Slot) : (mapSlots g s).cfg = s.cfg := rfl
@[simp] theorem mapSlots_sup (g : Slot → Slot) : (mapSlots g s).sup = s.sup := rfl
@[simp] theorem mapSlots_fire (g : Slot → Slot) : (mapSlots g s).fire = s.fire := rfl
@[simp] theorem mapSlots_climate (g : Slot → Slot) : (mapSlots g s).climate = s.climate := rfl
@[simp] theorem mapSlots_allot (g : Slot → Slot) : (mapSlots g s).allot = s.allot := rfl
@[simp] theorem mapSlots_scanner (g : Slot → Slot) :
    (mapSlots g s).scanner =
      { s.scanner with slots := s.scanner.slots.map g } := rfl
@[simp] theorem mapSlots_reader (g : Slot → Slot) : (mapSlots g s).reader = s.reader := rfl
@[simp] theorem mapSlots_consignments (g : Slot → Slot) : (mapSlots g s).consignments = s.consignments := rfl
@[simp] theorem mapSlots_custody (g : Slot → Slot) : (mapSlots g s).custody = s.custody := rfl
@[simp] theorem mapSlots_hold (g : Slot → Slot) : (mapSlots g s).hold = s.hold := rfl
@[simp] theorem mapSlots_line (g : Slot → Slot) : (mapSlots g s).line = s.line := rfl
@[simp] theorem mapSlots_out (g : Slot → Slot) : (mapSlots g s).out = s.out := rfl
@[simp] theorem mapSlots_freeCount (g : Slot → Slot) : (mapSlots g s).freeCount = s.freeCount := rfl
@[simp] theorem mapSlots_pending (g : Slot → Slot) : (mapSlots g s).pending = s.pending := rfl

/-! ### `updateSlot` -/

@[simp] theorem updateSlot_phase (n : Nat) (g : Slot → Slot) : (updateSlot n g s).phase = s.phase := rfl
@[simp] theorem updateSlot_own (n : Nat) (g : Slot → Slot) : (updateSlot n g s).own = s.own := rfl
@[simp] theorem updateSlot_role (n : Nat) (g : Slot → Slot) : (updateSlot n g s).role = s.role := rfl
@[simp] theorem updateSlot_uptime (n : Nat) (g : Slot → Slot) : (updateSlot n g s).uptime = s.uptime := rfl
@[simp] theorem updateSlot_minuteLeft (n : Nat) (g : Slot → Slot) : (updateSlot n g s).minuteLeft = s.minuteLeft := rfl
@[simp] theorem updateSlot_cfg (n : Nat) (g : Slot → Slot) : (updateSlot n g s).cfg = s.cfg := rfl
@[simp] theorem updateSlot_sup (n : Nat) (g : Slot → Slot) : (updateSlot n g s).sup = s.sup := rfl
@[simp] theorem updateSlot_fire (n : Nat) (g : Slot → Slot) : (updateSlot n g s).fire = s.fire := rfl
@[simp] theorem updateSlot_climate (n : Nat) (g : Slot → Slot) : (updateSlot n g s).climate = s.climate := rfl
@[simp] theorem updateSlot_allot (n : Nat) (g : Slot → Slot) : (updateSlot n g s).allot = s.allot := rfl
@[simp] theorem updateSlot_scanner (n : Nat) (g : Slot → Slot) :
    (updateSlot n g s).scanner =
      { s.scanner with slots := s.scanner.slots.map fun sl => if sl.number = n then g sl else sl } := rfl
@[simp] theorem updateSlot_reader (n : Nat) (g : Slot → Slot) : (updateSlot n g s).reader = s.reader := rfl
@[simp] theorem updateSlot_consignments (n : Nat) (g : Slot → Slot) : (updateSlot n g s).consignments = s.consignments := rfl
@[simp] theorem updateSlot_custody (n : Nat) (g : Slot → Slot) : (updateSlot n g s).custody = s.custody := rfl
@[simp] theorem updateSlot_hold (n : Nat) (g : Slot → Slot) : (updateSlot n g s).hold = s.hold := rfl
@[simp] theorem updateSlot_line (n : Nat) (g : Slot → Slot) : (updateSlot n g s).line = s.line := rfl
@[simp] theorem updateSlot_out (n : Nat) (g : Slot → Slot) : (updateSlot n g s).out = s.out := rfl
@[simp] theorem updateSlot_freeCount (n : Nat) (g : Slot → Slot) : (updateSlot n g s).freeCount = s.freeCount := rfl
@[simp] theorem updateSlot_pending (n : Nat) (g : Slot → Slot) : (updateSlot n g s).pending = s.pending := rfl

/-! ### `mapRecords` -/

@[simp] theorem mapRecords_phase (g : Consignment → Consignment) : (mapRecords g s).phase = s.phase := rfl
@[simp] theorem mapRecords_own (g : Consignment → Consignment) : (mapRecords g s).own = s.own := rfl
@[simp] theorem mapRecords_role (g : Consignment → Consignment) : (mapRecords g s).role = s.role := rfl
@[simp] theorem mapRecords_uptime (g : Consignment → Consignment) : (mapRecords g s).uptime = s.uptime := rfl
@[simp] theorem mapRecords_minuteLeft (g : Consignment → Consignment) : (mapRecords g s).minuteLeft = s.minuteLeft := rfl
@[simp] theorem mapRecords_cfg (g : Consignment → Consignment) : (mapRecords g s).cfg = s.cfg := rfl
@[simp] theorem mapRecords_sup (g : Consignment → Consignment) : (mapRecords g s).sup = s.sup := rfl
@[simp] theorem mapRecords_fire (g : Consignment → Consignment) : (mapRecords g s).fire = s.fire := rfl
@[simp] theorem mapRecords_climate (g : Consignment → Consignment) : (mapRecords g s).climate = s.climate := rfl
@[simp] theorem mapRecords_allot (g : Consignment → Consignment) : (mapRecords g s).allot = s.allot := rfl
@[simp] theorem mapRecords_scanner (g : Consignment → Consignment) : (mapRecords g s).scanner = s.scanner := rfl
@[simp] theorem mapRecords_reader (g : Consignment → Consignment) : (mapRecords g s).reader = s.reader := rfl
@[simp] theorem mapRecords_consignments (g : Consignment → Consignment) :
    (mapRecords g s).consignments =
      s.consignments.map g := rfl
@[simp] theorem mapRecords_custody (g : Consignment → Consignment) : (mapRecords g s).custody = s.custody := rfl
@[simp] theorem mapRecords_hold (g : Consignment → Consignment) : (mapRecords g s).hold = s.hold := rfl
@[simp] theorem mapRecords_line (g : Consignment → Consignment) : (mapRecords g s).line = s.line := rfl
@[simp] theorem mapRecords_out (g : Consignment → Consignment) : (mapRecords g s).out = s.out := rfl
@[simp] theorem mapRecords_freeCount (g : Consignment → Consignment) : (mapRecords g s).freeCount = s.freeCount := rfl
@[simp] theorem mapRecords_pending (g : Consignment → Consignment) : (mapRecords g s).pending = s.pending := rfl

/-! ### `updateRecord` -/

@[simp] theorem updateRecord_phase (n : Nat) (g : Consignment → Consignment) : (updateRecord n g s).phase = s.phase := rfl
@[simp] theorem updateRecord_own (n : Nat) (g : Consignment → Consignment) : (updateRecord n g s).own = s.own := rfl
@[simp] theorem updateRecord_role (n : Nat) (g : Consignment → Consignment) : (updateRecord n g s).role = s.role := rfl
@[simp] theorem updateRecord_uptime (n : Nat) (g : Consignment → Consignment) : (updateRecord n g s).uptime = s.uptime := rfl
@[simp] theorem updateRecord_minuteLeft (n : Nat) (g : Consignment → Consignment) : (updateRecord n g s).minuteLeft = s.minuteLeft := rfl
@[simp] theorem updateRecord_cfg (n : Nat) (g : Consignment → Consignment) : (updateRecord n g s).cfg = s.cfg := rfl
@[simp] theorem updateRecord_sup (n : Nat) (g : Consignment → Consignment) : (updateRecord n g s).sup = s.sup := rfl
@[simp] theorem updateRecord_fire (n : Nat) (g : Consignment → Consignment) : (updateRecord n g s).fire = s.fire := rfl
@[simp] theorem updateRecord_climate (n : Nat) (g : Consignment → Consignment) : (updateRecord n g s).climate = s.climate := rfl
@[simp] theorem updateRecord_allot (n : Nat) (g : Consignment → Consignment) : (updateRecord n g s).allot = s.allot := rfl
@[simp] theorem updateRecord_scanner (n : Nat) (g : Consignment → Consignment) : (updateRecord n g s).scanner = s.scanner := rfl
@[simp] theorem updateRecord_reader (n : Nat) (g : Consignment → Consignment) : (updateRecord n g s).reader = s.reader := rfl
@[simp] theorem updateRecord_consignments (n : Nat) (g : Consignment → Consignment) :
    (updateRecord n g s).consignments =
      s.consignments.map fun c => if c.number = n then g c else c := rfl
@[simp] theorem updateRecord_custody (n : Nat) (g : Consignment → Consignment) : (updateRecord n g s).custody = s.custody := rfl
@[simp] theorem updateRecord_hold (n : Nat) (g : Consignment → Consignment) : (updateRecord n g s).hold = s.hold := rfl
@[simp] theorem updateRecord_line (n : Nat) (g : Consignment → Consignment) : (updateRecord n g s).line = s.line := rfl
@[simp] theorem updateRecord_out (n : Nat) (g : Consignment → Consignment) : (updateRecord n g s).out = s.out := rfl
@[simp] theorem updateRecord_freeCount (n : Nat) (g : Consignment → Consignment) : (updateRecord n g s).freeCount = s.freeCount := rfl
@[simp] theorem updateRecord_pending (n : Nat) (g : Consignment → Consignment) : (updateRecord n g s).pending = s.pending := rfl

/-! ### `removeRecord` -/

@[simp] theorem removeRecord_phase (n : Nat) : (removeRecord n s).phase = s.phase := rfl
@[simp] theorem removeRecord_own (n : Nat) : (removeRecord n s).own = s.own := rfl
@[simp] theorem removeRecord_role (n : Nat) : (removeRecord n s).role = s.role := rfl
@[simp] theorem removeRecord_uptime (n : Nat) : (removeRecord n s).uptime = s.uptime := rfl
@[simp] theorem removeRecord_minuteLeft (n : Nat) : (removeRecord n s).minuteLeft = s.minuteLeft := rfl
@[simp] theorem removeRecord_cfg (n : Nat) : (removeRecord n s).cfg = s.cfg := rfl
@[simp] theorem removeRecord_sup (n : Nat) : (removeRecord n s).sup = s.sup := rfl
@[simp] theorem removeRecord_fire (n : Nat) : (removeRecord n s).fire = s.fire := rfl
@[simp] theorem removeRecord_climate (n : Nat) : (removeRecord n s).climate = s.climate := rfl
@[simp] theorem removeRecord_allot (n : Nat) : (removeRecord n s).allot = s.allot := rfl
@[simp] theorem removeRecord_scanner (n : Nat) : (removeRecord n s).scanner = s.scanner := rfl
@[simp] theorem removeRecord_reader (n : Nat) : (removeRecord n s).reader = s.reader := rfl
@[simp] theorem removeRecord_consignments (n : Nat) :
    (removeRecord n s).consignments =
      s.consignments.filter fun c => c.number != n := rfl
@[simp] theorem removeRecord_custody (n : Nat) : (removeRecord n s).custody = s.custody := rfl
@[simp] theorem removeRecord_hold (n : Nat) : (removeRecord n s).hold = s.hold := rfl
@[simp] theorem removeRecord_line (n : Nat) : (removeRecord n s).line = s.line := rfl
@[simp] theorem removeRecord_out (n : Nat) : (removeRecord n s).out = s.out := rfl
@[simp] theorem removeRecord_freeCount (n : Nat) : (removeRecord n s).freeCount = s.freeCount := rfl
@[simp] theorem removeRecord_pending (n : Nat) : (removeRecord n s).pending = s.pending := rfl

/-! ### `setConv` -/

@[simp] theorem setConv_phase (c : Converting) : (setConv c s).phase = s.phase := rfl
@[simp] theorem setConv_own (c : Converting) : (setConv c s).own = s.own := rfl
@[simp] theorem setConv_role (c : Converting) : (setConv c s).role = s.role := rfl
@[simp] theorem setConv_uptime (c : Converting) : (setConv c s).uptime = s.uptime := rfl
@[simp] theorem setConv_minuteLeft (c : Converting) : (setConv c s).minuteLeft = s.minuteLeft := rfl
@[simp] theorem setConv_cfg (c : Converting) : (setConv c s).cfg = s.cfg := rfl
@[simp] theorem setConv_sup (c : Converting) : (setConv c s).sup = { s.sup with conv := c } := rfl
@[simp] theorem setConv_fire (c : Converting) : (setConv c s).fire = s.fire := rfl
@[simp] theorem setConv_climate (c : Converting) : (setConv c s).climate = s.climate := rfl
@[simp] theorem setConv_allot (c : Converting) : (setConv c s).allot = s.allot := rfl
@[simp] theorem setConv_scanner (c : Converting) : (setConv c s).scanner = s.scanner := rfl
@[simp] theorem setConv_reader (c : Converting) : (setConv c s).reader = s.reader := rfl
@[simp] theorem setConv_consignments (c : Converting) : (setConv c s).consignments = s.consignments := rfl
@[simp] theorem setConv_custody (c : Converting) : (setConv c s).custody = s.custody := rfl
@[simp] theorem setConv_hold (c : Converting) : (setConv c s).hold = s.hold := rfl
@[simp] theorem setConv_line (c : Converting) : (setConv c s).line = s.line := rfl
@[simp] theorem setConv_out (c : Converting) : (setConv c s).out = s.out := rfl
@[simp] theorem setConv_freeCount (c : Converting) : (setConv c s).freeCount = s.freeCount := rfl
@[simp] theorem setConv_pending (c : Converting) : (setConv c s).pending = s.pending := rfl

/-! ### `startSequence` -/

@[simp] theorem startSequence_phase : (startSequence s).phase = s.phase := rfl
@[simp] theorem startSequence_own : (startSequence s).own = s.own := rfl
@[simp] theorem startSequence_role : (startSequence s).role = s.role := rfl
@[simp] theorem startSequence_uptime : (startSequence s).uptime = s.uptime := rfl
@[simp] theorem startSequence_minuteLeft : (startSequence s).minuteLeft = s.minuteLeft := rfl
@[simp] theorem startSequence_cfg : (startSequence s).cfg = s.cfg := rfl
@[simp] theorem startSequence_sup : (startSequence s).sup = { s.sup with seq := some Sequence.fresh } := rfl
@[simp] theorem startSequence_fire : (startSequence s).fire = s.fire := rfl
@[simp] theorem startSequence_climate : (startSequence s).climate = s.climate := rfl
@[simp] theorem startSequence_allot : (startSequence s).allot = s.allot := rfl
@[simp] theorem startSequence_scanner : (startSequence s).scanner = s.scanner := rfl
@[simp] theorem startSequence_reader : (startSequence s).reader = s.reader := rfl
@[simp] theorem startSequence_consignments : (startSequence s).consignments = s.consignments := rfl
@[simp] theorem startSequence_custody : (startSequence s).custody = s.custody := rfl
@[simp] theorem startSequence_hold : (startSequence s).hold = s.hold := rfl
@[simp] theorem startSequence_line : (startSequence s).line = s.line := rfl
@[simp] theorem startSequence_out : (startSequence s).out = s.out := rfl
@[simp] theorem startSequence_freeCount : (startSequence s).freeCount = s.freeCount := rfl
@[simp] theorem startSequence_pending : (startSequence s).pending = s.pending := rfl

/-! ### `setManual` -/

@[simp] theorem setManual_phase (b : Bool) : (setManual b s).phase = s.phase := rfl
@[simp] theorem setManual_own (b : Bool) : (setManual b s).own = s.own := rfl
@[simp] theorem setManual_role (b : Bool) : (setManual b s).role = s.role := rfl
@[simp] theorem setManual_uptime (b : Bool) : (setManual b s).uptime = s.uptime := rfl
@[simp] theorem setManual_minuteLeft (b : Bool) : (setManual b s).minuteLeft = s.minuteLeft := rfl
@[simp] theorem setManual_cfg (b : Bool) : (setManual b s).cfg = s.cfg := rfl
@[simp] theorem setManual_sup (b : Bool) : (setManual b s).sup = s.sup := rfl
@[simp] theorem setManual_fire (b : Bool) : (setManual b s).fire = { s.fire with manual := b } := rfl
@[simp] theorem setManual_climate (b : Bool) : (setManual b s).climate = s.climate := rfl
@[simp] theorem setManual_allot (b : Bool) : (setManual b s).allot = s.allot := rfl
@[simp] theorem setManual_scanner (b : Bool) : (setManual b s).scanner = s.scanner := rfl
@[simp] theorem setManual_reader (b : Bool) : (setManual b s).reader = s.reader := rfl
@[simp] theorem setManual_consignments (b : Bool) : (setManual b s).consignments = s.consignments := rfl
@[simp] theorem setManual_custody (b : Bool) : (setManual b s).custody = s.custody := rfl
@[simp] theorem setManual_hold (b : Bool) : (setManual b s).hold = s.hold := rfl
@[simp] theorem setManual_line (b : Bool) : (setManual b s).line = s.line := rfl
@[simp] theorem setManual_out (b : Bool) : (setManual b s).out = s.out := rfl
@[simp] theorem setManual_freeCount (b : Bool) : (setManual b s).freeCount = s.freeCount := rfl
@[simp] theorem setManual_pending (b : Bool) : (setManual b s).pending = s.pending := rfl

/-! ### `setCountdown` -/

@[simp] theorem setCountdown_phase (n : Nat) : (setCountdown n s).phase = s.phase := rfl
@[simp] theorem setCountdown_own (n : Nat) : (setCountdown n s).own = s.own := rfl
@[simp] theorem setCountdown_role (n : Nat) : (setCountdown n s).role = s.role := rfl
@[simp] theorem setCountdown_uptime (n : Nat) : (setCountdown n s).uptime = s.uptime := rfl
@[simp] theorem setCountdown_minuteLeft (n : Nat) : (setCountdown n s).minuteLeft = s.minuteLeft := rfl
@[simp] theorem setCountdown_cfg (n : Nat) : (setCountdown n s).cfg = s.cfg := rfl
@[simp] theorem setCountdown_sup (n : Nat) : (setCountdown n s).sup = s.sup := rfl
@[simp] theorem setCountdown_fire (n : Nat) : (setCountdown n s).fire = { s.fire with countdown := some n } := rfl
@[simp] theorem setCountdown_climate (n : Nat) : (setCountdown n s).climate = s.climate := rfl
@[simp] theorem setCountdown_allot (n : Nat) : (setCountdown n s).allot = s.allot := rfl
@[simp] theorem setCountdown_scanner (n : Nat) : (setCountdown n s).scanner = s.scanner := rfl
@[simp] theorem setCountdown_reader (n : Nat) : (setCountdown n s).reader = s.reader := rfl
@[simp] theorem setCountdown_consignments (n : Nat) : (setCountdown n s).consignments = s.consignments := rfl
@[simp] theorem setCountdown_custody (n : Nat) : (setCountdown n s).custody = s.custody := rfl
@[simp] theorem setCountdown_hold (n : Nat) : (setCountdown n s).hold = s.hold := rfl
@[simp] theorem setCountdown_line (n : Nat) : (setCountdown n s).line = s.line := rfl
@[simp] theorem setCountdown_out (n : Nat) : (setCountdown n s).out = s.out := rfl
@[simp] theorem setCountdown_freeCount (n : Nat) : (setCountdown n s).freeCount = s.freeCount := rfl
@[simp] theorem setCountdown_pending (n : Nat) : (setCountdown n s).pending = s.pending := rfl

/-! ### `withAborts` -/

@[simp] theorem withAborts_phase (l : List InputNo) : (withAborts l s).phase = s.phase := rfl
@[simp] theorem withAborts_own (l : List InputNo) : (withAborts l s).own = s.own := rfl
@[simp] theorem withAborts_role (l : List InputNo) : (withAborts l s).role = s.role := rfl
@[simp] theorem withAborts_uptime (l : List InputNo) : (withAborts l s).uptime = s.uptime := rfl
@[simp] theorem withAborts_minuteLeft (l : List InputNo) : (withAborts l s).minuteLeft = s.minuteLeft := rfl
@[simp] theorem withAborts_cfg (l : List InputNo) : (withAborts l s).cfg = s.cfg := rfl
@[simp] theorem withAborts_sup (l : List InputNo) : (withAborts l s).sup = s.sup := rfl
@[simp] theorem withAborts_fire (l : List InputNo) : (withAborts l s).fire = { s.fire with ownAbort := l } := rfl
@[simp] theorem withAborts_climate (l : List InputNo) : (withAborts l s).climate = s.climate := rfl
@[simp] theorem withAborts_allot (l : List InputNo) : (withAborts l s).allot = s.allot := rfl
@[simp] theorem withAborts_scanner (l : List InputNo) : (withAborts l s).scanner = s.scanner := rfl
@[simp] theorem withAborts_reader (l : List InputNo) : (withAborts l s).reader = s.reader := rfl
@[simp] theorem withAborts_consignments (l : List InputNo) : (withAborts l s).consignments = s.consignments := rfl
@[simp] theorem withAborts_custody (l : List InputNo) : (withAborts l s).custody = s.custody := rfl
@[simp] theorem withAborts_hold (l : List InputNo) : (withAborts l s).hold = s.hold := rfl
@[simp] theorem withAborts_line (l : List InputNo) : (withAborts l s).line = s.line := rfl
@[simp] theorem withAborts_out (l : List InputNo) : (withAborts l s).out = s.out := rfl
@[simp] theorem withAborts_freeCount (l : List InputNo) : (withAborts l s).freeCount = s.freeCount := rfl
@[simp] theorem withAborts_pending (l : List InputNo) : (withAborts l s).pending = s.pending := rfl

/-! ### `closeEpisode` -/

@[simp] theorem closeEpisode_phase : (closeEpisode s).phase = s.phase := rfl
@[simp] theorem closeEpisode_own : (closeEpisode s).own = s.own := rfl
@[simp] theorem closeEpisode_role : (closeEpisode s).role = s.role := rfl
@[simp] theorem closeEpisode_uptime : (closeEpisode s).uptime = s.uptime := rfl
@[simp] theorem closeEpisode_minuteLeft : (closeEpisode s).minuteLeft = s.minuteLeft := rfl
@[simp] theorem closeEpisode_cfg : (closeEpisode s).cfg = s.cfg := rfl
@[simp] theorem closeEpisode_sup : (closeEpisode s).sup = s.sup := rfl
@[simp] theorem closeEpisode_fire : (closeEpisode s).fire = s.fire := rfl
@[simp] theorem closeEpisode_climate :
    (closeEpisode s).climate =
      { s.climate with episode := { s.climate.episode with status := .closed } } := rfl
@[simp] theorem closeEpisode_allot : (closeEpisode s).allot = s.allot := rfl
@[simp] theorem closeEpisode_scanner : (closeEpisode s).scanner = s.scanner := rfl
@[simp] theorem closeEpisode_reader : (closeEpisode s).reader = s.reader := rfl
@[simp] theorem closeEpisode_consignments : (closeEpisode s).consignments = s.consignments := rfl
@[simp] theorem closeEpisode_custody : (closeEpisode s).custody = s.custody := rfl
@[simp] theorem closeEpisode_hold : (closeEpisode s).hold = s.hold := rfl
@[simp] theorem closeEpisode_line : (closeEpisode s).line = s.line := rfl
@[simp] theorem closeEpisode_out : (closeEpisode s).out = s.out := rfl
@[simp] theorem closeEpisode_freeCount : (closeEpisode s).freeCount = s.freeCount := rfl
@[simp] theorem closeEpisode_pending : (closeEpisode s).pending = s.pending := rfl

/-! ### `setExcursion` -/

@[simp] theorem setExcursion_phase (e : ExcursionState) (x : Option Nat) : (setExcursion e x s).phase = s.phase := rfl
@[simp] theorem setExcursion_own (e : ExcursionState) (x : Option Nat) : (setExcursion e x s).own = s.own := rfl
@[simp] theorem setExcursion_role (e : ExcursionState) (x : Option Nat) : (setExcursion e x s).role = s.role := rfl
@[simp] theorem setExcursion_uptime (e : ExcursionState) (x : Option Nat) : (setExcursion e x s).uptime = s.uptime := rfl
@[simp] theorem setExcursion_minuteLeft (e : ExcursionState) (x : Option Nat) : (setExcursion e x s).minuteLeft = s.minuteLeft := rfl
@[simp] theorem setExcursion_cfg (e : ExcursionState) (x : Option Nat) : (setExcursion e x s).cfg = s.cfg := rfl
@[simp] theorem setExcursion_sup (e : ExcursionState) (x : Option Nat) : (setExcursion e x s).sup = s.sup := rfl
@[simp] theorem setExcursion_fire (e : ExcursionState) (x : Option Nat) : (setExcursion e x s).fire = s.fire := rfl
@[simp] theorem setExcursion_climate (e : ExcursionState) (x : Option Nat) :
    (setExcursion e x s).climate =
      { s.climate with excursion := e, excursionTimer := x } := rfl
@[simp] theorem setExcursion_allot (e : ExcursionState) (x : Option Nat) : (setExcursion e x s).allot = s.allot := rfl
@[simp] theorem setExcursion_scanner (e : ExcursionState) (x : Option Nat) : (setExcursion e x s).scanner = s.scanner := rfl
@[simp] theorem setExcursion_reader (e : ExcursionState) (x : Option Nat) : (setExcursion e x s).reader = s.reader := rfl
@[simp] theorem setExcursion_consignments (e : ExcursionState) (x : Option Nat) : (setExcursion e x s).consignments = s.consignments := rfl
@[simp] theorem setExcursion_custody (e : ExcursionState) (x : Option Nat) : (setExcursion e x s).custody = s.custody := rfl
@[simp] theorem setExcursion_hold (e : ExcursionState) (x : Option Nat) : (setExcursion e x s).hold = s.hold := rfl
@[simp] theorem setExcursion_line (e : ExcursionState) (x : Option Nat) : (setExcursion e x s).line = s.line := rfl
@[simp] theorem setExcursion_out (e : ExcursionState) (x : Option Nat) : (setExcursion e x s).out = s.out := rfl
@[simp] theorem setExcursion_freeCount (e : ExcursionState) (x : Option Nat) : (setExcursion e x s).freeCount = s.freeCount := rfl
@[simp] theorem setExcursion_pending (e : ExcursionState) (x : Option Nat) : (setExcursion e x s).pending = s.pending := rfl

/-! ### `moveFire` -/

@[simp] theorem moveFire_phase (f : FireState) : (moveFire f s).phase = s.phase := rfl
@[simp] theorem moveFire_own (f : FireState) : (moveFire f s).own = s.own := rfl
@[simp] theorem moveFire_role (f : FireState) : (moveFire f s).role = s.role := rfl
@[simp] theorem moveFire_uptime (f : FireState) : (moveFire f s).uptime = s.uptime := rfl
@[simp] theorem moveFire_minuteLeft (f : FireState) : (moveFire f s).minuteLeft = s.minuteLeft := rfl
@[simp] theorem moveFire_cfg (f : FireState) : (moveFire f s).cfg = s.cfg := rfl
@[simp] theorem moveFire_sup (f : FireState) : (moveFire f s).sup = s.sup := rfl
@[simp] theorem moveFire_fire (f : FireState) : (moveFire f s).fire =
    { s.fire with state := f, countdown := if f = .preDischarge then s.fire.countdown else none } := rfl
@[simp] theorem moveFire_climate (f : FireState) : (moveFire f s).climate =
    { s.climate with episode := episodeAfterMove s.fire.state f s.climate.episode } := rfl
@[simp] theorem moveFire_allot (f : FireState) : (moveFire f s).allot = s.allot := rfl
@[simp] theorem moveFire_scanner (f : FireState) : (moveFire f s).scanner = s.scanner := rfl
@[simp] theorem moveFire_reader (f : FireState) : (moveFire f s).reader = s.reader := rfl
@[simp] theorem moveFire_consignments (f : FireState) : (moveFire f s).consignments = s.consignments := rfl
@[simp] theorem moveFire_custody (f : FireState) : (moveFire f s).custody = s.custody := rfl
@[simp] theorem moveFire_hold (f : FireState) : (moveFire f s).hold = s.hold := rfl
@[simp] theorem moveFire_line (f : FireState) : (moveFire f s).line = s.line := rfl
@[simp] theorem moveFire_out (f : FireState) : (moveFire f s).out = s.out := rfl
@[simp] theorem moveFire_freeCount (f : FireState) : (moveFire f s).freeCount = s.freeCount := rfl
@[simp] theorem moveFire_pending (f : FireState) : (moveFire f s).pending = s.pending := rfl

/-! ### `queueReport` -/

@[simp] theorem queueReport_phase (r : Report) : (queueReport r s).phase = s.phase := by
  unfold queueReport; split <;> rfl
@[simp] theorem queueReport_own (r : Report) : (queueReport r s).own = s.own := by
  unfold queueReport; split <;> rfl
@[simp] theorem queueReport_role (r : Report) : (queueReport r s).role = s.role := by
  unfold queueReport; split <;> rfl
@[simp] theorem queueReport_uptime (r : Report) : (queueReport r s).uptime = s.uptime := by
  unfold queueReport; split <;> rfl
@[simp] theorem queueReport_minuteLeft (r : Report) : (queueReport r s).minuteLeft = s.minuteLeft := by
  unfold queueReport; split <;> rfl
@[simp] theorem queueReport_cfg (r : Report) : (queueReport r s).cfg = s.cfg := by
  unfold queueReport; split <;> rfl
@[simp] theorem queueReport_sup (r : Report) : (queueReport r s).sup = s.sup := by
  unfold queueReport; split <;> rfl
@[simp] theorem queueReport_fire (r : Report) : (queueReport r s).fire = s.fire := by
  unfold queueReport; split <;> rfl
@[simp] theorem queueReport_climate (r : Report) : (queueReport r s).climate = s.climate := by
  unfold queueReport; split <;> rfl
@[simp] theorem queueReport_allot (r : Report) : (queueReport r s).allot = s.allot := by
  unfold queueReport; split <;> rfl
@[simp] theorem queueReport_scanner (r : Report) : (queueReport r s).scanner = s.scanner := by
  unfold queueReport; split <;> rfl
@[simp] theorem queueReport_reader (r : Report) : (queueReport r s).reader = s.reader := by
  unfold queueReport; split <;> rfl
@[simp] theorem queueReport_consignments (r : Report) : (queueReport r s).consignments = s.consignments := by
  unfold queueReport; split <;> rfl
@[simp] theorem queueReport_custody (r : Report) : (queueReport r s).custody = s.custody := by
  unfold queueReport; split <;> rfl
@[simp] theorem queueReport_hold (r : Report) : (queueReport r s).hold = s.hold := by
  unfold queueReport; split <;> rfl
@[simp] theorem queueReport_out (r : Report) : (queueReport r s).out = s.out := by
  unfold queueReport; split <;> rfl
@[simp] theorem queueReport_freeCount (r : Report) : (queueReport r s).freeCount = s.freeCount := by
  unfold queueReport; split <;> rfl
@[simp] theorem queueReport_pending (r : Report) : (queueReport r s).pending = s.pending := by
  unfold queueReport; split <;> rfl
@[simp] theorem queueReport_line (r : Report) :
    (queueReport r s).line = if reportsGoOut s then pushReport r s.line else s.line := by
  unfold queueReport; split <;> rfl

/-! ### `tellTrouble` and `setTrouble` -/

@[simp] theorem tellTrouble_phase (x : Trouble) (b : Bool) : (tellTrouble x b s).phase = s.phase := by
  simp [tellTrouble]
@[simp] theorem tellTrouble_own (x : Trouble) (b : Bool) : (tellTrouble x b s).own = s.own := by
  simp [tellTrouble]
@[simp] theorem tellTrouble_role (x : Trouble) (b : Bool) : (tellTrouble x b s).role = s.role := by
  simp [tellTrouble]
@[simp] theorem tellTrouble_uptime (x : Trouble) (b : Bool) : (tellTrouble x b s).uptime = s.uptime := by
  simp [tellTrouble]
@[simp] theorem tellTrouble_minuteLeft (x : Trouble) (b : Bool) : (tellTrouble x b s).minuteLeft = s.minuteLeft := by
  simp [tellTrouble]
@[simp] theorem tellTrouble_cfg (x : Trouble) (b : Bool) : (tellTrouble x b s).cfg = s.cfg := by
  simp [tellTrouble]
@[simp] theorem tellTrouble_sup (x : Trouble) (b : Bool) : (tellTrouble x b s).sup = s.sup := by
  simp [tellTrouble]
@[simp] theorem tellTrouble_fire (x : Trouble) (b : Bool) : (tellTrouble x b s).fire = s.fire := by
  simp [tellTrouble]
@[simp] theorem tellTrouble_climate (x : Trouble) (b : Bool) : (tellTrouble x b s).climate = s.climate := by
  simp [tellTrouble]
@[simp] theorem tellTrouble_allot (x : Trouble) (b : Bool) : (tellTrouble x b s).allot = s.allot := by
  simp [tellTrouble]
@[simp] theorem tellTrouble_scanner (x : Trouble) (b : Bool) : (tellTrouble x b s).scanner = s.scanner := by
  simp [tellTrouble]
@[simp] theorem tellTrouble_reader (x : Trouble) (b : Bool) : (tellTrouble x b s).reader = s.reader := by
  simp [tellTrouble]
@[simp] theorem tellTrouble_consignments (x : Trouble) (b : Bool) : (tellTrouble x b s).consignments = s.consignments := by
  simp [tellTrouble]
@[simp] theorem tellTrouble_custody (x : Trouble) (b : Bool) : (tellTrouble x b s).custody = s.custody := by
  simp [tellTrouble]
@[simp] theorem tellTrouble_hold (x : Trouble) (b : Bool) : (tellTrouble x b s).hold = s.hold := by
  simp [tellTrouble]
@[simp] theorem tellTrouble_freeCount (x : Trouble) (b : Bool) : (tellTrouble x b s).freeCount = s.freeCount := by
  simp [tellTrouble]
@[simp] theorem tellTrouble_pending (x : Trouble) (b : Bool) : (tellTrouble x b s).pending = s.pending := by
  simp [tellTrouble]
@[simp] theorem setTrouble_phase (x : Trouble) (b : Bool) : (setTrouble x b s).phase = s.phase := by
  unfold setTrouble; split
  · rfl
  · split <;> simp
@[simp] theorem setTrouble_own (x : Trouble) (b : Bool) : (setTrouble x b s).own = s.own := by
  unfold setTrouble; split
  · rfl
  · split <;> simp
@[simp] theorem setTrouble_role (x : Trouble) (b : Bool) : (setTrouble x b s).role = s.role := by
  unfold setTrouble; split
  · rfl
  · split <;> simp
@[simp] theorem setTrouble_uptime (x : Trouble) (b : Bool) : (setTrouble x b s).uptime = s.uptime := by
  unfold setTrouble; split
  · rfl
  · split <;> simp
@[simp] theorem setTrouble_minuteLeft (x : Trouble) (b : Bool) : (setTrouble x b s).minuteLeft = s.minuteLeft := by
  unfold setTrouble; split
  · rfl
  · split <;> simp
@[simp] theorem setTrouble_cfg (x : Trouble) (b : Bool) : (setTrouble x b s).cfg = s.cfg := by
  unfold setTrouble; split
  · rfl
  · split <;> simp
@[simp] theorem setTrouble_sup (x : Trouble) (b : Bool) : (setTrouble x b s).sup = s.sup := by
  unfold setTrouble; split
  · rfl
  · split <;> simp
@[simp] theorem setTrouble_fire (x : Trouble) (b : Bool) : (setTrouble x b s).fire = s.fire := by
  unfold setTrouble; split
  · rfl
  · split <;> simp
@[simp] theorem setTrouble_climate (x : Trouble) (b : Bool) : (setTrouble x b s).climate = s.climate := by
  unfold setTrouble; split
  · rfl
  · split <;> simp
@[simp] theorem setTrouble_allot (x : Trouble) (b : Bool) : (setTrouble x b s).allot = s.allot := by
  unfold setTrouble; split
  · rfl
  · split <;> simp
@[simp] theorem setTrouble_scanner (x : Trouble) (b : Bool) : (setTrouble x b s).scanner = s.scanner := by
  unfold setTrouble; split
  · rfl
  · split <;> simp
@[simp] theorem setTrouble_reader (x : Trouble) (b : Bool) : (setTrouble x b s).reader = s.reader := by
  unfold setTrouble; split
  · rfl
  · split <;> simp
@[simp] theorem setTrouble_consignments (x : Trouble) (b : Bool) : (setTrouble x b s).consignments = s.consignments := by
  unfold setTrouble; split
  · rfl
  · split <;> simp
@[simp] theorem setTrouble_custody (x : Trouble) (b : Bool) : (setTrouble x b s).custody = s.custody := by
  unfold setTrouble; split
  · rfl
  · split <;> simp
@[simp] theorem setTrouble_hold (x : Trouble) (b : Bool) : (setTrouble x b s).hold = s.hold := by
  unfold setTrouble; split
  · rfl
  · split <;> simp
@[simp] theorem setTrouble_freeCount (x : Trouble) (b : Bool) : (setTrouble x b s).freeCount = s.freeCount := by
  unfold setTrouble; split
  · rfl
  · split <;> simp
@[simp] theorem setTrouble_pending (x : Trouble) (b : Bool) : (setTrouble x b s).pending = s.pending := by
  unfold setTrouble; split
  · rfl
  · split <;> simp

/-! ### `giveTag` -/

@[simp] theorem giveTag_phase (n : Nat) (t : Tag) : (giveTag n t s).phase = s.phase := rfl
@[simp] theorem giveTag_own (n : Nat) (t : Tag) : (giveTag n t s).own = s.own := rfl
@[simp] theorem giveTag_role (n : Nat) (t : Tag) : (giveTag n t s).role = s.role := rfl
@[simp] theorem giveTag_uptime (n : Nat) (t : Tag) : (giveTag n t s).uptime = s.uptime := rfl
@[simp] theorem giveTag_minuteLeft (n : Nat) (t : Tag) : (giveTag n t s).minuteLeft = s.minuteLeft := rfl
@[simp] theorem giveTag_cfg (n : Nat) (t : Tag) : (giveTag n t s).cfg = s.cfg := rfl
@[simp] theorem giveTag_sup (n : Nat) (t : Tag) : (giveTag n t s).sup = s.sup := rfl
@[simp] theorem giveTag_fire (n : Nat) (t : Tag) : (giveTag n t s).fire = s.fire := rfl
@[simp] theorem giveTag_climate (n : Nat) (t : Tag) : (giveTag n t s).climate = s.climate := rfl
@[simp] theorem giveTag_allot (n : Nat) (t : Tag) : (giveTag n t s).allot = s.allot := rfl
@[simp] theorem giveTag_reader (n : Nat) (t : Tag) : (giveTag n t s).reader = s.reader := rfl
@[simp] theorem giveTag_consignments (n : Nat) (t : Tag) : (giveTag n t s).consignments = s.consignments := rfl
@[simp] theorem giveTag_custody (n : Nat) (t : Tag) : (giveTag n t s).custody = s.custody := rfl
@[simp] theorem giveTag_hold (n : Nat) (t : Tag) : (giveTag n t s).hold = s.hold := rfl
@[simp] theorem giveTag_line (n : Nat) (t : Tag) : (giveTag n t s).line = s.line := rfl
@[simp] theorem giveTag_out (n : Nat) (t : Tag) : (giveTag n t s).out = s.out := rfl
@[simp] theorem giveTag_freeCount (n : Nat) (t : Tag) : (giveTag n t s).freeCount = s.freeCount := rfl
@[simp] theorem giveTag_pending (n : Nat) (t : Tag) : (giveTag n t s).pending = s.pending := rfl

end Sys2Proof.Machine
end

