-- ==== Sys2Proof/Laws/Ops.lean ====
section
/-! SUPPORT. What each shared operation can do, said once: troubles, reports, replies, the running of an event, and the
acceptance of a frame. -/

namespace Sys2Proof.Machine

/-! ## Troubles (R187) -/

/-- One bit of the trouble set after a write. -/
theorem setTroubleBit_getLsbD (v : TroubleBits) (i j : Nat) (b : Bool) (hi : i < 25) :
    (setTroubleBit v i b).getLsbD j = if j = i then b else v.getLsbD j := by
  unfold setTroubleBit
  by_cases hj : j = i
  · subst hj; cases b <;> simp [hi]
  · have hne : (i = j) = False := by simp [Ne.symm hj]
    cases b
    · by_cases hlt : j < 25
      · simp [hj, hlt]
      · simp [hj, BitVec.getLsbD_of_ge v j (by omega)]
    · simp [BitVec.getLsbD_twoPow, hj, hne]

/-- Every trouble code is a bit of the set. -/
theorem Trouble.code_lt (x : Trouble) : x.code < 25 := by
  cases x <;> simp [Trouble.code] <;> omega

/-- No two troubles share a code. -/
theorem Trouble.code_inj {x y : Trouble} (h : x.code = y.code) : x = y := by
  cases x <;> cases y <;> simp [Trouble.code] at h ⊢ <;> first | exact Fin.ext (by omega) | omega

/-- The active value of a trouble after an owner wrote one. -/
theorem troubleActive_setActive (x y : Trouble) (b : Bool) (s : State) :
    troubleActive y (setActive x b s) = if y = x then b else troubleActive y s := by
  simp only [troubleActive, setActive_out, setTroubleBit_getLsbD _ _ _ _ x.code_lt]
  by_cases h : y = x
  · simp [h]
  · have : y.code ≠ x.code := fun e => h (Trouble.code_inj e)
    simp [h, this]

/-- A telling of the console changes no active value. -/
theorem troubleActive_tellTrouble (x y : Trouble) (b : Bool) (s : State) :
    troubleActive y (tellTrouble x b s) = troubleActive y s := by
  simp [troubleActive, tellTrouble]

/-- `setTrouble` gives the one trouble its value and keeps the others. -/
theorem troubleActive_setTrouble (x y : Trouble) (b : Bool) (s : State) :
    troubleActive y (setTrouble x b s) = if y = x then b else troubleActive y s := by
  unfold setTrouble
  by_cases h : troubleActive x s = b
  · by_cases e : y = x
    · subst e; simp [h]
    · simp [h, e]
  · rw [if_neg h]
    split
    · exact troubleActive_setActive x y b s
    · rw [troubleActive_tellTrouble, troubleActive_setActive]

/-! ## Reports (R179) -/

theorem OnlyReports.rfl' (l : LineController) : OnlyReports l l := rfl

theorem OnlyReports.trans' {a b c : LineController} (h : OnlyReports a b) (k : OnlyReports b c) : OnlyReports a c := by
  unfold OnlyReports at *
  rw [k, h]

/-- A report changes the report queue alone. -/
theorem onlyReports_pushReport (r : Report) (l : LineController) : OnlyReports l (pushReport r l) := by
  unfold OnlyReports pushReport; split <;> rfl

theorem onlyReports_queueReport (r : Report) (s : State) : OnlyReports s.line (queueReport r s).line := by
  rw [queueReport_line]; split
  · exact onlyReports_pushReport r s.line
  · rfl

theorem onlyReports_tellTrouble (x : Trouble) (b : Bool) (s : State) : OnlyReports s.line (tellTrouble x b s).line :=
  onlyReports_queueReport _ s

theorem onlyReports_setTrouble (x : Trouble) (b : Bool) (s : State) : OnlyReports s.line (setTrouble x b s).line := by
  unfold setTrouble
  split
  · rfl
  · split
    · rfl
    · exact onlyReports_tellTrouble x b _

/-- A trouble's write reaches the line record and the output drivers only. -/
theorem setTrouble_frame (x : Trouble) (b : Bool) (s : State) :
    setTrouble x b s = { s with line := (setTrouble x b s).line, out := (setTrouble x b s).out } := by
  unfold setTrouble
  split
  · rfl
  · split
    · rfl
    · unfold tellTrouble queueReport; split <;> rfl

/-- A report reaches the line record only. -/
theorem queueReport_frame (r : Report) (s : State) :
    queueReport r s = { s with line := (queueReport r s).line } := by
  unfold queueReport; split <;> rfl

/-- Several reports reach the line record only. -/
theorem queueReports_frame (rs : List Report) (s : State) :
    queueReports rs s = { s with line := (queueReports rs s).line } := by
  induction rs generalizing s with
  | nil => rfl
  | cons r rs ih =>
    have h := ih (queueReport r s)
    unfold queueReports at h ⊢
    rw [List.foldl_cons, h, queueReport_frame r s]

theorem onlyReports_queueReports (rs : List Report) (s : State) : OnlyReports s.line (queueReports rs s).line := by
  induction rs generalizing s with
  | nil => rfl
  | cons r rs ih => exact (onlyReports_queueReport r s).trans' (ih (queueReport r s))

/-- The report queue never outgrows its eight places. -/
theorem pushReport_length (r : Report) (l : LineController) (h : l.reports.length ≤ Config.reportMax) :
    (pushReport r l).reports.length ≤ Config.reportMax := by
  unfold pushReport
  split
  · simp; omega
  · simp [Config.reportMax] at *; omega

/-! ## Replies (R132) -/

/-- The reply list never outgrows its 24 places. -/
theorem pushReply_length (rs : List Reply) (r : Reply) (h : rs.length ≤ Config.replyMax) :
    (pushReply rs r).length ≤ Config.replyMax := by
  unfold pushReply
  split
  · exact h
  · rename_i hn
    simp only [Bool.or_eq_true, decide_eq_true_eq, not_or, Nat.not_le] at hn
    rw [List.length_append]
    exact hn.2

/-! ## Entries -/

/-- Giving the first entry that satisfies a test a state keeps the length of a list. -/
theorem setFirst_length (test : Entry → Bool) (st : EntryState) (l : List Entry) :
    (setFirst test st l).length = l.length := by
  induction l with
  | nil => rfl
  | cons e rest ih => unfold setFirst; split <;> simp [ih]

/-- Where no entry satisfies the test the list stays. -/
theorem setFirst_of_none (test : Entry → Bool) (st : EntryState) (l : List Entry) (h : ∀ e ∈ l, test e = false) :
    setFirst test st l = l := by
  induction l with
  | nil => rfl
  | cons e rest ih =>
    unfold setFirst
    simp [h e (by simp), ih (fun x hx => h x (by simp [hx]))]

/-! ## Running an event -/

/-- An event of a running station. -/
theorem runEvent_running (effect : State → State) (s : State) (h : s.phase = .running) :
    runEvent effect s = .next (queueAlarmIfChanged s (effect s)) := by
  simp [runEvent, h]

/-- An event that leaves the reported values queues no ALARM (R43). -/
theorem runEvent_unreported (effect : State → State) (s : State) (h : s.phase = .running)
    (hr : reportedFire (effect s) = reportedFire s) : runEvent effect s = .next (effect s) := by
  simp [runEvent, h, queueAlarmIfChanged, hr]

/-- An event at a station whose blocks do not run finds nothing to act on. -/
theorem runEvent_stopped (effect : State → State) (s : State) (h : s.phase ≠ .running) : runEvent effect s = .next s := by
  simp [runEvent, h]

/-- The comparison of R43 marks the ALARM slot and nothing else. -/
theorem queueAlarmIfChanged_cases (a b : State) : queueAlarmIfChanged a b = b ∨ queueAlarmIfChanged a b = queueAlarm b := by
  unfold queueAlarmIfChanged; split <;> simp

/-- An event that keeps the queue of commands keeps it when it runs. -/
theorem runEvent_pending (effect : State → State) (s : State) (h : (effect s).pending = s.pending) :
    ∃ t, runEvent effect s = .next t ∧ t.pending = s.pending := by
  refine ⟨_, rfl, ?_⟩
  split
  · rcases queueAlarmIfChanged_cases s (effect s) with e | e <;> rw [e] <;> simp [h]
  · rfl

/-! ## Accepted frames (R168, R169) -/

/-- An accepted frame reaches its owner, in the state that has heard it. -/
theorem receive_accepted (kind : Byte) (f : Frame) (act : State → State) (s : State) (h : Accepted kind f s) :
    receive kind f act s = act (heard f s) := by
  obtain ⟨-, htx, hstrap, hcheck, hlen, hlo, hhi, hown, hdst⟩ := h
  have hj : judgeFrame (ownNumber s) kind f = .valid := by
    unfold judgeFrame
    simp only [hcheck, hlen, hown, Bool.not_true, Bool.false_eq_true, if_false]
    rw [if_neg (by omega)]
  have hs : troubleActive .strapInvalid (setReceiving false s) = false := hstrap
  have ha : addressedHere f (setPeer (sourceOf f) (peerOf (sourceOf f) (setReceiving false s)).markHeard
      (setReceiving false s)) = true := by
    rcases hdst with e | e <;> simp [addressedHere, e, ownNumber]
  simp only [receive, htx, Option.isSome_none, Bool.false_eq_true, if_false, hj, validFrame, hs, ha, if_true]
  rfl

/-- A frame from the console reaches an owner that takes console frames. -/
theorem consoleOnly_fromConsole (f : Frame) (act : State → State) (s : State) (h : FromConsole f s) :
    consoleOnly f act (heard f s) = act (heard f s) := by
  have : fromConsole f (heard f s) = true := by
    simp [fromConsole, heard, sourceOf, h.1, h.2]
  simp [consoleOnly, this]

/-- An accepted COMMAND of its code's length reaches its owner. -/
theorem receiveCommand_accepted (code : Byte) (f : Frame) (act : List Byte → State → State) (s : State)
    (h : AcceptedCommand code f s) : receiveCommand code f act s = act f.payload (heard f s) := by
  obtain ⟨ha, hc, hl⟩ := h
  unfold receiveCommand
  rw [receive_accepted kindCommand (commandFrame code f) _ s ha]
  have e : heard (commandFrame code f) s = heard f s := rfl
  rw [e, consoleOnly_fromConsole f _ s hc]
  simp [commandAct, hl]

/-- Hearing a frame touches the line record only. -/
theorem heard_frame (f : Frame) (s : State) : heard f s = { s with line := (heard f s).line } := rfl

@[simp] theorem heard_reportedFire (f : Frame) (s : State) : reportedFire (heard f s) = reportedFire s := rfl
@[simp] theorem heard_reportsGoOut (f : Frame) (s : State) : reportsGoOut (heard f s) = reportsGoOut s := rfl

/-! ## What a report or a trouble leaves the fire controller's view as -/

@[simp] theorem queueReport_reportedFire (r : Report) (s : State) : reportedFire (queueReport r s) = reportedFire s := by
  rw [queueReport_frame]; rfl

@[simp] theorem setTrouble_reportedFire (x : Trouble) (b : Bool) (s : State) :
    reportedFire (setTrouble x b s) = reportedFire s := by
  rw [setTrouble_frame]; rfl

/-! ## Slots and custody entries -/

/-- The record of a slot number after another slot is written. -/
theorem findSlot_updateSlot_ne (n m : Nat) (g : Slot → Slot) (s : State) (h : m ≠ n)
    (hg : ∀ sl, (g sl).number = sl.number) : findSlot m (updateSlot n g s) = findSlot m s := by
  unfold findSlot
  rw [updateSlot_scanner]
  generalize s.scanner.slots = l
  induction l with
  | nil => rfl
  | cons sl rest ih =>
    simp only [List.map_cons, List.find?_cons]
    by_cases e : sl.number = n
    · have : ((g sl).number == m) = false := by rw [hg, e]; simpa using Ne.symm h
      have h3 : (n == m) = false := by simpa using Ne.symm h
      simp [e, this, h3] at ih ⊢
      exact ih
    · simp only [e, if_false]
      split <;> simp_all

/-- A removed tag is in no custody entry. -/
theorem removeCustody_gone (t : Tag) (s : State) : ∀ e ∈ (removeCustody t s).custody.entries, e.tag ≠ t := by
  simp

/-! ## Absent identifiers (R191) -/

/-- Eight zero bytes name no identifier; any other eight name themselves. -/
theorem optTag_eq_some (t u : Tag) : optTag t = some u ↔ t = u ∧ t ≠ 0 := by
  unfold optTag
  by_cases h : t = 0 <;> simp [h, and_comm]

/-- An absent tag is held by no custody entry. -/
@[simp] theorem custodyNamed_none (s : State) : custodyNamed none s = none := rfl

@[simp] theorem custodyNamed_some (t : Tag) (s : State) : custodyNamed (some t) s = findCustody t s := rfl

/-- The custody entry that a frame names is in the list and has the tag. -/
theorem custodyNamed_mem {t : Option Tag} {s : State} {e : CustodyEntry} (h : custodyNamed t s = some e) :
    e ∈ s.custody.entries ∧ t = some e.tag := by
  cases t with
  | none => cases h
  | some t =>
    have hf : s.custody.entries.find? (fun x => x.tag == t) = some e := h
    have ht : e.tag = t := by simpa using List.find?_some hf
    exact ⟨List.mem_of_find?_eq_some hf, by rw [ht]⟩

/-! ## The start of the slot table (R97, R98) -/

/-- A count of 0 takes no inventory and leaves no record. -/
@[simp] theorem startScanner_zero (sc : Scanner) :
    startScanner 0 sc = { slots := [], drive := 1, inventory := none } := rfl

/-- An inventory begins only for a count that is not 0 and that the table does not have. -/
theorem startScanner_inventory (count : Nat) (sc : Scanner) :
    (startScanner count sc).inventory ≠ none ↔ count ≠ 0 ∧ sc.slots.length ≠ count := by
  unfold startScanner
  by_cases h : count = 0
  · simp [h]
  · by_cases k : sc.slots.length = count <;> simp [h, k]

/-! ## The probe excitation (R1) -/

/-- No conversion excites both probes. -/
theorem probes_excited_apart (s : State) : ¬ (probeAExcited s = true ∧ probeBExcited s = true) := by
  unfold probeAExcited probeBExcited
  cases probeChannel s with
  | none => simp
  | some k => simp only [Option.any_some, decide_eq_true_eq]; omega

/-! ## The driven line of the slot matrix (R79, R80) -/

theorem lineUsed_iff (d : Nat) (s : State) : lineUsed d s = true ↔ 16 * d ≤ slotCount s := by simp [lineUsed]

/-- All that the driven line is: the present drive position, while the scan runs and where the line is used. -/
theorem drivenLine_eq_some (d : Nat) (s : State) :
    drivenLine s = some d ↔ s.phase = .running ∧ s.scanner.drive = d ∧ 16 * d ≤ slotCount s := by
  unfold drivenLine
  split
  · rename_i c; simp only [lineUsed_iff] at c; constructor
    · rintro ⟨⟩; exact ⟨c.1, rfl, c.2⟩
    · rintro ⟨-, rfl, -⟩; rfl
  · rename_i c; simp only [lineUsed_iff] at c; constructor
    · rintro ⟨⟩
    · rintro ⟨p, rfl, u⟩; exact absurd ⟨p, u⟩ c

theorem driveLineOn_iff (d : Nat) (s : State) :
    driveLineOn d s = true ↔ s.phase = .running ∧ s.scanner.drive = d ∧ 16 * d ≤ slotCount s := by
  rw [← drivenLine_eq_some]; simp [driveLineOn]

/-- The scanner drives one line at a time. -/
theorem driveLineOn_unique {d e : Nat} {s : State} (h : driveLineOn d s = true) (k : driveLineOn e s = true) :
    d = e := ((driveLineOn_iff d s).1 h).2.1.symm.trans ((driveLineOn_iff e s).1 k).2.1

/-- At a dock, and with a slot count of 0, no line of 1 to 8 is driven. -/
theorem driveLineOn_no_slots {d : Nat} {s : State} (h : slotCount s = 0) (p : 0 < d) : driveLineOn d s = false := by
  rw [Bool.eq_false_iff]; intro k; have := ((driveLineOn_iff d s).1 k).2.2; omega

/-! ## The records of an answer (13_frame_and_record_formats.md) -/

@[simp] theorem optByte_length (n : Option Nat) : (optByte n).length = 1 := by cases n <;> rfl

/-- A CONSIGNMENT record has 13 bytes, the failure reason stated or free. -/
@[simp] theorem entryAnswer_length (e : Entry) : (entryAnswer e).length = 13 := by
  simp [entryAnswer, stated, tagBytes]

/-- The failure reason byte is stated exactly for a FAILED entry. -/
theorem reasonCode_isSome (st : EntryState) : st.reasonCode.isSome = true ↔ ∃ r, st = .failed r := by
  cases st <;> simp [EntryState.reasonCode]

end Sys2Proof.Machine
end

