-- ==== Sys2Proof/Laws/Consign.lean ====
section
/-! SUPPORT. What the shared operations of the consignment table do, said once: the record of a number after an update,
the appending of entries, and the validation that ends OPENING (R114, R116). -/

namespace Sys2Proof.Machine

/-! ## The record of a number -/

/-- The number of the record that a search finds. -/
theorem findRecord_number {num : Nat} {s : State} {c : Consignment} (h : findRecord num s = some c) : c.number = num := by
  simpa using List.find?_some h

/-- Where the numbers are distinct, only the record found has the number. -/
theorem eq_of_findRecord {num : Nat} {s : State} {c x : Consignment} (hd : RecordNumbersDistinct s)
    (hf : findRecord num s = some c) (hx : x ∈ s.consignments) (hn : x.number = num) : x = c :=
  List.inj_on_of_nodup_map hd hx (List.mem_of_find?_eq_some hf) (hn.trans (findRecord_number hf).symm)

/-- Two updates of a number agree where they agree on its record. -/
theorem updateRecord_congr {num : Nat} {s : State} {c : Consignment} {g g' : Consignment → Consignment}
    (hd : RecordNumbersDistinct s) (hf : findRecord num s = some c) (h : g c = g' c) :
    updateRecord num g s = updateRecord num g' s := by
  unfold updateRecord mapRecords
  congr 1
  refine List.map_congr_left fun x hx => ?_
  by_cases hn : x.number = num
  · simp [eq_of_findRecord hd hf hx hn, h]
  · simp [hn]

/-! ## A record's entries and the slot table written together -/

/-- The slot table written. -/
def withSlots (slots : List Slot) (s : State) : State := { s with scanner := { s.scanner with slots := slots } }

/-- The record of a number given a list of entries, and the slot table written: all that validation changes but reports. -/
def revised (num : Nat) (es : List Entry) (slots : List Slot) (s : State) : State :=
  withSlots slots (updateRecord num (fun c => { c with entries := es }) s)

/-- The last of two revisions counts. -/
theorem revised_revised (num : Nat) (es es' : List Entry) (slots slots' : List Slot) (s : State) :
    revised num es slots (revised num es' slots' s) = revised num es slots s := by
  simp only [revised, withSlots, updateRecord, mapRecords, List.map_map]
  congr 2
  funext x
  by_cases h : x.number = num <;> simp [h]

/-- A record given its own entries and the table its own slots is the state as it was. -/
theorem revised_self {num : Nat} {s : State} {c : Consignment} (hd : RecordNumbersDistinct s)
    (hf : findRecord num s = some c) : revised num c.entries s.scanner.slots s = s := by
  have h : updateRecord num (fun x => { x with entries := c.entries }) s = updateRecord num id s :=
    updateRecord_congr hd hf rfl
  unfold revised
  rw [h]
  simp [withSlots, updateRecord, mapRecords]

theorem findRecord_updateRecord {num : Nat} {s : State} {c : Consignment} (g : Consignment → Consignment)
    (hg : ∀ x, (g x).number = x.number) (hf : findRecord num s = some c) :
    findRecord num (updateRecord num g s) = some (g c) := by
  unfold findRecord at *
  simp only [updateRecord_consignments, List.find?_map]
  have hp : ((fun c : Consignment => c.number == num) ∘ fun c => if c.number = num then g c else c) =
      fun c => c.number == num := by
    funext x; by_cases h : x.number = num <;> simp [h, hg]
  rw [hp, hf]
  simp [findRecord_number (s := s) hf]

theorem distinct_updateRecord {num : Nat} {s : State} (g : Consignment → Consignment)
    (hg : ∀ x, (g x).number = x.number) (hd : RecordNumbersDistinct s) : RecordNumbersDistinct (updateRecord num g s) := by
  unfold RecordNumbersDistinct at *
  have hm : (updateRecord num g s).consignments.map (fun c => c.number) = s.consignments.map fun c => c.number := by
    simp only [updateRecord_consignments, List.map_map]
    refine List.map_congr_left fun x _ => ?_
    by_cases h : x.number = num <;> simp [h, hg]
  rwa [hm]

theorem findRecord_revised {num : Nat} {s : State} {c : Consignment} (es : List Entry) (slots : List Slot)
    (hf : findRecord num s = some c) : findRecord num (revised num es slots s) = some { c with entries := es } :=
  findRecord_updateRecord (fun c => { c with entries := es }) (fun _ => rfl) hf

theorem distinct_revised {num : Nat} {s : State} (es : List Entry) (slots : List Slot) (hd : RecordNumbersDistinct s) :
    RecordNumbersDistinct (revised num es slots s) :=
  distinct_updateRecord (fun c => { c with entries := es }) (fun _ => rfl) hd

theorem queueReports_append (rs rs' : List Report) (s : State) :
    queueReports (rs ++ rs') s = queueReports rs' (queueReports rs s) := by
  simp [queueReports, List.foldl_append]

/-- A report touches neither the records nor the slots, so it can be queued before or after they are written. -/
theorem queueReports_records (rs : List Report) (cs : List Consignment) (slots : List Slot) (s : State) :
    queueReports rs (withSlots slots { s with consignments := cs }) =
      withSlots slots { queueReports rs s with consignments := cs } := by
  induction rs generalizing s with
  | nil => rfl
  | cons r rs ih =>
    have h : queueReport r (withSlots slots { s with consignments := cs }) =
        withSlots slots { queueReport r s with consignments := cs } := by
      have hg : reportsGoOut (withSlots slots { s with consignments := cs }) = reportsGoOut s := rfl
      simp only [queueReport, hg]
      split <;> rfl
    have h2 := ih (queueReport r s)
    rw [← h] at h2
    exact h2

theorem queueReports_consignments (rs : List Report) (s : State) : (queueReports rs s).consignments = s.consignments := by
  rw [queueReports_frame]

theorem queueReports_scanner (rs : List Report) (s : State) : (queueReports rs s).scanner = s.scanner := by
  rw [queueReports_frame]

theorem queueReports_role (rs : List Report) (s : State) : (queueReports rs s).role = s.role := by
  rw [queueReports_frame]

theorem queueReports_updateRecord (rs : List Report) (num : Nat) (g : Consignment → Consignment) (s : State) :
    queueReports rs (updateRecord num g s) = updateRecord num g (queueReports rs s) := by
  have h := queueReports_records rs (s.consignments.map fun c => if c.number = num then g c else c) s.scanner.slots s
  have hr : updateRecord num g (queueReports rs s) = withSlots s.scanner.slots { queueReports rs s with
      consignments := s.consignments.map fun c => if c.number = num then g c else c } := by
    unfold updateRecord mapRecords withSlots
    rw [queueReports_consignments, queueReports_scanner]
  rw [hr, ← h]
  rfl

theorem queueReports_revised (rs : List Report) (num : Nat) (es : List Entry) (slots : List Slot) (s : State) :
    queueReports rs (revised num es slots s) = revised num es slots (queueReports rs s) := by
  have h := queueReports_records rs
    (s.consignments.map fun c => if c.number = num then { c with entries := es } else c) slots s
  unfold revised updateRecord mapRecords
  rw [queueReports_consignments]
  exact h

/-! ## Validation (R116) -/

/-- An update of a record leaves what its tests read: the role, the numbers, the other records, the custody list. -/
theorem failureOf_updateRecord (num : Nat) (d : Direction) (earlier : List Entry) (slots : List Slot) (e : Entry)
    (g : Consignment → Consignment) (hg : ∀ x, (g x).number = x.number) (s : State) :
    failureOf num d earlier slots e (updateRecord num g s) = failureOf num d earlier slots e s := by
  have ho : (∃ r ∈ (updateRecord num g s).consignments, r.number ≠ num ∧
        ∃ x ∈ r.entries, x.tag = e.tag ∧ (x.state = .waiting ∨ x.state = .active)) ↔
      ∃ r ∈ s.consignments, r.number ≠ num ∧
        ∃ x ∈ r.entries, x.tag = e.tag ∧ (x.state = .waiting ∨ x.state = .active) := by
    simp only [updateRecord_consignments, List.mem_map]
    constructor
    · rintro ⟨_, ⟨c, hc, rfl⟩, hn, hx⟩
      by_cases h : c.number = num
      · simp [h, hg] at hn
      · exact ⟨c, hc, h, by simpa [h] using hx⟩
    · rintro ⟨c, hc, hn, hx⟩
      exact ⟨c, ⟨c, hc, by simp [hn]⟩, hn, hx⟩
  have hu : TagInUse num earlier e (updateRecord num g s) ↔ TagInUse num earlier e s :=
    and_congr Iff.rfl (or_congr Iff.rfl (or_congr ho Iff.rfl))
  unfold failureOf
  simp only [hu]
  rfl

/-- So do reports and a revision. -/
theorem failureOf_revised (num : Nat) (d : Direction) (earlier : List Entry) (slots slots' : List Slot) (e : Entry)
    (es : List Entry) (rs : List Report) (s : State) :
    failureOf num d earlier slots e (queueReports rs (revised num es slots' s)) = failureOf num d earlier slots e s := by
  rw [queueReports_frame]
  exact failureOf_updateRecord num d earlier slots e (fun c => { c with entries := es }) (fun _ => rfl) s

/-- The validation of a record's entries does not look at the record's own fields. -/
theorem validated_updateRecord (num : Nat) (d : Direction) (g : Consignment → Consignment)
    (hg : ∀ x, (g x).number = x.number) (s : State) (es : List Entry) :
    ∀ (earlier : List Entry) (slots : List Slot),
      validated num d (updateRecord num g s) earlier slots es = validated num d s earlier slots es := by
  induction es with
  | nil => intros; rfl
  | cons e rest ih => intro earlier slots; simp only [validated, failureOf_updateRecord _ _ _ _ _ g hg, ih]; rfl

/-- Every entry validated keeps its place. -/
theorem validated_length (num : Nat) (d : Direction) (s : State) (es : List Entry) :
    ∀ (earlier : List Entry) (slots : List Slot), (validated num d s earlier slots es).entries.length = es.length := by
  induction es with
  | nil => intros; rfl
  | cons e rest ih =>
    intro earlier slots
    rw [validated]
    cases failureOf num d earlier slots e s with
    | some r => simp [ih]
    | none => by_cases hb : s.role = .bay <;> simp [hb, ih]

/-- A validation that leaves no entry ACTIVE calls no slot. -/
theorem validated_slots (num : Nat) (d : Direction) (s : State) (es : List Entry) :
    ∀ (earlier : List Entry) (slots : List Slot),
      (∀ x ∈ (validated num d s earlier slots es).entries, x.state ≠ .active) →
        (validated num d s earlier slots es).slots = slots := by
  induction es with
  | nil => intros; rfl
  | cons e rest ih =>
    intro earlier slots
    rw [validated]
    cases failureOf num d earlier slots e s with
    | some r => exact fun h => ih _ _ fun x hx => h x (List.mem_cons_of_mem _ hx)
    | none =>
      by_cases hb : s.role = .bay
      · simp only [hb, if_true]; exact fun h => absurd rfl (h _ (List.mem_cons_self ..))
      · simp only [hb, if_false]; exact fun h => ih _ _ fun x hx => h x (List.mem_cons_of_mem _ hx)

theorem stationTest_iff (e : Entry) (s : State) : stationTest s e = false ↔ StationWrong e s := by
  unfold stationTest StationWrong
  split
  · simp
  · simp only [Bool.and_eq_false_iff, decide_eq_false_iff_not, bne_eq_false_iff_eq]
    omega

theorem slotRangeTest_iff (d : Direction) (e : Entry) (s : State) :
    slotRangeTest s d e = false ↔ SlotOutside d e s := by
  unfold slotRangeTest SlotOutside
  split
  · simp only [Bool.and_eq_false_iff, decide_eq_false_iff_not]; omega
  · cases d
    · simp
    · simp only [Bool.and_eq_false_iff, decide_eq_false_iff_not, reduceCtorEq, false_and, false_or, true_and]; omega

theorem tagInUse_iff (num : Nat) (earlier : List Entry) (e : Entry) (s : State) :
    tagInUse s num earlier e.tag = true ↔ TagInUse num earlier e s := by
  unfold tagInUse TagInUse
  cases e.tag with
  | none => simp
  | some t =>
    have ht : ∀ h : CustodyEntry, some h.tag = some t ↔ h.tag = t := fun h => Option.some_inj
    simp only [Option.any_some, Bool.or_eq_true, List.any_eq_true, Bool.and_eq_true, bne_iff_ne, beq_iff_eq, progressWith,
      Entry.inProgress, findCustody, List.find?_isSome, ht, or_assoc, ne_eq, reduceCtorEq, not_false_iff, true_and]

/-- A slot takes its request as R88 and R91 say, and the request writes the slots of its number. -/
theorem slotRequest_eq (d : Direction) (num : Nat) (e : Entry) (s : State) :
    slotRequest d num e s =
      if SlotTakes d e s.scanner.slots then
        some (withSlots (slotsCalled num d e s.scanner.slots) s)
      else none := by
  cases d with
  | outbound =>
    simp only [slotRequest, pullRequest, findSlot, SlotTakes]
    cases s.scanner.slots.find? fun o => o.number == e.slot with
    | none => simp
    | some o =>
      have h : pullAllowed e.tag o = true ↔ o.state = .occupied ∧ (o.tag = none ∨ o.tag = e.tag) := by
        simp [pullAllowed]
      simp only [h, Option.mem_some_iff, exists_eq_left', true_and, reduceCtorEq, false_and, or_false]
      rfl
  | inbound =>
    simp only [slotRequest, awaitRequest, findSlot, SlotTakes]
    cases s.scanner.slots.find? fun o => o.number == e.slot with
    | none => simp
    | some o =>
      have h : (awaitAllowed e.tag o && !s.scanner.slots.any fun x => x.number != e.slot && holdsAgainstAwait e.tag x) = true ↔
          (o.state = .empty ∨ (o.state = .out ∧ e.tag ≠ none ∧ o.tag = e.tag)) ∧
          (e.tag = none ∨ ∀ x ∈ s.scanner.slots, x.number ≠ e.slot →
            ¬ (x.tag = e.tag ∧ (x.state = .pullPending ∨ x.state = .pulled ∨ x.state = .returnPending ∨
              x.state = .occupied ∨ x.state = .hold ∨ x.state = .quarantine)) ∧
            ¬ (x.state = .awaited ∧ x.expected = e.tag)) := by
        cases ht : e.tag with
        | none => simp [awaitAllowed, holdsAgainstAwait]
        | some t =>
          have hb : ∀ x : Slot, holdsAgainstAwait (some t) x = false ↔
              ¬ (x.tag = some t ∧ (x.state = .pullPending ∨ x.state = .pulled ∨ x.state = .returnPending ∨
                x.state = .occupied ∨ x.state = .hold ∨ x.state = .quarantine)) ∧
              ¬ (x.state = .awaited ∧ x.expected = some t) := by
            intro x
            rw [← Bool.not_eq_true, ← not_or]
            refine not_congr ?_
            simp only [holdsAgainstAwait, Option.isSome_some, Bool.true_and, Bool.or_eq_true, Bool.and_eq_true, beq_iff_eq]
            refine or_congr ?_ Iff.rfl
            rw [and_comm]
            refine and_congr Iff.rfl ?_
            cases x.state <;> simp [SlotState.blocksAwait]
          simp only [awaitAllowed, Bool.and_eq_true, Bool.or_eq_true, beq_iff_eq, Option.isSome_some, Bool.not_eq_true',
            List.any_eq_false, not_and, bne_iff_ne, Bool.not_eq_true, hb, ne_eq, reduceCtorEq, not_false_iff, and_true,
            true_and, false_or]
      simp only [h, Option.mem_some_iff, exists_eq_left', reduceCtorEq, false_and, true_and, false_or]
      rfl

/-- The four tests of the model are those of `failureOf`, in the order of R116. -/
theorem validateEntry_eq (d : Direction) (num k : Nat) (earlier : List Entry) (e : Entry) (s : State) :
    validateEntry d num k earlier e s =
      match failureOf num d earlier s.scanner.slots e s with
      | some r => rejectEntry num k e r s
      | none =>
        if s.role = .bay then
          markEntry num k .active (withSlots (slotsCalled num d e s.scanner.slots) s)
        else s := by
  unfold validateEntry failureOf
  simp only [Bool.not_eq_true', stationTest_iff, slotRangeTest_iff, tagInUse_iff, slotRequest_eq]
  by_cases h1 : StationWrong e s
  · rw [if_pos h1, if_pos h1]
  by_cases h2 : SlotOutside d e s
  · rw [if_neg h1, if_neg h1, if_pos h2, if_pos h2]
  by_cases h3 : TagInUse num earlier e s
  · rw [if_neg h1, if_neg h1, if_neg h2, if_neg h2, if_pos h3, if_pos h3]
  rw [if_neg h1, if_neg h1, if_neg h2, if_neg h2, if_neg h3, if_neg h3]
  by_cases h4 : s.role = .bay
  · by_cases h5 : SlotTakes d e s.scanner.slots
    · rw [if_pos h4, if_pos h5, if_neg (show ¬(s.role = .bay ∧ ¬SlotTakes d e s.scanner.slots) from fun h => h.2 h5)]
      exact (if_pos h4).symm
    · rw [if_neg h5, if_pos h4, if_pos ⟨h4, h5⟩]
  · rw [if_neg h4, if_neg fun h => h4 h.1, if_neg h4]

/-- The entry after `pre` in the list of the record found is given its state. -/
theorem markEntry_eq {num : Nat} {s : State} {c : Consignment} (pre rest : List Entry) (e : Entry) (st : EntryState)
    (hd : RecordNumbersDistinct s) (hf : findRecord num s = some c) (hc : c.entries = pre ++ e :: rest) :
    markEntry num pre.length st s = revised num (pre ++ { e with state := st } :: rest) s.scanner.slots s := by
  have h : ∀ l : List Entry, setEntryAt st l.length (l ++ e :: rest) = l ++ { e with state := st } :: rest := by
    intro l
    induction l with
    | nil => rfl
    | cons x l ih => simp [setEntryAt, ih]
  unfold markEntry revised
  rw [updateRecord_congr (g' := fun x => { x with entries := pre ++ { e with state := st } :: rest }) hd hf
    (by simp [hc, h])]
  rfl

/-- The same after reports and an earlier revision. -/
theorem markEntry_revised {num : Nat} {s : State} {c : Consignment} (pre rest : List Entry) (e : Entry) (st : EntryState)
    (slots : List Slot) (rs : List Report) (hd : RecordNumbersDistinct s) (hf : findRecord num s = some c) :
    markEntry num pre.length st (queueReports rs (revised num (pre ++ e :: rest) slots s)) =
      queueReports rs (revised num (pre ++ { e with state := st } :: rest) slots s) := by
  have hq : ∀ x : State, (queueReports rs x).consignments = x.consignments := fun x => by rw [queueReports_frame]
  have hd' : RecordNumbersDistinct (queueReports rs s) := by unfold RecordNumbersDistinct; rwa [hq]
  have hf' : findRecord num (queueReports rs s) = some c := by unfold findRecord; rwa [hq]
  rw [queueReports_revised, markEntry_eq pre rest e st (distinct_revised _ _ hd') (findRecord_revised _ _ hf') rfl,
    revised_revised, ← queueReports_revised]
  rfl

/-- The whole validation: what `validated` makes of the entries, written into the record and the slot table, and its
reports. -/
theorem validateFrom_eq (d : Direction) (num : Nat) (s : State) (c : Consignment) (hd : RecordNumbersDistinct s)
    (hf : findRecord num s = some c) (es : List Entry) :
    ∀ (pre earlier : List Entry) (slots : List Slot) (rs : List Report),
      validateFrom d num pre.length earlier es (queueReports rs (revised num (pre ++ es) slots s)) =
        queueReports (rs ++ (validated num d s earlier slots es).reports)
          (revised num (pre ++ (validated num d s earlier slots es).entries) (validated num d s earlier slots es).slots
            s) := by
  induction es with
  | nil => intro pre earlier slots rs; simp [validateFrom, validated]
  | cons e rest ih =>
    intro pre earlier slots rs
    have hs : (queueReports rs (revised num (pre ++ e :: rest) slots s)).scanner.slots = slots := by
      rw [queueReports_frame]; rfl
    have hr : (queueReports rs (revised num (pre ++ e :: rest) slots s)).role = s.role := by
      rw [queueReports_frame]; rfl
    have next : ∀ (e' : Entry) (slots' : List Slot) (rs' : List Report),
        validateFrom d num (pre.length + 1) (earlier ++ [e]) rest
            (queueReports rs' (revised num (pre ++ e' :: rest) slots' s)) =
          queueReports (rs' ++ (validated num d s (earlier ++ [e]) slots' rest).reports)
            (revised num (pre ++ e' :: (validated num d s (earlier ++ [e]) slots' rest).entries)
              (validated num d s (earlier ++ [e]) slots' rest).slots s) := by
      intro e' slots' rs'
      simpa using ih (pre ++ [e']) (earlier ++ [e]) slots' rs'
    rw [validateFrom, validateEntry_eq, hs, failureOf_revised, hr, validated]
    cases failureOf num d earlier slots e s with
    | some r =>
      have hrej : rejectEntry num pre.length e r (queueReports rs (revised num (pre ++ e :: rest) slots s)) =
          queueReports (rs ++ [entryRejected num e r])
            (revised num (pre ++ { e with state := .failed r } :: rest) slots s) := by
        rw [rejectEntry, markEntry_revised pre rest e _ slots rs hd hf, queueReports_append]; rfl
      simp only [hrej, next, List.append_assoc]
      rfl
    | none =>
      by_cases hb : s.role = .bay
      · have hm : withSlots (slotsCalled num d e slots) (queueReports rs (revised num (pre ++ e :: rest) slots s)) =
            queueReports rs (revised num (pre ++ e :: rest) (slotsCalled num d e slots) s) := by
          rw [queueReports_revised, queueReports_revised]; rfl
        simp only [hb, if_true, hm, markEntry_revised pre rest e _ _ rs hd hf, next]
      · simp only [hb, if_false, next]

/-! ## The entries of a frame (R114) -/

/-- The reports of entries dropped from a full list. -/
def overflowReports (num : Nat) (es : List Entry) : List Report := es.map fun e => entryRejected num e .overflow

/-- One entry is appended while the list holds fewer than 16, and else dropped with OVERFLOW. -/
theorem appendEntry_eq {num : Nat} {s : State} {c : Consignment} (e : Entry) (es : List Entry) (slots : List Slot)
    (rs : List Report) (hf : findRecord num s = some c) :
    appendEntry num e (queueReports rs (revised num es slots s)) =
      if es.length < 16 then queueReports rs (revised num (es ++ [e]) slots s)
      else queueReports (rs ++ [entryRejected num e .overflow]) (revised num es slots s) := by
  have hq : findRecord num (queueReports rs (revised num es slots s)) = some { c with entries := es } := by
    unfold findRecord; rw [queueReports_consignments]; exact findRecord_revised es slots hf
  have hu : updateRecord num (fun x => { x with entries := x.entries ++ [e] }) (revised num es slots s) =
      revised num (es ++ [e]) slots s := by
    simp only [revised, withSlots, updateRecord, mapRecords, List.map_map]
    congr 1
    refine List.map_congr_left fun x _ => ?_
    by_cases hx : x.number = num <;> simp [hx]
  simp only [appendEntry, hq, Config.entryMax]
  by_cases h : es.length < 16
  · simp only [h, if_true]; rw [← queueReports_updateRecord, hu]
  · simp only [h, if_false]; rw [queueReports_append]; rfl

/-- The entries of a frame taken: as many as fit are appended, the others reported, and a last flag ends OPENING. -/
theorem takeEntries_eq {num : Nat} {s : State} {c : Consignment} (slots : List Slot) (hf : findRecord num s = some c)
    (fs : List Entry) :
    ∀ (es : List Entry) (rs : List Report),
      takeEntries num fs (queueReports rs (revised num es slots s)) =
        (if fs.any (fun e => e.last) then endOpening num else id)
          (queueReports (rs ++ overflowReports num ((upToLast fs).drop (16 - es.length)))
            (revised num (es ++ (upToLast fs).take (16 - es.length)) slots s)) := by
  induction fs with
  | nil => intro es rs; simp [takeEntries, upToLast, overflowReports]
  | cons e rest ih =>
    intro es rs
    rw [takeEntries, appendEntry_eq e es slots rs hf]
    by_cases h : es.length < 16
    · obtain ⟨k, hk⟩ : ∃ k, 16 - es.length = k + 1 := ⟨15 - es.length, by omega⟩
      have hk' : 16 - (es.length + 1) = k := by omega
      cases hl : e.last
      · simp [h, ih, hk, hk', hl, upToLast]
      · simp [h, hk, hl, upToLast, overflowReports]
    · have hk : 16 - es.length = 0 := by omega
      cases hl : e.last
      · simp [h, ih, hk, hl, upToLast, overflowReports]
      · simp [h, hk, hl, upToLast, overflowReports]

/-- The end of OPENING: the validation of the record's entries, its first state and deadline, and the completion test. -/
theorem endOpening_eq {num : Nat} {s : State} {c : Consignment} (es : List Entry) (rs : List Report)
    (hd : RecordNumbersDistinct s) (hf : findRecord num s = some c) :
    endOpening num (queueReports rs (revised num es s.scanner.slots s)) =
      completionTest num
        (queueReports (rs ++ (validated num c.direction s [] s.scanner.slots es).reports)
          (withSlots (validated num c.direction s [] s.scanner.slots es).slots
            (updateRecord num
              (fun x =>
                { x with state := firstState s.role x.direction, openingTimer := none,
                         deadlineTimer := some (minutes x.deadline),
                         entries := (validated num c.direction s [] s.scanner.slots es).entries }) s))) := by
  have hq : findRecord num (queueReports rs (revised num es s.scanner.slots s)) = some { c with entries := es } := by
    unfold findRecord; rw [queueReports_consignments]; exact findRecord_revised es _ hf
  have ho : updateRecord num (fun x => { x with openingTimer := none }) (revised num es s.scanner.slots s) =
      revised num es s.scanner.slots (updateRecord num (fun x => { x with openingTimer := none }) s) := by
    simp only [revised, withSlots, updateRecord, mapRecords, List.map_map]
    congr 1
    refine List.map_congr_left fun x _ => ?_
    by_cases hx : x.number = num <;> simp [hx]
  have hd1 : RecordNumbersDistinct (updateRecord num (fun x => { x with openingTimer := none }) s) :=
    distinct_updateRecord _ (fun _ => rfl) hd
  have hf1 : findRecord num (updateRecord num (fun x => { x with openingTimer := none }) s) =
      some { c with openingTimer := none } := findRecord_updateRecord _ (fun _ => rfl) hf
  have hv := validateFrom_eq c.direction num _ _ hd1 hf1 es [] [] s.scanner.slots rs
  rw [validated_updateRecord num c.direction (fun x => { x with openingTimer := none }) (fun _ => rfl)] at hv
  simp only [List.nil_append, List.length_nil] at hv
  have hm : ∀ v : Validated,
      updateRecord num (fun x => { x with state := firstState s.role x.direction, deadlineTimer := some (minutes x.deadline) })
          (revised num v.entries v.slots (updateRecord num (fun x => { x with openingTimer := none }) s)) =
        withSlots v.slots
          (updateRecord num (fun x => { x with state := firstState s.role x.direction, openingTimer := none,
                                               deadlineTimer := some (minutes x.deadline), entries := v.entries }) s) := by
    intro v
    simp only [revised, withSlots, updateRecord, mapRecords, List.map_map]
    congr 1
    refine List.map_congr_left fun x _ => ?_
    by_cases hx : x.number = num <;> simp [hx]
  simp only [endOpening, hq]
  rw [← queueReports_updateRecord, ho, hv, ← queueReports_updateRecord, queueReports_role]
  rw [show (revised num (validated num c.direction s [] s.scanner.slots es).entries
    (validated num c.direction s [] s.scanner.slots es).slots
    (updateRecord num (fun x => { x with openingTimer := none }) s)).role = s.role from rfl, hm]

end Sys2Proof.Machine
end

