-- ==== Sys2Proof/WellFormed.lean ====
section
/-! DEFINITION. Which commands are well formed: operands that the row's event can bring. -/

namespace Sys2Proof

open Sys2Proof.Machine

/-- A frame whose whole payload has a length that its kind allows and that the line can carry (R166, R168). -/
def Frame.fits (kind : Byte) (f : Frame) : Bool := lengthAllowed kind f.payload.length && f.payload.length ≤ 48

/-- The argument bytes of a COMMAND row: as many as its code takes (13_frame_and_record_formats.md). -/
def Frame.fitsCommand (code : Byte) (f : Frame) : Bool := f.payload.length + 1 == commandLength code

/-- A command code that names one of the nine commands (R169). -/
def namesCommand (code : Byte) : Bool := 1 ≤ code.toNat && code.toNat ≤ 9

/-- A COMMAND payload of an allowed length that names a command and carries the arguments it takes in their ranges
(R169, R191). -/
def validCommand (p : List Byte) : Bool :=
  namesCommand (byteAt p 0) && p.length == commandLength (byteAt p 0) &&
    (if byteAt p 0 = codeClearQuarantine then byteAt p 1 != 0
     else if byteAt p 0 = codeResolve then byteAt p 9 == 1 || byteAt p 9 == 2
     else true)

/-- What a DISCARDED_FRAME row can carry: a complete frame is one that fails a test of R168. -/
def DiscardCause.wellFormed (c : DiscardCause) : Bool :=
  match c with
  | .complete kind f =>
    f.payload.length ≤ 48 &&
      (!checkGood kind f || !lengthAllowed kind f.payload.length || f.src.toNat < 1 || 30 < f.src.toNat)
  | _ => true

/-- A slot number of the matrix (R79). -/
def slotNumber (n : Nat) : Bool := 1 ≤ n && n ≤ 128

/-- A consignment number (R111). -/
def consignmentNumber (n : Nat) : Bool := 1 ≤ n && n ≤ 65535

/-- A command whose operands are in the ranges the spec gives them. -/
def Instr.wellFormed (i : Instr) : Bool :=
  match i with
  | .powerOn _ _ => true
  | .resetPin _ _ => true
  | .configImageRead image _ _ => image.length == 64
  | .uptimeMinute => true
  | .fireReset f => f.fitsCommand codeFireReset
  | .silence f => f.fitsCommand codeSilence
  | .testStart f => f.fitsCommand codeTestStart
  | .testEnd f => f.fitsCommand codeTestEnd
  | .isolateOn f => f.fitsCommand codeIsolateOn
  | .isolateOff f => f.fitsCommand codeIsolateOff
  | .clearQuarantine f => f.fitsCommand codeClearQuarantine
  | .resolve f => f.fitsCommand codeResolve
  | .restart f => f.fitsCommand codeRestart
  | .commandInvalid f => f.fits kindCommand && !validCommand f.payload
  | .stateFrame f => f.fits kindState
  | .alarmFrame f => f.fits kindAlarm
  | .consign f => f.fits kindConsign
  | .entry f => f.fits kindEntry
  | .cancel f => f.fits kindCancel
  | .offer f => f.fits kindOffer
  | .taken f => f.fits kindTaken
  | .cleared f => f.fits kindCleared
  | .withdraw f => f.fits kindWithdraw
  | .late f => f.fits kindLate
  | .refuse f => f.fits kindRefuse
  | .query f => f.fits kindQuery
  | .discardedFrame cause => cause.wellFormed
  | .frameGapTimeout => true
  | .lineStuckSet _ => true
  | .lineStuckClear => true
  | .transmitStart _ => true
  | .frameSent => true
  | .readbackFailure => true
  | .statusTimerExpiry => true
  | .conflictTimerExpiry => true
  | .scanTimerExpiry _ => true
  | .inputConversionEnd _ => true
  | .probeConversionEnd _ => true
  | .verifyTimerExpiry _ => true
  | .climateTimerExpiry => true
  | .climateHoldTimerExpiry => true
  | .excursionDelayExpiry => true
  | .stabilizationTimerExpiry => true
  | .countdownExpiry => true
  | .releasePulseExpiry => true
  | .testTimerExpiry => true
  | .testLatchClearExpiry _ => true
  | .testPulseEnd => true
  | .sounderCadenceExpiry => true
  | .minRunTimerExpiry => true
  | .minOffTimerExpiry => true
  | .slotScanStep _ => true
  | .pullWindowExpiry slot => slotNumber slot
  | .returnWindowExpiry slot => slotNumber slot
  | .attentionRise => true
  | .readResponse chars => readResponseOf chars != .incomplete
  | .signalResponse char => char != busyChar
  | .responseTimeout => true
  | .bounceTimerExpiry => true
  | .recoveryTimerExpiry => true
  | .readerRestartDelayExpiry => true
  | .openingTimerExpiry number => consignmentNumber number
  | .courierWindowExpiry number => consignmentNumber number
  | .deadlineTimerExpiry number => consignmentNumber number
  | .handoverTimerExpiry _ => true
  | .lapseTimerExpiry _ => true
  | .confirmTimerExpiry _ => true
  | .minuteTimerExpiry => true
  | .doorContactSettled _ => true
  | .doorForcedTimerExpiry => true
  | .mainsContactSettled _ => true
  | .mainsClearDelayExpiry => true
  | .validFrameDropped kind f => f.fits kind && checkGood kind f && 1 ≤ f.src.toNat && f.src.toNat ≤ 30

end Sys2Proof
end

