-- ==== Sys2Proof/Tests/Slice0.lean ====
section
/-! SUPPORT. Tests on small states: an ill-formed command for each check of WellFormed, values that the spec states,
  one
step of some commands, and for every statement with hypotheses a state and operands that meet them all. -/

namespace Sys2Proof.Tests

open Sys2Proof Sys2Proof.Machine

set_option Elab.async false
set_option synthInstance.maxSize 1024
set_option synthInstance.maxHeartbeats 200000

/-! ## States and operands to test with -/

/-- A running bay of number 2, space group 1, 16 slots, release enabled, console 30, dock 20. -/
def bay : State :=
  { State.reset with
    phase := .running, own := 2,
    cfg :=
      { Settings.defaults with
        console := 30, dockStation := 20, releaseEnabled := true, spaceGroup := 1, slotCount := 16,
        inputTypes := [.detector, .detector, .manualRelease, .pressure, .abort, .unused] } }

/-- The same station as a dock, of number 20. -/
def dock : State := { bay with own := 20, role := .dock }

def inFire (x : FireState) (countdown : Option Nat) (s : State) : State :=
  { s with fire := { s.fire with state := x, countdown := countdown } }

def isolated (s : State) : State := { s with fire := { s.fire with isolated := true } }

def testing (n : Nat) (s : State) : State :=
  { s with fire := { s.fire with state := if s.fire.state = .normal then .normal else .test, testTimer := some n } }

def withCadence (s : State) : State :=
  { s with fire := { s.fire with cadence := some { phaseOn := true, reloadMs := 500 } } }

def latchAt (i : InputNo) (l : Latch) (s : State) : State :=
  { s with fire := { s.fire with latches := s.fire.latches.set i.val l } }

/-- A scan converts input `i`, which is in a stage and still UNSETTLED. -/
def inputAt (i : InputNo) (st : Stage) (s : State) : State :=
  { s with sup :=
      { s.sup with conv := .input i,
                   inputs := s.sup.inputs.set i.val { settled := .unsettled, candidate := none, stage := st } } }

def channel : Channel := { sum := 32000, low := 2000, high := 2000 }

def sequence (n : Nat) : Sequence := { done := n, rhA := channel, tA := channel, rhB := channel, tB := channel }

/-- A climate sample sequence of 4 times 2^4 conversions is at work, `n` of them done. -/
def sampling (n : Nat) (s : State) : State :=
  { s with sup := { s.sup with conv := .probe, seq := some (sequence n) } }

def slot (n : Nat) (st : SlotState) : Slot :=
  { number := n, state := st, present := st.presence, candidate := false, tag := none, expected := none,
    consignment := none, hold := none, window := none }

def candidate (sl : Slot) : Slot := { sl with candidate := true }

def windowed (sl : Slot) : Slot := { sl with window := some 1 }

def withSlots (l : List Slot) (s : State) : State := { s with scanner := { s.scanner with slots := l } }

def driving (d : Nat) (s : State) : State := { s with scanner := { s.scanner with drive := d } }

def item (tag : Tag) (station slot : Nat) (st : EntryState) : Entry :=
  { tag := some tag, station := station, slot := slot, last := true, state := st }

def record (n : Nat) (d : Direction) (st : ConsignmentState) (es : List Entry) : Consignment :=
  { number := n, direction := d, state := st, badge := some 8, peer := none, deadline := 0, openingTimer := none,
    deadlineTimer := none, courierTimer := none, caseId := none, caseClimate := none, entries := es }

def staged : Consignment := record 9 .outbound .staging []
def receiving9 : Consignment := record 9 .inbound .receiving [item 5 2 1 .active]
def due9 : Consignment := { record 9 .outbound .active [] with deadlineTimer := some 1 }
def opening9 : Consignment := { record 9 .outbound .opening [] with openingTimer := some 1 }

def recording (l : List Consignment) (s : State) : State := { s with consignments := l }

/-- A custody entry with peer 20. -/
def entry (tag : Tag) (st : CustodyState) : CustodyEntry :=
  { tag := tag, state := st, consignment := none, peer := some 20, slot := none, hold := 0, quarantine := false,
    wait := .none, timer := none, attempts := 0, owed := none }

def owning (l : List CustodyEntry) (s : State) : State := { s with custody := { s.custody with entries := l } }

def reading (s : State) : State :=
  { s with reader := { s.reader with transaction := some (.read false), readPending := true } }

/-- A READ on the line and none pending after it. -/
def lastRead (s : State) : State := { s with reader := { s.reader with transaction := some (.read false) } }

def signalling (s : State) : State := { s with reader := { s.reader with transaction := some .signalAccept } }

def bounced (t : Tag) (s : State) : State := { s with reader := { s.reader with bounce := some 1, lastId := some t } }

def counting (s : State) : State := { s with hold := { seconds := 1, paused := false } }

def transmission : Transmission :=
  { cls := .report, sent := buildFrame kindReport 30 2 [], carriesLost := false }

def sending (s : State) : State := { s with line := { s.line with tx := some transmission } }

def stuck (s : State) : State := { s with out := { s.out with active := 0x40000 } }

/-- The entry of a fresh same-space peer in NORMAL. -/
def peerInNormal : Peer :=
  { heard := true, fresh := true, age := 0, awaiting := false,
    fire := some { group := 1, fire := 1, alarms := 0, countdown := 0, abort := false, manual := false },
    state := none }

def fromPeer (n : Nat) (s : State) : State :=
  { s with line :=
      { s.line with peers := s.line.peers.set (n - 1) peerInNormal } }

def reply (k : ReplyKind) : Reply := { kind := k, dst := 20, consignment := 9, tag := 5 }
def replying (k : ReplyKind) (s : State) : State := { s with custody := { s.custody with replies := [reply k] } }
def question : Query := { subject := .slots, start := 0, consignment := 0, source := 30 }
def notice : Report := { kind := .holdDone }

/-- A frame of a kind to all stations, with a good check. -/
def frame (kind : Byte) (src : Nat) (payload : List Byte) : Frame := (buildFrame kind 0 src payload).frame

/-- A COMMAND from a station: the code and its arguments. -/
def commandFrom (src : Nat) (code : Byte) (args : List Byte) : Frame :=
  { frame kindCommand src (code :: args) with payload := args }

def command (code : Byte) (args : List Byte) : Frame := commandFrom 30 code args

/-- A STATE of a space group, a fire state code and a countdown. -/
def stateBytes (group fire countdown : Byte) : List Byte := [1, group, fire, 1, countdown] ++ List.replicate 14 0
def alarmBytes (group fire countdown : Byte) : List Byte := [fire, 1, countdown, 0, group]
def handoverBytes (n : Nat) (t : Tag) : List Byte := bytes16 n ++ tagBytes t
def offerBytes (n : Nat) (t : Tag) : List Byte := handoverBytes n t ++ [1, 0, 0, 0]
def consignBytes (n : Nat) : List Byte := bytes16 n ++ [1] ++ tagBytes 8 ++ [0, 0, 20]
def entryBytes (n : Nat) (station slot last : Byte) : List Byte := bytes16 n ++ tagBytes 5 ++ [station, slot, last]

/-- An OK response with the identifier 5 or 8, after one busy character. -/
def response (kind : Byte) (id : Tag) : List Byte := [0, 1, kind] ++ tagBytes id

/-- A CASE response: ID 4, 10.0 to 20.0 degrees, 0.1 percent, valid. -/
def caseResponse : List Byte := [1, 3] ++ tagBytes 4 ++ [0, 100, 0, 200, 0, 1, 1]

/-- An image of format 1 with all other fields 0, and its check (R193). -/
def image : List Byte :=
  let body : List Byte := 1 :: List.replicate 61 0
  body ++ bytes16 (crc body).toNat

/-! ## Ill-formed commands -/

theorem test_wellFormed_image : (Instr.configImageRead (List.replicate 63 0) false .good).wellFormed = false :=
  by decide
theorem test_wellFormed_command_arguments :
    (Instr.fireReset (command 1 [0])).wellFormed = false ∧ (Instr.resolve (command 8 [])).wellFormed = false ∧
    (Instr.clearQuarantine (command 7 [])).wellFormed = false := by decide +kernel
theorem test_wellFormed_command_valid : (Instr.commandInvalid (frame 15 30 [9])).wellFormed = false :=
  by decide +kernel
theorem test_wellFormed_length :
    (Instr.alarmFrame (frame 2 1 [0])).wellFormed = false ∧ (Instr.entry (frame 4 30 [0, 9])).wellFormed = false ∧
    (Instr.validFrameDropped 200 (frame 200 1 (List.replicate 49 0))).wellFormed = false := by decide +kernel
theorem test_wellFormed_discarded :
    (Instr.discardedFrame (.complete 5 (frame 5 30 [0, 9]))).wellFormed = false := by decide +kernel
theorem test_wellFormed_dropped :
    (Instr.validFrameDropped 5 { frame 5 30 [0, 9] with check := 0 }).wellFormed = false ∧
    (Instr.validFrameDropped 5 (frame 5 31 [0, 9])).wellFormed = false := by decide +kernel
theorem test_wellFormed_numbers :
    (Instr.pullWindowExpiry 0).wellFormed = false ∧ (Instr.returnWindowExpiry 129).wellFormed = false ∧
    (Instr.openingTimerExpiry 0).wellFormed = false ∧ (Instr.deadlineTimerExpiry 65536).wellFormed = false :=
      by decide
theorem test_wellFormed_reader :
    (Instr.readResponse [0, 1, 1]).wellFormed = false ∧ (Instr.signalResponse 0).wellFormed = false :=
      by decide +kernel

/-! ## Values that the spec states -/

/-- The check of the nine characters 1 to 9 under R167's parameters. -/
theorem test_crc : crc [0x31, 0x32, 0x33, 0x34, 0x35, 0x36, 0x37, 0x38, 0x39] = 0x29B1 := by decide +kernel

/-- R4: from NORMAL 1650 stays and 1664 is ALARM; from ALARM 1550 stays, 1536 is NORMAL and 300 is OPEN. -/
theorem test_scan_bands :
    scanBand .normal 1650 = .normal ∧ scanBand .normal 1664 = .alarm ∧ scanBand .alarm 1550 = .alarm ∧
    scanBand .alarm 1536 = .normal ∧ scanBand .alarm 300 = .openBand := by decide

/-- The first worked computation of 03_climate_measurement_and_history.md. -/
theorem test_conversions :
    averageCode 2 6554 = 1639 ∧ humidityOf 1639 = 400 ∧ temperatureOf 2048 = 150 ∧ humidityOf 1707 = 417 ∧
    temperatureOf 2055 = 152 := by decide

/-- R79: 0 stays, 1 to 15 become 16, above that the count rounds down to a multiple of 16, at most 128. -/
theorem test_slot_counts :
    roundSlotCount 0 = 0 ∧ roundSlotCount 15 = 16 ∧ roundSlotCount 47 = 32 ∧ roundSlotCount 129 = 128 := by decide

/-- The hold of the inbound return of 12_worked_sequences.md: 550 minutes. -/
theorem test_hold : computeHold Settings.defaults (some { tMin := 92, tMax := 241, rhMax := 612 }) = 550 := by decide

/-- A good image, one of another format, one with a bad check and a blank one (R184). -/
theorem test_image :
    (judgeImage image).isSome = true ∧ judgeImage (2 :: image.tail) = none ∧
    judgeImage (image.dropLast ++ [0]) = none ∧ judgeImage [] = none := by decide +kernel

/-! ## One step -/

/-- Whether a step answers a next state of which a condition holds. -/
def leadsTo (o : Host.Outcome State Fault Refusal) (p : State → Bool) : Bool :=
  match o with
  | .next t => p t
  | .fault _ => false
  | .refused _ => false

/-- The ENTRY of the check-out in 12_worked_sequences.md: the record is judged and ACTIVE, the slot PULL_PENDING. -/
theorem test_entry_activates :
    leadsTo (exec (.entry (frame 4 30 (entryBytes 9 2 16 1)))
        (recording [record 9 .outbound .opening []] (withSlots [slot 16 .occupied] bay)))
      (fun t => t.consignments.map (·.state) == [.active] && t.scanner.slots.map (·.state) == [.pullPending] &&
        doorReleased t) = true := by decide +kernel

/-- R116 at the dock: of two entries with the same tag the later is rejected, with DUPLICATE. -/
theorem test_entry_repeat_is_duplicate :
    leadsTo (exec (.entry (frame 4 30 (entryBytes 9 1 1 0 ++ tagBytes 5 ++ [1, 1, 1])))
        (recording [record 9 .inbound .opening []] dock))
      (fun t => t.consignments.map (fun c => c.entries.map (·.state)) == [[.waiting, .failed .duplicate]] &&
        t.line.reports.map (fun r => (r.kind, r.code)) == [(.entryRejected, 3)]) = true := by decide +kernel

/-- A countdown of 1 ends in DISCHARGED with RELEASE on (R29, R34). -/
theorem test_countdown_discharges :
    leadsTo (exec .countdownExpiry (inFire .preDischarge (some 1) bay))
      (fun t => t.fire.state == .discharged && releaseOn t && t.line.alarmQueued) = true := by decide +kernel

/-- The TAKEN of the check-out in 12_worked_sequences.md at the giver: RELEASED, CLEARED owed. -/
theorem test_taken_releases :
    leadsTo (exec (.taken (frame 7 20 (handoverBytes 9 5))) (owning [entry 5 .offered] bay))
      (fun t => t.custody.entries.map (fun e => (e.state, e.owed)) == [(.released, some .cleared)]) = true := by
  decide +kernel

/-- An empty queue becomes the expiries that fall due (log 2). -/
theorem test_tick_queues_expiry :
    leadsTo (step (inFire .preDischarge (some 9) bay)) (fun t => t.pending.contains .countdownExpiry) = true := by
  decide +kernel

/-! ## Every statement with hypotheses speaks of some state -/


theorem test_witness_StepRunsTheCommandAtTheFront :
    ∃ (s : State) (c : Instr) (rest : List Instr), s.pending = c :: rest :=
  ⟨{ bay with pending := [.uptimeMinute] }, .uptimeMinute, [], rfl⟩

theorem test_witness_EmptyQueueLetsOneSecondPass :
    ∃ s : State, s.pending = [] :=
  ⟨bay, rfl⟩

theorem test_witness_EveryCommandCompletesAndKeepsTheQueue :
    ∃ (c : Instr) (s : State), s.phase ≠ .running ∧ (∀ own role, c ≠ .powerOn own role ∧ c ≠ .resetPin own role) ∧
      (∀ image attention check, c ≠ .configImageRead image attention check) ∧ (∀ b, c ≠ .mainsContactSettled b) ∧
      c ≠ .mainsClearDelayExpiry :=
  ⟨.uptimeMinute, State.reset, by decide, by simp, by simp, by simp, by decide⟩

theorem test_witness_ReleaseOnlyInDischargedWhileArmed :
    ∃ s t : State, StartQuiet s ∧ ReleaseGuarded s ∧ step s = .next t :=
  ⟨{ inFire .discharged none bay with fire := { (inFire .discharged none bay).fire with releasePulse := some 3 } },
    _, by decide +kernel, by decide +kernel, rfl⟩

theorem test_witness_CountdownAndEpisodeFollowTheFireState :
    (∃ s t : State, CountdownPlaced s ∧ step s = .next t) ∧
    (∃ s t : State, EpisodeFollows s ∧ step s = .next t) :=
  ⟨⟨inFire .preDischarge (some 60) bay, _, by decide +kernel, rfl⟩,
   ⟨bay, _, by decide +kernel, rfl⟩⟩

theorem test_witness_ForcedOffAllotterNeverRuns :
    (∃ s t : State, DryingGuarded s ∧ step s = .next t) ∧
    (∃ (c : Instr) (s t : State), exec c s = .next t ∧ s.phase = .running ∧ t.phase = .running ∧ DryingGuarded s ∧
      s.allot.forced = false ∧ t.allot.forced = true) ∧
    (∃ (c : Instr) (s t : State), exec c s = .next t ∧ s.phase = .running ∧ t.phase = .running ∧ DryingGuarded s ∧
      s.allot.forced = true ∧ t.allot.forced = false ∧ t.climate.bay.isSome = true) :=
  ⟨⟨bay, _, by decide +kernel, rfl⟩,
   ⟨.mainsContactSettled true,
     { inFire .normal none bay with climate := { bay.climate with state := .active, bay := some { rh := 600, t := 200 } }, allot := { running := true, request := true, forced := false, minRun := some 9, minOff := none } }, _, rfl, by decide +kernel, by decide +kernel, by decide +kernel, by decide +kernel, by decide +kernel⟩,
   ⟨.mainsClearDelayExpiry,
     { { inFire .normal none bay with climate := { bay.climate with state := .active, bay := some { rh := 600, t := 200 } }, allot := { running := false, request := false, forced := true, minRun := none, minOff := none } } with out := { bay.out with active := 0x1000000, mainsClear := some 1 } }, _, rfl, by decide +kernel, by decide +kernel, by decide +kernel, by decide +kernel, by decide +kernel, by decide +kernel⟩⟩

theorem test_witness_HoldPauseFollowsItsConditions :
    ∃ s t : State, StartQuiet s ∧ PauseFollows s ∧ step s = .next t :=
  ⟨bay, _, by decide +kernel, by decide +kernel, rfl⟩

theorem test_witness_FireLeavesNothingExpectedOrOffered :
    (∃ s t : State, NothingExpectedInFire s ∧ GiversSuspendedInFire s ∧ step s = .next t) ∧
    (∃ (c : Instr) (s t : State), exec c s = .next t ∧ s.phase = .running ∧ t.phase = .running ∧
      t.fire.state ≠ s.fire.state) :=
  ⟨⟨{ owning [entry 5 .held] (inFire .held none bay) with custody := { entries := [entry 5 .held], replies := [], suspended := true } }, _, by decide +kernel, by decide +kernel, rfl⟩,
   ⟨.countdownExpiry, inFire .preDischarge (some 1) bay, _, rfl, by decide +kernel, by decide +kernel,
     by decide +kernel⟩⟩

theorem test_witness_ListsNumbersAndCountsKeepTheirLimits :
    (∃ s t : State, ListsBounded s ∧ RecordNumbersDistinct s ∧ CustodyTagsDistinct s ∧ OwedBounded s ∧
      CheckCountsBounded s ∧ FixedSizes s ∧ step s = .next t) ∧
    (∃ s t : State, RecordNumbersDistinct s ∧ CustodyTagsDistinct s ∧ RecordTimersPlaced s ∧ OffersSettled s ∧
      step s = .next t) :=
  ⟨⟨recording [staged] (owning [entry 5 .held] bay), _, by decide +kernel, by decide +kernel, by decide +kernel,
    by decide +kernel, by decide +kernel, by decide +kernel, rfl⟩,
   ⟨recording [record 9 .outbound .active [item 5 2 1 .active]]
      (owning [{ entry 5 .held with consignment := some 9, owed := some .offer }, entry 6 .released] bay), _,
     by decide +kernel, by decide +kernel, by decide +kernel, by decide +kernel, rfl⟩⟩

theorem test_witness_SlotTableStaysSound :
    ∃ s t : State, SlotTableSound s ∧ step s = .next t :=
  ⟨withSlots [slot 1 .occupied, slot 2 .empty] bay, _, by decide +kernel, rfl⟩

theorem test_witness_StuckLineAndInvalidStrapSendNothing :
    ∃ s t : State, StuckLineQuiet s ∧ InvalidStrapQuiet s ∧ step s = .next t :=
  ⟨stuck bay, _, by decide +kernel, by decide +kernel, rfl⟩

theorem test_witness_CountdownNeverRisesInPreDischarge :
    ∃ (c : Instr) (s t : State) (r : Nat), exec c s = .next t ∧ s.fire.state = .preDischarge ∧
      s.fire.countdown = some r ∧ t.fire.state = .preDischarge :=
  ⟨.countdownExpiry, inFire .preDischarge (some 60) bay, _, 60, rfl, by decide +kernel, by decide +kernel,
    by decide +kernel⟩

theorem test_witness_HoldsNeverFallWhilePaused :
    ∃ (c : Instr) (s t : State) (n h : Nat) (sl sl' : Slot), exec c s = .next t ∧
      (s.scanner.slots.map fun sl => sl.number).Nodup ∧ PauseFollows s ∧ pauseCondition s = true ∧
      pauseCondition t = true ∧ findSlot n s = some sl ∧ sl.state = .hold ∧ sl.hold = some h ∧
      findSlot n t = some sl' ∧ sl'.state = .hold :=
  ⟨.minuteTimerExpiry, withSlots [{ slot 1 .hold with hold := some 550 }] bay, _, 1, 550, _, _, rfl,
    by decide +kernel, by decide +kernel, by decide +kernel, by decide +kernel, rfl, rfl, rfl, rfl, rfl⟩

theorem test_witness_ConfigImageReadStartsEveryBlock :
    (∃ (s : State), (s.phase = .readingImage ∨ s.phase = .restarting) ∧ s.cfg.inputTypes.length = 6) ∧
    (∃ (s : State), (s.phase = .readingImage ∨ s.phase = .restarting) ∧ s.cfg.inputTypes.length = 6) :=
  by
  refine ⟨⟨{ bay with phase := .readingImage }, ?_⟩,
   ⟨{ bay with phase := .restarting }, ?_⟩⟩ <;>
  decide +kernel

theorem test_witness_JudgedImageGivesEveryFieldClamped :
    ∃ (image : List Byte) (v : Settings), judgeImage image = some v :=
  ⟨image, imageSettings image, by decide +kernel⟩

theorem test_witness_PlainExpiriesEndTheirTimerAlone :
    ∃ (s : State), s.phase = .running :=
  ⟨bay, by decide +kernel⟩

theorem test_witness_ScanAndClimateTimersRequestTheirConversions :
    ∃ (s : State), s.phase = .running :=
  ⟨bay, by decide +kernel⟩

theorem test_witness_BandsSettleByTwoScansBeyondTheirMargins :
    (∃ (b : Band) (c c' : Code), b ≠ .unsettled ∧ scanBand b c ≠ b ∧ c'.toNat ≤ c.toNat + 63 ∧
      c.toNat ≤ c'.toNat + 63) ∧
    (∃ (s : State) (i : InputNo), s.phase = .running ∧ FixedSizes s ∧ s.sup.conv = .input i ∧
      ((inputRecord i s).stage = .ready ∨ (inputRecord i s).stage = .latched ∨ (inputRecord i s).stage = .withheld)) ∧
    (∃ (s : State) (i : InputNo), s.phase = .running ∧ FixedSizes s ∧ s.sup.conv = .input i ∧
      ((inputRecord i s).stage = .ready ∨ (inputRecord i s).stage = .latched ∨ (inputRecord i s).stage = .withheld)) ∧
    (∃ (s : State) (i : InputNo), s.phase = .running ∧ FixedSizes s ∧ s.sup.conv = .input i ∧
      ((inputRecord i s).stage = .ready ∨ (inputRecord i s).stage = .latched ∨ (inputRecord i s).stage = .withheld)) ∧
    (∃ (s : State) (i : InputNo), s.phase = .running ∧ s.sup.conv = .input i) ∧
    (∃ (s : State) (i : InputNo), s.phase = .running ∧ s.sup.conv = .input i) ∧
    (∃ (s : State) (i : InputNo), s.phase = .running ∧ s.sup.conv = .input i) :=
  ⟨⟨.normal, 1664, 1601, by decide⟩,
   ⟨inputAt 0 .ready bay, 0, by decide +kernel⟩,
   ⟨inputAt 5 .latched bay, 5, by decide +kernel⟩,
   ⟨inputAt 2 .withheld bay, 2, by decide +kernel⟩,
   ⟨inputAt 4 .ready bay, 4, by decide +kernel⟩,
   ⟨inputAt 5 .withheld bay, 5, by decide +kernel⟩,
   ⟨inputAt 5 .ready { bay with sup := { bay.sup with scanPending := true } }, 5, by decide +kernel⟩⟩

theorem test_witness_VerificationsEndInAnAlarmOrUnverified :
    (∃ (s : State) (i : InputNo) (c : Code) (n : Nat), s.phase = .running ∧ FixedSizes s ∧ s.sup.conv = .input i ∧
      (inputRecord i s).stage = .verifying (.count (n + 1)) ∧ scanBand .alarm c = .alarm) ∧
    (∃ (s : State) (i : InputNo) (c : Code) (n : Nat), s.phase = .running ∧ FixedSizes s ∧ s.sup.conv = .input i ∧
      (inputRecord i s).stage = .verifying (.count (n + 1)) ∧ scanBand .alarm c = .alarm) ∧
    (∃ (s : State) (i : InputNo) (n : Nat), s.phase = .running ∧ FixedSizes s ∧
      (inputRecord i s).stage = .verifying (.timer n) ∧ inputType i s = .detector) ∧
    (∃ (s : State) (i : InputNo), s.phase = .running ∧ verifyTimer (inputRecord i s) = none) ∧
    (∃ (s : State) (i : InputNo) (c : Code) (v : Verification), s.phase = .running ∧ FixedSizes s ∧
      s.sup.conv = .input i ∧ (inputRecord i s).stage = .verifying v ∧ (inputRecord i s).candidate = none ∧
      scanBand .alarm c ≠ .alarm) ∧
    (∃ (s : State) (i : InputNo) (c : Code) (v : Verification), s.phase = .running ∧ FixedSizes s ∧
      s.sup.conv = .input i ∧ (inputRecord i s).stage = .verifying v ∧ (inputRecord i s).candidate = none ∧
      scanBand .alarm c ≠ .alarm) ∧
    (∃ (s : State) (i : InputNo) (c : Code), s.phase = .running ∧ FixedSizes s ∧ s.sup.conv = .input i ∧
      ((inputRecord i s).stage = .verifying (.count 0) ∨ (verifyTimer (inputRecord i s)).isSome = true) ∧
      scanBand .alarm c = .alarm) ∧
    (∃ (s : State) (i : InputNo) (c : Code), s.phase = .running ∧ FixedSizes s ∧ s.sup.conv = .input i ∧
      ((inputRecord i s).stage = .verifying (.count 0) ∨ (verifyTimer (inputRecord i s)).isSome = true) ∧
      scanBand .alarm c = .alarm) :=
  by
  refine ⟨⟨inputAt 0 (.verifying (.count 1)) bay, 0, 0x640, 0, ?_⟩,
   ⟨inputAt 5 (.verifying (.count 3)) bay, 5, 0xD47, 2, ?_⟩,
   ⟨inputAt 0 (.verifying (.timer 1)) bay, 0, 1, ?_⟩,
   ⟨inputAt 2 (.verifying (.count 1)) bay, 2, ?_⟩,
   ⟨inputAt 0 (.verifying (.timer 4)) bay, 0, 0x600, .timer 4, ?_⟩,
   ⟨inputAt 2 (.verifying (.count 0)) bay, 2, 0xD88, .count 0, ?_⟩,
   ⟨inputAt 2 (.verifying (.count 0)) bay, 2, 0x640, ?_⟩,
   ⟨inputAt 0 (.verifying (.timer 0)) bay, 0, 0xD47, ?_⟩⟩ <;>
  decide +kernel

theorem test_witness_ProbeConversionsMakeTheClimateSample :
    (∃ (s : State) (q : Sequence), s.phase = .running ∧ s.sup.conv = .probe ∧ s.sup.seq = some q ∧
      q.done + 1 < 4 * 2 ^ s.cfg.averaging) ∧
    (∃ (s : State) (c : Code) (q : Sequence) (a : Option Bay) (b : Option Bay), s.phase = .running ∧
      s.sup.conv = .probe ∧ s.sup.seq = some q ∧ 4 * 2 ^ s.cfg.averaging ≤ q.done + 1 ∧
      a = probeValue s.cfg.averaging (q.add c).rhA (q.add c).tA ∧
      b = probeValue s.cfg.averaging (q.add c).rhB (q.add c).tB) :=
  by
  refine ⟨⟨sampling 62 bay, sequence 62, ?_⟩,
   ⟨sampling 63 bay, 0xFF6, sequence 63, probeValue 4 ((sequence 63).add 0xFF6).rhA ((sequence 63).add 0xFF6).tA,
     probeValue 4 ((sequence 63).add 0xFF6).rhB ((sequence 63).add 0xFF6).tB, ?_⟩⟩ <;>
  decide +kernel

theorem test_witness_ProbeConversionRoundsToTheNearerTenth :
    ∃ a : Nat, a ≤ 4095 ∧ 9 ≤ a ∧ a ≤ 4086 :=
  ⟨9, by decide⟩

theorem test_witness_ManualReleaseAndAbortActOnTheFireState :
    (∃ (s : State) (i : InputNo) (c : Code) (n : Nat), s.phase = .running ∧ FixedSizes s ∧ CountdownPlaced s ∧
      s.sup.conv = .input i ∧ (inputRecord i s).stage = .verifying (.count (n + 1)) ∧ scanBand .alarm c = .alarm ∧
      inputType i s = .manualRelease ∧ s.fire.state ≠ .test) ∧
    (∃ (s : State) (i : InputNo) (c : Code) (n : Nat), s.phase = .running ∧ FixedSizes s ∧ CountdownPlaced s ∧
      s.sup.conv = .input i ∧ (inputRecord i s).stage = .verifying (.count (n + 1)) ∧ scanBand .alarm c = .alarm ∧
      inputType i s = .manualRelease ∧ s.fire.state ≠ .test) ∧
    (∃ (s : State) (i : InputNo) (c : Code) (n : Nat), s.phase = .running ∧ FixedSizes s ∧ s.sup.conv = .input i ∧
      (inputRecord i s).stage = .verifying (.count (n + 1)) ∧ scanBand .alarm c = .alarm ∧
      inputType i s = .pressure ∧ s.fire.state ≠ .test) ∧
    (∃ (s : State) (i : InputNo) (c : Code) (n : Nat), s.phase = .running ∧ FixedSizes s ∧ s.sup.conv = .input i ∧
      (inputRecord i s).stage = .verifying (.count (n + 1)) ∧ scanBand .alarm c = .alarm ∧ inputType i s = .abort ∧
      s.fire.state = .preDischarge) :=
  by
  refine ⟨⟨inputAt 2 (.verifying (.count 1)) (inFire .normal none bay), 2, 0x640, 0, ?_⟩,
   ⟨inputAt 2 (.verifying (.count 1)) (inFire .preDischarge (some 1) bay), 2, 0x640, 0, ?_⟩,
   ⟨inputAt 3 (.verifying (.count 1)) (inFire .stabilizing none bay), 3, 0x640, 0, ?_⟩,
   ⟨inputAt 4 (.verifying (.count 1)) (inFire .preDischarge (some 60) bay), 4, 0xD47, 0, ?_⟩⟩ <;>
  decide +kernel

theorem test_witness_CountdownAndStabilizationRunOut :
    (∃ (s : State) (r : Nat), s.phase = .running ∧ s.fire.state = .preDischarge ∧ s.fire.countdown = some (r + 2)) ∧
    (∃ (s : State) (r : Nat), s.phase = .running ∧ s.fire.state = .preDischarge ∧ s.fire.countdown = some (r + 2)) ∧
    (∃ (s : State), s.phase = .running ∧ s.fire.state = .preDischarge ∧ s.fire.countdown = some 1 ∧
      s.fire.silence ≠ some .discharged) ∧
    (∃ (s : State), s.phase = .running ∧ (s.fire.state ≠ .preDischarge ∨ s.fire.countdown = none)) ∧
    (∃ (s : State), s.phase = .running ∧ (s.fire.state ≠ .preDischarge ∨ s.fire.countdown = none)) ∧
    (∃ (s : State), s.phase = .running ∧ FixedSizes s ∧ s.fire.state = .stabilizing ∧
      s.fire.stabTimer.isSome = true) ∧
    (∃ (s : State), s.phase = .running ∧ (s.fire.state ≠ .stabilizing ∨ s.fire.stabTimer = none)) ∧
    (∃ (s : State), s.phase = .running ∧ (s.fire.state ≠ .stabilizing ∨ s.fire.stabTimer = none)) :=
  by
  refine ⟨⟨inFire .preDischarge (some 2) bay, 0, ?_⟩,
   ⟨inFire .preDischarge (some 60) bay, 58, ?_⟩,
   ⟨inFire .preDischarge (some 1) bay, ?_⟩,
   ⟨inFire .held none bay, ?_⟩,
   ⟨inFire .preDischarge none bay, ?_⟩,
   ⟨{ bay with fire := { bay.fire with stabTimer := some 1 } }, ?_⟩,
   ⟨bay, ?_⟩,
   ⟨inFire .normal none bay, ?_⟩⟩ <;>
  decide +kernel

theorem test_witness_RefusedFireCommandsOnlyReport :
    (∃ (s : State) (f : Frame), AcceptedCommand 1 f s ∧ (s.fire.state = .preDischarge ∨ s.fire.state = .stabilizing ∨
      s.fire.state = .test)) ∧
    (∃ (s : State) (f : Frame), AcceptedCommand 1 f s ∧ (s.fire.state = .preDischarge ∨ s.fire.state = .stabilizing ∨
      s.fire.state = .test)) ∧
    (∃ (s : State) (f : Frame), AcceptedCommand 1 f s ∧ (s.fire.state = .preDischarge ∨ s.fire.state = .stabilizing ∨
      s.fire.state = .test)) ∧
    (∃ (s : State) (f : Frame), AcceptedCommand 2 f s ∧ s.fire.state ≠ .alert ∧ s.fire.state ≠ .confirmed ∧
      s.fire.state ≠ .held) ∧
    (∃ (s : State) (f : Frame), AcceptedCommand 2 f s ∧ s.fire.state ≠ .alert ∧ s.fire.state ≠ .confirmed ∧
      s.fire.state ≠ .held) ∧
    (∃ (s : State) (f : Frame), AcceptedCommand 3 f s ∧ s.fire.state ≠ .normal) ∧
    (∃ (s : State) (f : Frame), AcceptedCommand 4 f s ∧ s.fire.state ≠ .test) ∧
    (∃ (s : State) (f : Frame), AcceptedCommand 9 f s ∧ (s.fire.state = .preDischarge ∨ s.fire.state = .held ∨
      s.fire.state = .discharged)) :=
  by
  refine ⟨⟨inFire .preDischarge (some 9) bay, command 1 [], ?_⟩,
   ⟨inFire .test none bay, command 1 [], ?_⟩,
   ⟨bay, command 1 [], ?_⟩,
   ⟨inFire .normal none bay, command 2 [], ?_⟩,
   ⟨inFire .discharged none bay, command 2 [], ?_⟩,
   ⟨inFire .alert none bay, command 3 [], ?_⟩,
   ⟨inFire .normal none bay, command 4 [], ?_⟩,
   ⟨inFire .held none bay, command 9 [], ?_⟩⟩ <;>
  decide +kernel

theorem test_witness_AcceptedFireResetClearsRecordAndSetsHolds :
    (∃ (s : State) (f : Frame), AcceptedCommand 1 f s ∧ FixedSizes s ∧ (s.fire.state = .normal ∨
      s.fire.state = .alert ∨ s.fire.state = .confirmed ∨ s.fire.state = .held ∨ s.fire.state = .discharged)) ∧
    (∃ (s : State) (f : Frame), AcceptedCommand 1 f s ∧ FixedSizes s ∧ (s.fire.state = .normal ∨
      s.fire.state = .alert ∨ s.fire.state = .confirmed ∨ s.fire.state = .held ∨ s.fire.state = .discharged)) ∧
    (∃ (s : State) (f : Frame), AcceptedCommand 1 f s ∧ (s.fire.state = .normal ∨ s.fire.state = .alert ∨
      s.fire.state = .confirmed ∨ s.fire.state = .held ∨ s.fire.state = .discharged) ∧ PauseFollows s) ∧
    (∃ (s : State) (f : Frame), AcceptedCommand 1 f s ∧ (s.fire.state = .normal ∨ s.fire.state = .alert ∨
      s.fire.state = .confirmed ∨ s.fire.state = .held ∨ s.fire.state = .discharged) ∧ PauseFollows s) :=
  by
  refine ⟨⟨inFire .discharged none bay, command 1 [], ?_⟩,
   ⟨inFire .normal none bay, command 1 [], ?_⟩,
   ⟨inFire .confirmed none bay, command 1 [], ?_⟩,
   ⟨{ inFire .discharged none bay with hold := { seconds := 0, paused := true } }, command 1 [], ?_⟩⟩ <;>
  decide +kernel

theorem test_witness_OutputPinsFollowTheState :
    (∃ (s : State) (f : Frame), AcceptedCommand 2 f s ∧ (s.fire.state = .alert ∨ s.fire.state = .confirmed ∨
      s.fire.state = .held)) ∧
    (∃ (s : State) (c : Cadence), s.phase = .running ∧ s.fire.cadence = some c ∧ (s.fire.state = .alert ∨
      s.fire.state = .confirmed ∨ s.fire.state = .preDischarge ∨ s.fire.state = .held)) ∧
    (∃ (s : State), s.phase = .running ∧ s.fire.cadence = none) :=
  by
  refine ⟨⟨inFire .alert none bay, command 2 [], ?_⟩,
   ⟨withCadence (inFire .held none bay), { phaseOn := true, reloadMs := 500 }, ?_⟩,
   ⟨bay, ?_⟩⟩ <;>
  decide +kernel

theorem test_witness_TestModeBeginsAndEndsWithItsNotices :
    (∃ (s : State) (f : Frame), AcceptedCommand 3 f s ∧ s.fire.state = .normal) ∧
    (∃ (s : State) (f : Frame), s.phase = .running ∧ FixedSizes s ∧ s.fire.state = .test ∧ AcceptedCommand 4 f s) ∧
    (∃ (s : State), s.phase = .running ∧ FixedSizes s ∧ s.fire.state = .test ∧ s.fire.testTimer.isSome = true) ∧
    (∃ (s : State), s.phase = .running ∧ (s.fire.state ≠ .test ∨ s.fire.testTimer = none)) ∧
    (∃ (s : State), s.phase = .running ∧ (s.fire.state ≠ .test ∨ s.fire.testTimer = none)) ∧
    (∃ (s : State) (i : InputNo) (n : Nat), s.phase = .running ∧ FixedSizes s ∧ latchOf i s = .test n) ∧
    (∃ (s : State) (i : InputNo), s.phase = .running ∧ latchTimer (latchOf i s) = none) :=
  by
  refine ⟨⟨inFire .normal none bay, command 3 [], ?_⟩,
   ⟨inFire .test none bay, command 4 [], ?_⟩,
   ⟨testing 3600 bay, ?_⟩,
   ⟨inFire .test none bay, ?_⟩,
   ⟨testing 3600 (inFire .normal none bay), ?_⟩,
   ⟨latchAt 5 (.test 1) bay, 5, 1, ?_⟩,
   ⟨latchAt 0 .fire bay, 0, ?_⟩⟩ <;>
  decide +kernel

theorem test_witness_IsolationDisarmsAndItsEndArmsAgain :
    (∃ (s : State) (f : Frame), AcceptedCommand 5 f s ∧ s.fire.isolated = false ∧ CountdownPlaced s) ∧
    (∃ (s : State) (f : Frame), AcceptedCommand 5 f s ∧ s.fire.isolated = true) ∧
    (∃ (s : State) (f : Frame), AcceptedCommand 6 f s ∧ s.fire.isolated = true) ∧
    (∃ (s : State) (f : Frame), AcceptedCommand 6 f s ∧ s.fire.isolated = true) ∧
    (∃ (s : State) (f : Frame), AcceptedCommand 6 f s ∧ s.fire.isolated = false) :=
  by
  refine ⟨⟨inFire .preDischarge (some 1) bay, command 5 [], ?_⟩,
   ⟨isolated bay, command 5 [], ?_⟩,
   ⟨isolated bay, command 6 [], ?_⟩,
   ⟨isolated (inFire .confirmed none { bay with cfg := { bay.cfg with releaseEnabled := false } }), command 6 [], ?_⟩,
   ⟨bay, command 6 [], ?_⟩⟩ <;>
  decide +kernel

theorem test_witness_StateAndAlarmFramesWriteThePeerTable :
    (∃ (s : State) (f : Frame), Accepted kindState f s ∧ FixedSizes s) ∧
    (∃ (s : State) (f : Frame), Accepted kindAlarm f s ∧ FixedSizes s) :=
  by
  refine ⟨⟨bay, frame 1 7 (stateBytes 1 2 0), ?_⟩,
   ⟨bay, frame 2 1 (alarmBytes 1 2 0), ?_⟩⟩ <;>
  decide +kernel

theorem test_witness_SameSpacePeersLowerOrDischarge :
    (∃ (s : State) (f : Frame) (r : Nat), Accepted kindState f s ∧ FixedSizes s ∧
      (byteAt f.payload 1).toNat = s.cfg.spaceGroup ∧ (byteAt f.payload 2).toNat = 4 ∧ s.fire.state = .preDischarge ∧
      s.fire.countdown = some r) ∧
    (∃ (s : State) (f : Frame) (r : Nat), Accepted kindAlarm f s ∧ FixedSizes s ∧
      (peerOf f.src.toNat s).awaiting = false ∧ (byteAt f.payload 4).toNat = s.cfg.spaceGroup ∧
      (byteAt f.payload 0).toNat = 4 ∧ s.fire.state = .preDischarge ∧ s.fire.countdown = some r) ∧
    (∃ (s : State) (f : Frame), Accepted kindState f s ∧ FixedSizes s ∧
      (byteAt f.payload 1).toNat = s.cfg.spaceGroup ∧ (byteAt f.payload 2).toNat = 6) ∧
    (∃ (s : State) (f : Frame), Accepted kindAlarm f s ∧ FixedSizes s ∧ (peerOf f.src.toNat s).awaiting = false ∧
      (byteAt f.payload 4).toNat = s.cfg.spaceGroup ∧ (byteAt f.payload 0).toNat = 6) ∧
    (∃ (s : State) (f : Frame), Accepted kindState f s ∧ FixedSizes s ∧ s.fire.state ≠ .test ∧
      (¬ ((byteAt f.payload 1).toNat = s.cfg.spaceGroup ∧ (byteAt f.payload 2).toNat = 6 ∧
      (peerOf f.src.toNat s).fire.map (fun p => p.fire) ≠ some 6 ∧
        (s.fire.state = .alert ∨ s.fire.state = .confirmed ∨ s.fire.state = .preDischarge ∨ s.fire.state = .held)))) ∧
    (∃ (s : State) (f : Frame), Accepted kindState f s ∧ FixedSizes s ∧ s.fire.state ≠ .test ∧
      (¬ ((byteAt f.payload 1).toNat = s.cfg.spaceGroup ∧ (byteAt f.payload 2).toNat = 6 ∧
      (peerOf f.src.toNat s).fire.map (fun p => p.fire) ≠ some 6 ∧
        (s.fire.state = .alert ∨ s.fire.state = .confirmed ∨ s.fire.state = .preDischarge ∨ s.fire.state = .held)))) ∧
    (∃ (s : State) (f : Frame), Accepted kindState f s ∧ FixedSizes s ∧ s.fire.state ≠ .test ∧
      (¬ ((byteAt f.payload 1).toNat = s.cfg.spaceGroup ∧ (byteAt f.payload 2).toNat = 6 ∧
      (peerOf f.src.toNat s).fire.map (fun p => p.fire) ≠ some 6 ∧
        (s.fire.state = .alert ∨ s.fire.state = .confirmed ∨ s.fire.state = .preDischarge ∨ s.fire.state = .held)))) ∧
    (∃ (s : State) (f : Frame), Accepted kindAlarm f s ∧ FixedSizes s ∧ (peerOf f.src.toNat s).awaiting = false ∧
      s.fire.state ≠ .test ∧ (¬ ((byteAt f.payload 4).toNat = s.cfg.spaceGroup ∧ (byteAt f.payload 0).toNat = 6 ∧
      (peerOf f.src.toNat s).fire.map (fun p => p.fire) ≠ some 6 ∧
        (s.fire.state = .alert ∨ s.fire.state = .confirmed ∨ s.fire.state = .preDischarge ∨ s.fire.state = .held)))) ∧
    (∃ (s : State) (f : Frame), Accepted kindAlarm f s ∧ FixedSizes s ∧ (peerOf f.src.toNat s).awaiting = false ∧
      s.fire.state ≠ .test ∧ (¬ ((byteAt f.payload 4).toNat = s.cfg.spaceGroup ∧ (byteAt f.payload 0).toNat = 6 ∧
      (peerOf f.src.toNat s).fire.map (fun p => p.fire) ≠ some 6 ∧
        (s.fire.state = .alert ∨ s.fire.state = .confirmed ∨ s.fire.state = .preDischarge ∨ s.fire.state = .held)))) ∧
    (∃ (s : State) (f : Frame), Accepted kindState f s ∧ FixedSizes s ∧ s.fire.state = .test) ∧
    (∃ (s : State) (f : Frame), Accepted kindState f s ∧ FixedSizes s ∧ s.fire.state = .test) ∧
    (∃ (s : State) (f : Frame), Accepted kindState f s ∧ FixedSizes s ∧ s.fire.state = .test) ∧
    (∃ (s : State) (f : Frame), Accepted kindAlarm f s ∧ FixedSizes s ∧ s.fire.state = .test) ∧
    (∃ (s : State) (f : Frame), Accepted kindAlarm f s ∧ FixedSizes s ∧ s.fire.state = .test) ∧
    (∃ (s : State) (f : Frame), Accepted kindAlarm f s ∧ FixedSizes s ∧ s.fire.state = .test) :=
  by
  refine ⟨⟨inFire .preDischarge (some 30) bay, frame 1 30 (stateBytes 1 4 0), 30, ?_⟩,
   ⟨fromPeer 1 (inFire .preDischarge (some 1) bay), frame 2 1 (alarmBytes 1 4 1), 1, ?_⟩,
   ⟨bay, frame 1 7 (stateBytes 1 6 0), ?_⟩,
   ⟨fromPeer 7 bay, frame 2 7 (alarmBytes 1 6 0), ?_⟩,
   ⟨inFire .alert none bay, frame 1 30 (stateBytes 1 4 0), ?_⟩,
   ⟨inFire .held none bay, frame 1 30 (stateBytes 2 6 0), ?_⟩,
   ⟨inFire .normal none bay, frame 1 30 (stateBytes 1 6 0), ?_⟩,
   ⟨fromPeer 7 (inFire .normal none bay), frame 2 7 (alarmBytes 2 1 0), ?_⟩,
   ⟨fromPeer 7 (inFire .confirmed none bay), frame 2 7 (alarmBytes 4 1 0), ?_⟩,
   ⟨inFire .test none bay, frame 1 30 (stateBytes 1 4 0), ?_⟩,
   ⟨inFire .test none bay, frame 1 30 (stateBytes 2 6 0), ?_⟩,
   ⟨inFire .test none bay, frame 1 30 (stateBytes 1 3 0), ?_⟩,
   ⟨fromPeer 7 (inFire .test none bay), frame 2 7 (alarmBytes 6 1 0), ?_⟩,
   ⟨fromPeer 7 (inFire .test none bay), frame 2 7 (alarmBytes 4 2 0), ?_⟩,
   ⟨{ inFire .test none bay with line := { bay.line with peers := bay.line.peers.set 6 { peerInNormal with fresh := false, age := 3, awaiting := true } } }, frame 2 7 (alarmBytes 4 1 1), ?_⟩⟩ <;>
  decide +kernel

theorem test_witness_ClimateTimersEnterLostAndExcursion :
    (∃ (s : State), s.phase = .running ∧ s.climate.holdTimer.isSome = true) ∧
    (∃ (s : State), s.phase = .running ∧ s.climate.holdTimer = none) ∧
    (∃ (s : State), s.phase = .running ∧ s.climate.excursionTimer.isSome = true) ∧
    (∃ (s : State), s.phase = .running ∧ s.climate.excursionTimer = none) :=
  by
  refine ⟨⟨{ bay with climate := { bay.climate with state := .holding, holdTimer := some 1 } }, ?_⟩,
   ⟨bay, ?_⟩,
   ⟨{ bay with climate := { bay.climate with excursion := .pending, excursionTimer := some 1 } }, ?_⟩,
   ⟨bay, ?_⟩⟩ <;>
  decide +kernel

theorem test_witness_DehumidifierTimersStopAndGrant :
    (∃ (s : State), s.phase = .running ∧ s.allot.minRun.isSome = true) ∧
    (∃ (s : State), s.phase = .running ∧ s.allot.minRun = none) ∧
    (∃ (s : State), s.phase = .running ∧ s.allot.minOff.isSome = true) ∧
    (∃ (s : State), s.phase = .running ∧ s.allot.minOff = none) :=
  by
  refine ⟨⟨{ bay with allot := { bay.allot with minRun := some 1 } }, ?_⟩,
   ⟨bay, ?_⟩,
   ⟨{ bay with allot := { bay.allot with minOff := some 1 } }, ?_⟩,
   ⟨bay, ?_⟩⟩ <;>
  decide +kernel

theorem test_witness_ContactsSetMainsFailAndDoorForced :
    (∃ (s : State), (s.phase = .running ∨ s.phase = .restarting)) ∧
    (∃ (s : State), (s.phase = .running ∨ s.phase = .restarting)) ∧
    (∃ (s : State), (s.phase = .running ∨ s.phase = .restarting) ∧ s.out.mainsFail ≠ some false) ∧
    (∃ (s : State), (s.phase = .running ∨ s.phase = .restarting) ∧ s.out.mainsFail ≠ some false) ∧
    (∃ (s : State), (s.phase = .running ∨ s.phase = .restarting) ∧ s.out.mainsFail = some false) ∧
    (∃ (s : State), (s.phase = .running ∨ s.phase = .restarting) ∧ s.out.mainsClear.isSome = true ∧ DryingGuarded s) ∧
    (∃ (s : State), (s.phase = .running ∨ s.phase = .restarting) ∧ s.out.mainsClear = none) ∧
    (∃ (s : State), s.phase = .running) :=
  by
  refine ⟨⟨bay, ?_⟩,
   ⟨{ bay with phase := .restarting }, ?_⟩,
   ⟨bay, ?_⟩,
   ⟨{ bay with phase := .restarting }, ?_⟩,
   ⟨{ bay with out := { bay.out with mainsFail := some false } }, ?_⟩,
   ⟨{ bay with out := { bay.out with mainsClear := some 1 } }, ?_⟩,
   ⟨bay, ?_⟩,
   ⟨bay, ?_⟩⟩ <;>
  decide +kernel

theorem test_witness_ScanStepsWithoutAcceptedChangeAndInventory :
    (∃ (s : State), s.phase = .running ∧ s.scanner.inventory = none ∧ slotCount s < 16 * s.scanner.drive) ∧
    (∃ (s : State), s.phase = .running ∧ s.scanner.inventory = none ∧ slotCount s < 16 * s.scanner.drive) ∧
    (∃ (s : State) (w : Sense), s.phase = .running ∧ s.scanner.inventory = none ∧ 1 ≤ s.scanner.drive ∧
      16 * s.scanner.drive ≤ slotCount s ∧ (s.scanner.slots.map fun sl => sl.number).Nodup ∧ (∀ sl ∈ s.scanner.slots,
      16 * (s.scanner.drive - 1) < sl.number → sl.number ≤ 16 * s.scanner.drive →
        w.getLsbD (sl.number - 16 * (s.scanner.drive - 1) - 1) ≠ sl.present → sl.candidate = false)) ∧
    (∃ (s : State) (inv : Inventory), s.phase = .running ∧ s.scanner.inventory = some inv ∧ inv.pass = 2 ∧
      s.scanner.drive = 8 ∧ (slotCount s < 128 ∨ inv.samples.length = 128)) ∧
    (∃ (s : State) (inv : Inventory), s.phase = .running ∧ s.scanner.inventory = some inv ∧ inv.pass = 2 ∧
      s.scanner.drive = 8 ∧ (slotCount s < 128 ∨ inv.samples.length = 128)) ∧
    (∃ (s : State) (inv : Inventory), s.phase = .running ∧ s.scanner.inventory = some inv ∧
      inv.samples.length = slotCount s ∧ 1 ≤ s.scanner.drive ∧ s.scanner.drive ≤ 8 ∧ (inv.pass = 1 ∨ (inv.pass = 2 ∧
      s.scanner.drive < 8))) ∧
    (∃ (s : State) (inv : Inventory), s.phase = .running ∧ s.scanner.inventory = some inv ∧
      inv.samples.length = slotCount s ∧ 1 ≤ s.scanner.drive ∧ s.scanner.drive ≤ 8 ∧ (inv.pass = 1 ∨ (inv.pass = 2 ∧
      s.scanner.drive < 8))) ∧
    (∃ (s : State) (inv : Inventory), s.phase = .running ∧ s.scanner.inventory = some inv ∧
      inv.samples.length = slotCount s ∧ 1 ≤ s.scanner.drive ∧ s.scanner.drive ≤ 8 ∧ (inv.pass = 1 ∨ (inv.pass = 2 ∧
      s.scanner.drive < 8))) :=
  by
  refine ⟨⟨driving 2 bay, ?_⟩,
   ⟨driving 8 dock, ?_⟩,
   ⟨withSlots [slot 1 .empty, slot 16 .occupied] bay, 0x0001, ?_⟩,
   ⟨{ bay with scanner := { slots := [], drive := 8, inventory := some { pass := 2, samples := [] } } },
     { pass := 2, samples := [] }, ?_⟩,
   ⟨{ bay with cfg := { bay.cfg with slotCount := 128 }, scanner := { slots := [], drive := 8, inventory := some { pass := 2, samples := List.replicate 128 false } } }, { pass := 2, samples := List.replicate 128 false }, ?_⟩,
   ⟨{ bay with scanner := { slots := [], drive := 1, inventory := some { pass := 1, samples := List.replicate 16 false } } }, { pass := 1, samples := List.replicate 16 false }, ?_⟩,
   ⟨{ bay with scanner := { slots := [], drive := 8, inventory := some { pass := 1, samples := List.replicate 16 false } } }, { pass := 1, samples := List.replicate 16 false }, ?_⟩,
   ⟨{ bay with scanner := { slots := [], drive := 7, inventory := some { pass := 2, samples := List.replicate 16 false } } }, { pass := 2, samples := List.replicate 16 false }, ?_⟩⟩ <;>
  decide +kernel

theorem test_witness_AcceptedRemovalActsByTheSlotState :
    (∃ (s : State) (w : Sense) (sl : Slot), s.phase = .running ∧ s.scanner.inventory = none ∧ 1 ≤ s.scanner.drive ∧
      16 * s.scanner.drive ≤ slotCount s ∧ (s.scanner.slots.map fun sl => sl.number).Nodup ∧ sl ∈ s.scanner.slots ∧
      16 * (s.scanner.drive - 1) < sl.number ∧ sl.number ≤ 16 * s.scanner.drive ∧ sl.candidate = true ∧
      (∀ o ∈ s.scanner.slots, o ≠ sl → 16 * (s.scanner.drive - 1) < o.number → o.number ≤ 16 * s.scanner.drive →
        w.getLsbD (o.number - 16 * (s.scanner.drive - 1) - 1) = o.present) ∧ sl.present = true ∧
          w.getLsbD (sl.number - 16 * (s.scanner.drive - 1) - 1) = false ∧ (sl.state = .pullPending ∨
          sl.state = .occupied ∨ sl.state = .hold ∨ sl.state = .quarantine ∨ sl.state = .unexpectedPresence .empty ∨
          sl.state = .unexpectedPresence .out ∨ sl.state = .unexpectedPresence .awaited)) ∧
    (∃ (s : State) (w : Sense) (sl : Slot), s.phase = .running ∧ s.scanner.inventory = none ∧ 1 ≤ s.scanner.drive ∧
      16 * s.scanner.drive ≤ slotCount s ∧ (s.scanner.slots.map fun sl => sl.number).Nodup ∧ sl ∈ s.scanner.slots ∧
      16 * (s.scanner.drive - 1) < sl.number ∧ sl.number ≤ 16 * s.scanner.drive ∧ sl.candidate = true ∧
      (∀ o ∈ s.scanner.slots, o ≠ sl → 16 * (s.scanner.drive - 1) < o.number → o.number ≤ 16 * s.scanner.drive →
        w.getLsbD (o.number - 16 * (s.scanner.drive - 1) - 1) = o.present) ∧ sl.present = true ∧
          w.getLsbD (sl.number - 16 * (s.scanner.drive - 1) - 1) = false ∧ (sl.state = .pullPending ∨
          sl.state = .occupied ∨ sl.state = .hold ∨ sl.state = .quarantine ∨ sl.state = .unexpectedPresence .empty ∨
          sl.state = .unexpectedPresence .out ∨ sl.state = .unexpectedPresence .awaited)) :=
  by
  refine ⟨⟨withSlots [candidate (slot 1 .pullPending)] bay, 0, candidate (slot 1 .pullPending), ?_⟩,
   ⟨withSlots [candidate (slot 16 .occupied), slot 2 .occupied] bay, 0x0002, candidate (slot 16 .occupied), ?_⟩⟩ <;>
  decide +kernel

theorem test_witness_AcceptedPresenceActsByTheSlotState :
    (∃ (s : State) (w : Sense) (sl : Slot), s.phase = .running ∧ s.scanner.inventory = none ∧ 1 ≤ s.scanner.drive ∧
      16 * s.scanner.drive ≤ slotCount s ∧ (s.scanner.slots.map fun sl => sl.number).Nodup ∧ sl ∈ s.scanner.slots ∧
      16 * (s.scanner.drive - 1) < sl.number ∧ sl.number ≤ 16 * s.scanner.drive ∧ sl.candidate = true ∧
      (∀ o ∈ s.scanner.slots, o ≠ sl → 16 * (s.scanner.drive - 1) < o.number → o.number ≤ 16 * s.scanner.drive →
        w.getLsbD (o.number - 16 * (s.scanner.drive - 1) - 1) = o.present) ∧ CustodyTagsDistinct s ∧
          sl.present = false ∧ w.getLsbD (sl.number - 16 * (s.scanner.drive - 1) - 1) = true ∧
          (sl.state = .evacuated ∨ sl.state = .pulled ∨ sl.state = .unexpectedRemoval ∨ sl.state = .empty ∨
          sl.state = .out ∨ sl.state = .awaited ∨ (sl.state = .returnPending ∧ (custodyOfSlot sl s).isSome = true)) ∧
          RecordNumbersDistinct s) ∧
    (∃ (s : State) (w : Sense) (sl : Slot), s.phase = .running ∧ s.scanner.inventory = none ∧ 1 ≤ s.scanner.drive ∧
      16 * s.scanner.drive ≤ slotCount s ∧ (s.scanner.slots.map fun sl => sl.number).Nodup ∧ sl ∈ s.scanner.slots ∧
      16 * (s.scanner.drive - 1) < sl.number ∧ sl.number ≤ 16 * s.scanner.drive ∧ sl.candidate = true ∧
      (∀ o ∈ s.scanner.slots, o ≠ sl → 16 * (s.scanner.drive - 1) < o.number → o.number ≤ 16 * s.scanner.drive →
        w.getLsbD (o.number - 16 * (s.scanner.drive - 1) - 1) = o.present) ∧ CustodyTagsDistinct s ∧
          sl.present = false ∧ w.getLsbD (sl.number - 16 * (s.scanner.drive - 1) - 1) = true ∧
          (sl.state = .evacuated ∨ sl.state = .pulled ∨ sl.state = .unexpectedRemoval ∨ sl.state = .empty ∨
          sl.state = .out ∨ sl.state = .awaited ∨ (sl.state = .returnPending ∧ (custodyOfSlot sl s).isSome = true)) ∧
          RecordNumbersDistinct s) ∧
    (∃ (s : State) (w : Sense) (sl : Slot), s.phase = .running ∧ s.scanner.inventory = none ∧ 1 ≤ s.scanner.drive ∧
      16 * s.scanner.drive ≤ slotCount s ∧ (s.scanner.slots.map fun sl => sl.number).Nodup ∧ sl ∈ s.scanner.slots ∧
      16 * (s.scanner.drive - 1) < sl.number ∧ sl.number ≤ 16 * s.scanner.drive ∧ sl.candidate = true ∧
      (∀ o ∈ s.scanner.slots, o ≠ sl → 16 * (s.scanner.drive - 1) < o.number → o.number ≤ 16 * s.scanner.drive →
        w.getLsbD (o.number - 16 * (s.scanner.drive - 1) - 1) = o.present) ∧ CustodyTagsDistinct s ∧
          sl.present = false ∧ w.getLsbD (sl.number - 16 * (s.scanner.drive - 1) - 1) = true ∧
          (sl.state = .evacuated ∨ sl.state = .pulled ∨ sl.state = .unexpectedRemoval ∨ sl.state = .empty ∨
          sl.state = .out ∨ sl.state = .awaited ∨ (sl.state = .returnPending ∧ (custodyOfSlot sl s).isSome = true)) ∧
          RecordNumbersDistinct s) ∧
    (∃ (s : State) (w : Sense) (sl : Slot), s.phase = .running ∧ s.scanner.inventory = none ∧ 1 ≤ s.scanner.drive ∧
      16 * s.scanner.drive ≤ slotCount s ∧ (s.scanner.slots.map fun sl => sl.number).Nodup ∧ sl ∈ s.scanner.slots ∧
      16 * (s.scanner.drive - 1) < sl.number ∧ sl.number ≤ 16 * s.scanner.drive ∧ sl.candidate = true ∧
      (∀ o ∈ s.scanner.slots, o ≠ sl → 16 * (s.scanner.drive - 1) < o.number → o.number ≤ 16 * s.scanner.drive →
        w.getLsbD (o.number - 16 * (s.scanner.drive - 1) - 1) = o.present) ∧ CustodyTagsDistinct s ∧
          sl.present = false ∧ w.getLsbD (sl.number - 16 * (s.scanner.drive - 1) - 1) = true ∧
          (sl.state = .evacuated ∨ sl.state = .pulled ∨ sl.state = .unexpectedRemoval ∨ sl.state = .empty ∨
          sl.state = .out ∨ sl.state = .awaited ∨ (sl.state = .returnPending ∧ (custodyOfSlot sl s).isSome = true)) ∧
          RecordNumbersDistinct s) ∧
    (∃ (s : State) (w : Sense) (sl : Slot), s.phase = .running ∧ s.scanner.inventory = none ∧ 1 ≤ s.scanner.drive ∧
      16 * s.scanner.drive ≤ slotCount s ∧ (s.scanner.slots.map fun sl => sl.number).Nodup ∧ sl ∈ s.scanner.slots ∧
      16 * (s.scanner.drive - 1) < sl.number ∧ sl.number ≤ 16 * s.scanner.drive ∧ sl.candidate = true ∧
      (∀ o ∈ s.scanner.slots, o ≠ sl → 16 * (s.scanner.drive - 1) < o.number → o.number ≤ 16 * s.scanner.drive →
        w.getLsbD (o.number - 16 * (s.scanner.drive - 1) - 1) = o.present) ∧ CustodyTagsDistinct s ∧
          sl.present = false ∧ w.getLsbD (sl.number - 16 * (s.scanner.drive - 1) - 1) = true ∧
          (sl.state = .evacuated ∨ sl.state = .pulled ∨ sl.state = .unexpectedRemoval ∨ sl.state = .empty ∨
          sl.state = .out ∨ sl.state = .awaited ∨ (sl.state = .returnPending ∧ (custodyOfSlot sl s).isSome = true)) ∧
          RecordNumbersDistinct s) ∧
    (∃ (s : State) (w : Sense) (sl : Slot), s.phase = .running ∧ s.scanner.inventory = none ∧ 1 ≤ s.scanner.drive ∧
      16 * s.scanner.drive ≤ slotCount s ∧ (s.scanner.slots.map fun sl => sl.number).Nodup ∧ sl ∈ s.scanner.slots ∧
      16 * (s.scanner.drive - 1) < sl.number ∧ sl.number ≤ 16 * s.scanner.drive ∧ sl.candidate = true ∧
      (∀ o ∈ s.scanner.slots, o ≠ sl → 16 * (s.scanner.drive - 1) < o.number → o.number ≤ 16 * s.scanner.drive →
        w.getLsbD (o.number - 16 * (s.scanner.drive - 1) - 1) = o.present) ∧ CustodyTagsDistinct s ∧
          sl.present = false ∧ w.getLsbD (sl.number - 16 * (s.scanner.drive - 1) - 1) = true ∧
          RecordNumbersDistinct s ∧ sl.state = .returnPending ∧ custodyOfSlot sl s = none) ∧
    (∃ (s : State) (w : Sense) (sl : Slot), s.phase = .running ∧ s.scanner.inventory = none ∧ 1 ≤ s.scanner.drive ∧
      16 * s.scanner.drive ≤ slotCount s ∧ (s.scanner.slots.map fun sl => sl.number).Nodup ∧ sl ∈ s.scanner.slots ∧
      16 * (s.scanner.drive - 1) < sl.number ∧ sl.number ≤ 16 * s.scanner.drive ∧ sl.candidate = true ∧
      (∀ o ∈ s.scanner.slots, o ≠ sl → 16 * (s.scanner.drive - 1) < o.number → o.number ≤ 16 * s.scanner.drive →
        w.getLsbD (o.number - 16 * (s.scanner.drive - 1) - 1) = o.present) ∧ CustodyTagsDistinct s ∧
          sl.present = false ∧ w.getLsbD (sl.number - 16 * (s.scanner.drive - 1) - 1) = true ∧
          RecordNumbersDistinct s ∧ sl.state = .returnPending ∧ custodyOfSlot sl s = none) ∧
    (∃ (s : State) (w : Sense) (sl : Slot), s.phase = .running ∧ s.scanner.inventory = none ∧ 1 ≤ s.scanner.drive ∧
      16 * s.scanner.drive ≤ slotCount s ∧ (s.scanner.slots.map fun sl => sl.number).Nodup ∧ sl ∈ s.scanner.slots ∧
      16 * (s.scanner.drive - 1) < sl.number ∧ sl.number ≤ 16 * s.scanner.drive ∧ sl.candidate = true ∧
      (∀ o ∈ s.scanner.slots, o ≠ sl → 16 * (s.scanner.drive - 1) < o.number → o.number ≤ 16 * s.scanner.drive →
        w.getLsbD (o.number - 16 * (s.scanner.drive - 1) - 1) = o.present) ∧ CustodyTagsDistinct s ∧
          sl.present = false ∧ w.getLsbD (sl.number - 16 * (s.scanner.drive - 1) - 1) = true ∧
          RecordNumbersDistinct s ∧ sl.state = .returnPending ∧ custodyOfSlot sl s = none) ∧
    (∃ (s : State) (w : Sense) (sl : Slot), s.phase = .running ∧ s.scanner.inventory = none ∧ 1 ≤ s.scanner.drive ∧
      16 * s.scanner.drive ≤ slotCount s ∧ (s.scanner.slots.map fun sl => sl.number).Nodup ∧ sl ∈ s.scanner.slots ∧
      16 * (s.scanner.drive - 1) < sl.number ∧ sl.number ≤ 16 * s.scanner.drive ∧ sl.candidate = true ∧
      (∀ o ∈ s.scanner.slots, o ≠ sl → 16 * (s.scanner.drive - 1) < o.number → o.number ≤ 16 * s.scanner.drive →
        w.getLsbD (o.number - 16 * (s.scanner.drive - 1) - 1) = o.present) ∧ CustodyTagsDistinct s ∧
          sl.present = false ∧ w.getLsbD (sl.number - 16 * (s.scanner.drive - 1) - 1) = true ∧
          RecordNumbersDistinct s ∧ sl.state = .returnPending ∧ custodyOfSlot sl s = none) :=
  by
  refine ⟨⟨withSlots [candidate (slot 16 .evacuated), slot 2 .occupied] bay, 0x8002, candidate (slot 16 .evacuated),
    ?_⟩,
   ⟨owning [entry 5 .held] (withSlots [candidate { slot 1 .returnPending with tag := some 5 }] bay), 0x0001,
     candidate { slot 1 .returnPending with tag := some 5 }, ?_⟩,
   ⟨recording [record 9 .inbound .active [item 5 2 16 .active]] (owning [entry 5 .held] (withSlots [candidate
     { slot 16 .returnPending with tag := some 5, consignment := some 9 },
     { slot 17 .pulled with consignment := some 9 }] bay)), 0x8000,
     candidate { slot 16 .returnPending with tag := some 5, consignment := some 9 }, ?_⟩,
   ⟨recording [record 9 .inbound .active [item 5 2 16 .active,
     item 6 2 1 .active]] (owning [entry 5 .held] (withSlots [candidate
     { slot 16 .returnPending with tag := some 5, consignment := some 9 }] bay)), 0x8000,
     candidate { slot 16 .returnPending with tag := some 5, consignment := some 9 }, ?_⟩,
   ⟨owning [entry 0 .held] (withSlots [candidate { slot 1 .returnPending with tag := some 0 }] bay), 0x0001,
     candidate { slot 1 .returnPending with tag := some 0 }, ?_⟩,
   ⟨withSlots [candidate { slot 16 .returnPending with tag := some 5 }] bay, 0x8000,
     candidate { slot 16 .returnPending with tag := some 5 }, ?_⟩,
   ⟨withSlots [candidate (slot 1 .returnPending)] bay, 0x0001, candidate (slot 1 .returnPending), ?_⟩,
   ⟨recording [record 9 .inbound .active [item 5 2 16 .active]] (withSlots [candidate
     { slot 16 .returnPending with tag := some 5, consignment := some 9 }] bay), 0x8000,
     candidate { slot 16 .returnPending with tag := some 5, consignment := some 9 }, ?_⟩,
   ⟨withSlots [candidate { slot 16 .returnPending with tag := some 5 }, { slot 2 .out with tag := some 5 }] bay,
     0x8000, candidate { slot 16 .returnPending with tag := some 5 }, ?_⟩⟩ <;>
  decide +kernel

theorem test_witness_WindowAndMinuteExpiriesActOnTheirSlots :
    (∃ (s : State) (n : Nat) (sl : Slot), s.phase = .running ∧ findSlot n s = some sl ∧ sl.state = .pulled ∧
      sl.window.isSome = true ∧ sl.consignment = none) ∧
    (∃ (s : State) (n : Nat) (sl : Slot) (m : Nat), s.phase = .running ∧
      (s.scanner.slots.map fun x => x.number).Nodup ∧ RecordNumbersDistinct s ∧ findSlot n s = some sl ∧
      sl.state = .pulled ∧ sl.window.isSome = true ∧ sl.consignment = some m) ∧
    (∃ (s : State) (n : Nat) (sl : Slot), s.phase = .running ∧ findSlot n s = some sl ∧ sl.state = .returnPending ∧
      sl.window.isSome = true) ∧
    (∃ (s : State) (n : Nat), s.phase = .running ∧ (∀ sl ∈ findSlot n s, sl.state ≠ .returnPending ∨
      sl.window = none)) ∧
    (∃ (s : State) (n : Nat), s.phase = .running ∧ (∀ sl ∈ findSlot n s, sl.state ≠ .returnPending ∨
      sl.window = none)) ∧
    (∃ (s : State) (n : Nat), s.phase = .running ∧ (∀ sl ∈ findSlot n s, sl.state ≠ .pulled ∨ sl.window = none)) ∧
    (∃ (s : State) (n : Nat), s.phase = .running ∧ (∀ sl ∈ findSlot n s, sl.state ≠ .pulled ∨ sl.window = none)) ∧
    (∃ (s : State), s.phase = .running ∧ s.hold.paused = false) ∧
    (∃ (s : State), s.phase = .running ∧ s.hold.paused = true) ∧
    (∃ (s : State) (f : Frame) (sl : Slot), AcceptedCommand 7 f s ∧ findSlot (byteAt f.payload 0).toNat s = some sl ∧
      sl.state = .quarantine) ∧
    (∃ (s : State) (f : Frame), AcceptedCommand 7 f s ∧ (∀ sl ∈ findSlot (byteAt f.payload 0).toNat s,
      sl.state ≠ .quarantine)) ∧
    (∃ (s : State) (f : Frame), AcceptedCommand 7 f s ∧ (∀ sl ∈ findSlot (byteAt f.payload 0).toNat s,
      sl.state ≠ .quarantine)) :=
  by
  refine ⟨⟨withSlots [windowed (slot 1 .pulled)] bay, 1, windowed (slot 1 .pulled), ?_⟩,
   ⟨recording [record 9 .outbound .active [item 5 2 1 .active]] (withSlots
     [{ windowed (slot 1 .pulled) with consignment := some 9 }] bay), 1,
     { windowed (slot 1 .pulled) with consignment := some 9 }, 9, ?_⟩,
   ⟨withSlots [windowed (slot 128 .returnPending)] bay, 128, windowed (slot 128 .returnPending), ?_⟩,
   ⟨bay, 1, ?_⟩,
   ⟨withSlots [slot 1 .returnPending] bay, 1, ?_⟩,
   ⟨bay, 1, ?_⟩,
   ⟨withSlots [slot 1 .pulled] bay, 1, ?_⟩,
   ⟨counting bay, ?_⟩,
   ⟨bay, ?_⟩,
   ⟨withSlots [slot 16 .quarantine] bay, command 7 [16], slot 16 .quarantine, ?_⟩,
   ⟨bay, command 7 [0], ?_⟩,
   ⟨withSlots [slot 16 .hold] bay, command 7 [16], ?_⟩⟩ <;>
  decide +kernel

theorem test_witness_HoldsAreMultiplesOfTenUpToHmax :
    (∃ v : Settings, v.hMax % 10 = 0) ∧
    (∃ (image : List Byte) (v : Settings) (c : HoldClimate), judgeImage image = some v ∧ -400 ≤ c.tMin ∧
      c.tMin ≤ 700 ∧ -400 ≤ c.tMax ∧ c.tMax ≤ 700 ∧ c.rhMax ≤ 1000) :=
  ⟨⟨Settings.defaults, by decide⟩,
   ⟨image, imageSettings image, { tMin := -400, tMax := 700, rhMax := 1000 }, by decide +kernel⟩⟩

theorem test_witness_ReaderStartsAndFailsItsTransactions :
    (∃ (s : State), s.phase = .running) ∧
    (∃ (s : State), s.phase = .running ∧ s.reader.recovery.isSome = true ∧ s.reader.transaction = none) ∧
    (∃ (s : State), s.phase = .running ∧ s.reader.transaction = none ∧ s.reader.readPending = true) ∧
    (∃ (s : State) (x : Signal), s.phase = .running ∧ s.reader.transaction = none ∧ s.reader.readPending = false ∧
      s.reader.signalPending = some x) ∧
    (∃ (s : State), s.phase = .running ∧ s.reader.waiting = false ∧ s.reader.timeouts ≤ 3 ∧
      s.reader.transaction.isSome = true) ∧
    (∃ (s : State), s.phase = .running ∧ s.reader.waiting = false ∧ s.reader.timeouts ≤ 3 ∧
      s.reader.transaction.isSome = true) ∧
    (∃ (s : State) (ch : Byte), s.phase = .running ∧ s.reader.waiting = false ∧ s.reader.timeouts ≤ 3 ∧
      (s.reader.transaction = some .signalAccept ∨ s.reader.transaction = some .signalReject) ∧ ch ≠ 0x00 ∧
      ch ≠ 0xA5) ∧
    (∃ (s : State), s.phase = .running ∧ s.reader.waiting = false ∧ (s.reader.transaction = some .signalAccept ∨
      s.reader.transaction = some .signalReject)) ∧
    (∃ (s : State), s.phase = .running ∧ s.reader.transaction = none) ∧
    (∃ (s : State), s.phase = .running ∧ s.reader.transaction = none ∧ s.reader.readPending = false ∧
      s.reader.signalPending = none) ∧
    (∃ (s : State), s.phase = .running ∧ s.reader.transaction = none ∧ s.reader.readPending = false ∧
      s.reader.signalPending = none) ∧
    (∃ (s : State) (chars : List Byte) (rec : Bool), s.phase = .running ∧ s.reader.waiting = false ∧
      s.reader.timeouts ≤ 3 ∧ s.reader.transaction = some (.read rec) ∧ ((∃ x ∈ (chars.dropWhile (· == 0))[0]?,
      x ≠ 1 ∧ x ≠ 2 ∧ x ≠ 3) ∨ ((chars.dropWhile (· == 0))[0]? = some 1 ∧ ∃ k ∈ (chars.dropWhile (· == 0))[1]?,
      k ≠ 1 ∧ k ≠ 2 ∧ k ≠ 3))) ∧
    (∃ (s : State) (chars : List Byte) (rec : Bool), s.phase = .running ∧ s.reader.waiting = false ∧
      s.reader.timeouts ≤ 3 ∧ s.reader.transaction = some (.read rec) ∧ ((∃ x ∈ (chars.dropWhile (· == 0))[0]?,
      x ≠ 1 ∧ x ≠ 2 ∧ x ≠ 3) ∨ ((chars.dropWhile (· == 0))[0]? = some 1 ∧ ∃ k ∈ (chars.dropWhile (· == 0))[1]?,
      k ≠ 1 ∧ k ≠ 2 ∧ k ≠ 3))) ∧
    (∃ (s : State) (chars : List Byte), s.phase = .running ∧ ((chars.dropWhile (· == 0)) = [] ∨
      (chars.dropWhile (· == 0)) = [1] ∨ s.reader.transaction = none ∨ s.reader.transaction = some .signalAccept ∨
      s.reader.transaction = some .signalReject)) ∧
    (∃ (s : State) (chars : List Byte), s.phase = .running ∧ ((chars.dropWhile (· == 0)) = [] ∨
      (chars.dropWhile (· == 0)) = [1] ∨ s.reader.transaction = none ∨ s.reader.transaction = some .signalAccept ∨
      s.reader.transaction = some .signalReject)) :=
  by
  refine ⟨⟨bay, ?_⟩,
   ⟨{ bay with reader := { bay.reader with recovery := some 1 } }, ?_⟩,
   ⟨{ bay with reader := { bay.reader with readPending := true } }, ?_⟩,
   ⟨{ bay with reader := { bay.reader with signalPending := some .reject } }, .reject, ?_⟩,
   ⟨reading bay, ?_⟩,
   ⟨{ bay with reader := { (reading bay).reader with timeouts := 3 } }, ?_⟩,
   ⟨signalling bay, 0x15, ?_⟩,
   ⟨signalling bay, ?_⟩,
   ⟨bay, ?_⟩,
   ⟨bay, ?_⟩,
   ⟨{ stuck bay with out := { bay.out with active := BitVec.twoPow 25 Trouble.readerFault.code } }, ?_⟩,
   ⟨reading bay, [0, 0, 9], false, ?_⟩,
   ⟨lastRead bay, [1, 4], false, ?_⟩,
   ⟨reading bay, [0, 1], ?_⟩,
   ⟨bay, [2], ?_⟩⟩ <;>
  decide +kernel

theorem test_witness_ReadsAreRejectedDiscardedOrReachTheirRecord :
    (∃ (s : State) (chars : List Byte) (rec : Bool), s.phase = .running ∧ s.reader.waiting = false ∧
      s.reader.transaction = some (.read rec) ∧ (readResponseOf chars = .good .noTag ∨
      readResponseOf chars = .good .multiple)) ∧
    (∃ (s : State) (chars : List Byte) (rec : Bool), s.phase = .running ∧ s.reader.waiting = false ∧
      s.reader.transaction = some (.read rec) ∧ (readResponseOf chars = .good .noTag ∨
      readResponseOf chars = .good .multiple)) ∧
    (∃ (s : State) (chars : List Byte) (rec : Bool), s.phase = .running ∧ s.reader.waiting = false ∧
      s.reader.transaction = some (.read rec) ∧ (readResponseOf chars = .good .noTag ∨
      readResponseOf chars = .good .multiple)) ∧
    (∃ (s : State) (chars : List Byte) (rec : Bool) (k : TagKind) (id : Tag) (v : Option CaseClimate),
      s.phase = .running ∧ s.reader.waiting = false ∧ s.reader.transaction = some (.read rec) ∧
      readResponseOf chars = .good (.ok k id v) ∧ s.reader.bounce.isSome = true ∧ s.reader.lastId = some id) ∧
    (∃ (s : State) (chars : List Byte) (rec : Bool) (id : Tag) (v : Option CaseClimate) (c : Consignment),
      s.phase = .running ∧ s.reader.waiting = false ∧ s.reader.transaction = some (.read rec) ∧
      (s.reader.bounce = none ∨ s.reader.lastId ≠ some id) ∧ s.role = .dock ∧
      readResponseOf chars = .good (.ok .badge id v) ∧ s.consignments.find? (badgeReaches id) = some c ∧
      (c.state = .staging ∨ c.state = .waitingCourier)) ∧
    (∃ (s : State) (chars : List Byte) (rec : Bool) (id : Tag) (v : Option CaseClimate), s.phase = .running ∧
      s.reader.waiting = false ∧ s.reader.transaction = some (.read rec) ∧ (s.reader.bounce = none ∨
      s.reader.lastId ≠ some id) ∧ s.role = .dock ∧ readResponseOf chars = .good (.ok .badge id v) ∧
      s.consignments.find? (badgeReaches id) = none) ∧
    (∃ (s : State) (chars : List Byte) (rec : Bool) (id : Tag) (v : Option CaseClimate) (k : TagKind),
      s.phase = .running ∧ s.reader.waiting = false ∧ s.reader.transaction = some (.read rec) ∧
      (s.reader.bounce = none ∨ s.reader.lastId ≠ some id) ∧ s.role = .bay ∧
      readResponseOf chars = .good (.ok k id v) ∧ k ≠ .cartridge) ∧
    (∃ (s : State) (chars : List Byte) (rec : Bool) (id : Tag) (v : Option CaseClimate) (c : Consignment),
      s.phase = .running ∧ s.reader.waiting = false ∧ s.reader.transaction = some (.read rec) ∧
      (s.reader.bounce = none ∨ s.reader.lastId ≠ some id) ∧ s.role = .dock ∧
      readResponseOf chars = .good (.ok .case id v) ∧
      (s.consignments.find? (fun c => decide (c.state = .courierPresent ∨ c.state = .receiving)) = some c)) ∧
    (∃ (s : State) (chars : List Byte) (rec : Bool) (id : Tag) (v : Option CaseClimate) (c : Consignment),
      s.phase = .running ∧ s.reader.waiting = false ∧ s.reader.transaction = some (.read rec) ∧
      (s.reader.bounce = none ∨ s.reader.lastId ≠ some id) ∧ s.role = .dock ∧
      readResponseOf chars = .good (.ok .badge id v) ∧ s.consignments.find? (badgeReaches id) = some c ∧
      c.state = .courierPresent ∧ CustodyTagsDistinct s ∧ RecordNumbersDistinct s ∧
      (c.entries.filterMap fun x => x.tag).Nodup) ∧
    (∃ (s : State) (chars : List Byte) (rec : Bool) (id : Tag) (v : Option CaseClimate), s.phase = .running ∧
      s.reader.waiting = false ∧ s.reader.transaction = some (.read rec) ∧ (s.reader.bounce = none ∨
      s.reader.lastId ≠ some id) ∧ s.role = .dock ∧ readResponseOf chars = .good (.ok .case id v) ∧
      (s.consignments.find? (fun c => decide (c.state = .courierPresent ∨ c.state = .receiving)) = none)) ∧
    (∃ (s : State) (chars : List Byte) (rec : Bool) (id : Tag) (v : Option CaseClimate), s.phase = .running ∧
      s.reader.waiting = false ∧ s.reader.transaction = some (.read rec) ∧ (s.reader.bounce = none ∨
      s.reader.lastId ≠ some id) ∧ s.role = .dock ∧ readResponseOf chars = .good (.ok .case id v) ∧
      (s.consignments.find? (fun c => decide (c.state = .courierPresent ∨ c.state = .receiving)) = none)) :=
  by
  refine ⟨⟨reading bay, [0, 2], false, ?_⟩,
   ⟨reading bay, [3], false, ?_⟩,
   ⟨lastRead bay, [3], false, ?_⟩,
   ⟨bounced 5 (reading bay), response 1 5, false, .cartridge, 5, none, ?_⟩,
   ⟨recording [staged] (reading dock), response 2 8, false, 8, none, staged, ?_⟩,
   ⟨reading dock, response 2 8, false, 8, none, ?_⟩,
   ⟨reading bay, response 2 8, false, 8, none, .badge, ?_⟩,
   ⟨recording [{ staged with state := .receiving }] (reading dock), caseResponse, false, 4,
     some { tMin := 100, tMax := 200, rhMax := 1, valid := true }, { staged with state := .receiving }, ?_⟩,
   ⟨recording [{ staged with state := .courierPresent }] (bounced 9 (reading dock)), response 2 8, false, 8, none,
     { staged with state := .courierPresent }, ?_⟩,
   ⟨reading dock, caseResponse, false, 4, some { tMin := 100, tMax := 200, rhMax := 1, valid := true }, ?_⟩,
   ⟨lastRead dock, caseResponse, false, 4, some { tMin := 100, tMax := 200, rhMax := 1, valid := true }, ?_⟩⟩ <;>
  decide +kernel

theorem test_witness_CartridgeReadsMoveTheirCustody :
    (∃ (s : State) (chars : List Byte) (rec : Bool) (id : Tag) (v : Option CaseClimate) (n : Nat) (m : Nat) (sl :
      Slot), s.phase = .running ∧ s.reader.waiting = false ∧ s.reader.transaction = some (.read rec) ∧
      (s.reader.bounce = none ∨ s.reader.lastId ≠ some id) ∧ s.role = .bay ∧
      readResponseOf chars = .good (.ok .cartridge id v) ∧ id ≠ 0 ∧ findCustody id s = none ∧
      s.custody.entries.length < 24 ∧ pullCandidates id s.consignments = [{ number := m, slot := n }] ∧
      findSlot n s = some sl ∧ sl.state = .pulled ∧ (s.scanner.slots.map fun sl => sl.number).Nodup) ∧
    (∃ (s : State) (chars : List Byte) (rec : Bool) (id : Tag) (v : Option CaseClimate) (n : Nat) (m : Nat) (sl :
      Slot), s.phase = .running ∧ s.reader.waiting = false ∧ s.reader.transaction = some (.read rec) ∧
      (s.reader.bounce = none ∨ s.reader.lastId ≠ some id) ∧ s.role = .bay ∧
      readResponseOf chars = .good (.ok .cartridge id v) ∧ id ≠ 0 ∧ findCustody id s = none ∧
      s.custody.entries.length < 24 ∧ pullCandidates id s.consignments = [{ number := m, slot := n }] ∧
      findSlot n s = some sl ∧ sl.state = .pulled ∧ (s.scanner.slots.map fun sl => sl.number).Nodup) ∧
    (∃ (s : State) (chars : List Byte) (rec : Bool) (id : Tag) (v : Option CaseClimate), s.phase = .running ∧
      s.reader.waiting = false ∧ s.reader.transaction = some (.read rec) ∧ (s.reader.bounce = none ∨
      s.reader.lastId ≠ some id) ∧ s.role = .bay ∧ readResponseOf chars = .good (.ok .cartridge id v) ∧
      findCustody id s = none ∧ pullCandidates id s.consignments = []) ∧
    (∃ (s : State) (chars : List Byte) (rec : Bool) (id : Tag) (v : Option CaseClimate), s.phase = .running ∧
      s.reader.waiting = false ∧ s.reader.transaction = some (.read rec) ∧ (s.reader.bounce = none ∨
      s.reader.lastId ≠ some id) ∧ s.role = .bay ∧ readResponseOf chars = .good (.ok .cartridge id v) ∧
      findCustody id s = none ∧ pullCandidates id s.consignments = []) ∧
    (∃ (s : State) (chars : List Byte) (rec : Bool) (id : Tag) (v : Option CaseClimate) (e : CustodyEntry),
      s.phase = .running ∧ s.reader.waiting = false ∧ s.reader.transaction = some (.read rec) ∧
      (s.reader.bounce = none ∨ s.reader.lastId ≠ some id) ∧ readResponseOf chars = .good (.ok .cartridge id v) ∧
      findCustody id s = some e ∧ e.state = .expected) ∧
    (∃ (s : State) (chars : List Byte) (rec : Bool) (id : Tag) (v : Option CaseClimate) (e : CustodyEntry),
      s.phase = .running ∧ s.reader.waiting = false ∧ s.reader.transaction = some (.read rec) ∧
      (s.reader.bounce = none ∨ s.reader.lastId ≠ some id) ∧ s.role = .dock ∧
      readResponseOf chars = .good (.ok .cartridge id v) ∧ findCustody id s = some e ∧ e.state = .held ∧
      (∃ c ∈ s.consignments, e.consignment = some c.number ∧ c.direction = .outbound ∧ c.state = .courierPresent)) ∧
    (∃ (s : State) (chars : List Byte) (rec : Bool) (id : Tag) (v : Option CaseClimate) (e : CustodyEntry),
      s.phase = .running ∧ s.reader.waiting = false ∧ s.reader.transaction = some (.read rec) ∧
      (s.reader.bounce = none ∨ s.reader.lastId ≠ some id) ∧ s.role = .dock ∧ OffersSettled s ∧
      CustodyTagsDistinct s ∧ readResponseOf chars = .good (.ok .cartridge id v) ∧ findCustody id s = some e ∧
      e.state = .loaded) ∧
    (∃ (s : State) (chars : List Byte) (rec : Bool) (id : Tag) (v : Option CaseClimate) (c : Consignment) (e :
      Entry), s.phase = .running ∧ s.reader.waiting = false ∧ s.reader.transaction = some (.read rec) ∧
      (s.reader.bounce = none ∨ s.reader.lastId ≠ some id) ∧ s.role = .dock ∧
      readResponseOf chars = .good (.ok .cartridge id v) ∧ findCustody id s = none ∧ s.custody.entries.length < 24 ∧
      RecordNumbersDistinct s ∧ (s.consignments.find? (fun c => decide (c.direction = .inbound ∧
      c.state = .receiving ∧ ∃ e ∈ c.entries, e.tag = some id ∧ e.state = .waiting)) = some c) ∧
      c.entries.find? (fun e => decide (e.tag = some id ∧ e.state = .waiting)) = some e) ∧
    (∃ (s : State) (chars : List Byte) (rec : Bool) (id : Tag) (v : Option CaseClimate) (e : CustodyEntry),
      s.phase = .running ∧ s.reader.waiting = false ∧ s.reader.transaction = some (.read rec) ∧
      (s.reader.bounce = none ∨ s.reader.lastId ≠ some id) ∧ s.role = .bay ∧
      readResponseOf chars = .good (.ok .cartridge id v) ∧ findCustody id s = some e ∧ e.state ≠ .expected) ∧
    (∃ (s : State) (chars : List Byte) (rec : Bool) (id : Tag) (v : Option CaseClimate) (n : Nat) (m : Nat) (sl :
      Slot), s.phase = .running ∧ s.reader.waiting = false ∧ s.reader.transaction = some (.read rec) ∧
      (s.reader.bounce = none ∨ s.reader.lastId ≠ some id) ∧ s.role = .bay ∧
      readResponseOf chars = .good (.ok .cartridge id v) ∧ findCustody id s = none ∧ 24 ≤ s.custody.entries.length ∧
      pullCandidates id s.consignments = [{ number := m, slot := n }] ∧ findSlot n s = some sl ∧ sl.state = .pulled) ∧
    (∃ (s : State) (chars : List Byte) (rec : Bool) (id : Tag) (v : Option CaseClimate), s.phase = .running ∧
      s.reader.waiting = false ∧ s.reader.transaction = some (.read rec) ∧ (s.reader.bounce = none ∨
      s.reader.lastId ≠ some id) ∧ s.role = .dock ∧ readResponseOf chars = .good (.ok .cartridge id v) ∧
      findCustody id s = none ∧ 24 ≤ s.custody.entries.length ∧ (∃ c ∈ s.consignments, c.direction = .inbound ∧
      c.state = .receiving ∧ ∃ e ∈ c.entries, e.tag = some id ∧ e.state = .waiting)) ∧
    (∃ (s : State) (chars : List Byte) (rec : Bool) (id : Tag) (v : Option CaseClimate), s.phase = .running ∧
      s.reader.waiting = false ∧ s.reader.transaction = some (.read rec) ∧ (s.reader.bounce = none ∨
      s.reader.lastId ≠ some id) ∧ s.role = .dock ∧ readResponseOf chars = .good (.ok .cartridge id v) ∧
      ((findCustody id s = none ∧ ∀ c ∈ s.consignments, c.direction = .inbound → c.state = .receiving →
      ∀ e ∈ c.entries, e.tag ≠ some id ∨ e.state ≠ .waiting) ∨ (∃ e ∈ findCustody id s, e.state ≠ .expected ∧
      e.state ≠ .loaded ∧ (e.state = .held → ∀ c ∈ s.consignments, e.consignment = some c.number →
      c.direction ≠ .outbound ∨ c.state ≠ .courierPresent)))) ∧
    (∃ (s : State) (chars : List Byte) (rec : Bool) (id : Tag) (v : Option CaseClimate), s.phase = .running ∧
      s.reader.waiting = false ∧ s.reader.transaction = some (.read rec) ∧ (s.reader.bounce = none ∨
      s.reader.lastId ≠ some id) ∧ s.role = .dock ∧ readResponseOf chars = .good (.ok .cartridge id v) ∧
      ((findCustody id s = none ∧ ∀ c ∈ s.consignments, c.direction = .inbound → c.state = .receiving →
      ∀ e ∈ c.entries, e.tag ≠ some id ∨ e.state ≠ .waiting) ∨ (∃ e ∈ findCustody id s, e.state ≠ .expected ∧
      e.state ≠ .loaded ∧ (e.state = .held → ∀ c ∈ s.consignments, e.consignment = some c.number →
      c.direction ≠ .outbound ∨ c.state ≠ .courierPresent)))) :=
  by
  refine ⟨⟨recording [record 9 .outbound .active [item 5 2 1 .active]] (withSlots [slot 1 .pulled] (reading bay)),
    response 1 5, false, 5, none, 1, 9, slot 1 .pulled, ?_⟩,
   ⟨recording [record 9 .outbound .active [item 5 2 1 .active]] (withSlots [slot 1 .pulled,
     { slot 2 .out with tag := some 5 }] (reading bay)), response 1 5, false, 5, none, 1, 9, slot 1 .pulled, ?_⟩,
   ⟨reading bay, response 1 5, false, 5, none, ?_⟩,
   ⟨lastRead bay, response 1 5, false, 5, none, ?_⟩,
   ⟨owning [entry 5 .expected] (reading bay), response 1 5, false, 5, none, entry 5 .expected, ?_⟩,
   ⟨owning [{ entry 5 .held with consignment := some 9 }] (recording [record 9 .outbound .courierPresent []] (reading
     dock)), response 1 5, false, 5, none, { entry 5 .held with consignment := some 9 }, ?_⟩,
   ⟨owning [entry 5 .loaded] (reading dock), response 1 5, false, 5, none, entry 5 .loaded, ?_⟩,
   ⟨recording [record 9 .inbound .receiving [item 5 2 1 .waiting]] (owning ((List.range 23).map fun n => entry
     (BitVec.ofNat 64 (100 + n)) .held) (reading dock)), response 1 5, false, 5, none,
     record 9 .inbound .receiving [item 5 2 1 .waiting], item 5 2 1 .waiting, ?_⟩,
   ⟨owning [entry 5 .held] (reading bay), response 1 5, false, 5, none, entry 5 .held, ?_⟩,
   ⟨recording [record 9 .outbound .active [item 5 2 1 .active]] (withSlots [slot 1 .pulled] (owning ((List.range
     24).map fun n => entry (BitVec.ofNat 64 (100 + n)) .held) (reading bay))), response 1 5, false, 5, none, 1, 9,
     slot 1 .pulled, ?_⟩,
   ⟨recording [record 9 .inbound .receiving [item 5 2 1 .waiting]] (owning ((List.range 24).map fun n => entry
     (BitVec.ofNat 64 (100 + n)) .held) (reading dock)), response 1 5, false, 5, none, ?_⟩,
   ⟨reading dock, response 1 5, false, 5, none, ?_⟩,
   ⟨owning [entry 5 .adrift] (reading dock), response 1 5, false, 5, none, ?_⟩⟩ <;>
  decide +kernel

theorem test_witness_ConsignIsJudgedByItsTests :
    (∃ (s : State) (f : Frame), Accepted kindConsign f s ∧ FromConsole f s) ∧
    (∃ (s : State) (f : Frame), Accepted kindConsign f s ∧ FromConsole f s) ∧
    (∃ (s : State) (f : Frame), Accepted kindEntry f s ∧ FromConsole f s ∧ (∀ c ∈ findRecord (wordAt f.payload 0) s,
      c.state ≠ .opening)) ∧
    (∃ (s : State) (f : Frame), Accepted kindEntry f s ∧ FromConsole f s ∧ (∀ c ∈ findRecord (wordAt f.payload 0) s,
      c.state ≠ .opening)) :=
  by
  refine ⟨⟨bay, frame 3 30 (consignBytes 0), ?_⟩,
   ⟨bay, frame 3 30 (consignBytes 9), ?_⟩,
   ⟨bay, frame 4 30 (entryBytes 9 2 1 1), ?_⟩,
   ⟨recording [record 9 .outbound .active []] bay, frame 4 30 (entryBytes 9 2 1 1), ?_⟩⟩ <;>
  decide +kernel

theorem test_witness_EntriesFillAndValidateTheirRecord :
    (∃ (s : State) (f : Frame), Accepted kindEntry f s ∧ FromConsole f s ∧
      ∀ c ∈ findRecord (wordAt f.payload 0) s, c.state ≠ .opening) ∧
    (∃ (s : State) (f : Frame) (c : Consignment) (v : Validated), Accepted kindEntry f s ∧ FromConsole f s ∧
      (∃ e ∈ entryList f.payload, e.last = true) ∧ findRecord (wordAt f.payload 0) s = some c ∧ c.state = .opening ∧
      RecordNumbersDistinct s ∧
      v = validated c.number c.direction s [] s.scanner.slots
        (c.entries ++ (entriesTaken f.payload).take (16 - c.entries.length)) ∧
      (∃ e ∈ v.entries, e.state = .waiting ∨ e.state = .active)) ∧
    (∃ (s : State) (f : Frame) (c : Consignment) (v : Validated), Accepted kindEntry f s ∧ FromConsole f s ∧
      (∃ e ∈ entryList f.payload, e.last = true) ∧ findRecord (wordAt f.payload 0) s = some c ∧ c.state = .opening ∧
      RecordNumbersDistinct s ∧
      v = validated c.number c.direction s [] s.scanner.slots
        (c.entries ++ (entriesTaken f.payload).take (16 - c.entries.length)) ∧
      (∃ e ∈ v.entries, e.state = .waiting ∨ e.state = .active)) ∧
    (∃ (s : State) (f : Frame) (c : Consignment) (v : Validated), Accepted kindEntry f s ∧ FromConsole f s ∧
      (∃ e ∈ entryList f.payload, e.last = true) ∧ findRecord (wordAt f.payload 0) s = some c ∧ c.state = .opening ∧
      RecordNumbersDistinct s ∧ OffersSettled s ∧
      v = validated c.number c.direction s [] s.scanner.slots
        (c.entries ++ (entriesTaken f.payload).take (16 - c.entries.length)) ∧
      (∀ e ∈ v.entries, e.state ≠ .waiting ∧ e.state ≠ .active)) ∧
    (∃ (s : State) (f : Frame) (c : Consignment) (v : Validated), Accepted kindEntry f s ∧ FromConsole f s ∧
      (∃ e ∈ entryList f.payload, e.last = true) ∧ findRecord (wordAt f.payload 0) s = some c ∧ c.state = .opening ∧
      RecordNumbersDistinct s ∧ OffersSettled s ∧
      v = validated c.number c.direction s [] s.scanner.slots
        (c.entries ++ (entriesTaken f.payload).take (16 - c.entries.length)) ∧
      (∀ e ∈ v.entries, e.state ≠ .waiting ∧ e.state ≠ .active)) ∧
    (∃ (s : State) (f : Frame) (c : Consignment) (v : Validated), Accepted kindEntry f s ∧ FromConsole f s ∧
      (∃ e ∈ entryList f.payload, e.last = true) ∧ findRecord (wordAt f.payload 0) s = some c ∧ c.state = .opening ∧
      RecordNumbersDistinct s ∧ OffersSettled s ∧
      v = validated c.number c.direction s [] s.scanner.slots
        (c.entries ++ (entriesTaken f.payload).take (16 - c.entries.length)) ∧
      (∀ e ∈ v.entries, e.state ≠ .waiting ∧ e.state ≠ .active)) ∧
    (∃ (s : State) (f : Frame) (c : Consignment) (v : Validated), Accepted kindEntry f s ∧ FromConsole f s ∧
      (∃ e ∈ entryList f.payload, e.last = true) ∧ findRecord (wordAt f.payload 0) s = some c ∧ c.state = .opening ∧
      RecordNumbersDistinct s ∧ OffersSettled s ∧
      v = validated c.number c.direction s [] s.scanner.slots
        (c.entries ++ (entriesTaken f.payload).take (16 - c.entries.length)) ∧
      (∀ e ∈ v.entries, e.state ≠ .waiting ∧ e.state ≠ .active)) ∧
    (∃ (s : State) (f : Frame) (c : Consignment), Accepted kindEntry f s ∧ FromConsole f s ∧ f.payload.length = 13 ∧
      byteAt f.payload 12 = 0 ∧ findRecord (wordAt f.payload 0) s = some c ∧ c.state = .opening) ∧
    (∃ (s : State) (f : Frame) (c : Consignment), Accepted kindEntry f s ∧ FromConsole f s ∧
      byteAt f.payload 12 ≠ 0 ∧ findRecord (wordAt f.payload 0) s = some c ∧ c.state = .opening ∧
      RecordNumbersDistinct s ∧ s.role = .dock ∧ c.direction = .outbound ∧ c.entries = [] ∧
      1 ≤ (byteAt f.payload 10).toNat ∧ (byteAt f.payload 10).toNat ≤ 30 ∧
      (byteAt f.payload 10).toNat ≠ ownNumber s ∧ (byteAt f.payload 10).toNat ≠ s.cfg.console ∧
      byteAt f.payload 11 = 0 ∧ (tagAt f.payload 2 = 0 ∨ findCustody (tagAt f.payload 2) s = none) ∧
      (tagAt f.payload 2 = 0 ∨ ∀ x ∈ s.consignments, ∀ e ∈ x.entries, e.tag ≠ some (tagAt f.payload 2))) ∧
    (∃ (s : State) (f : Frame) (c : Consignment), Accepted kindEntry f s ∧ FromConsole f s ∧
      byteAt f.payload 12 ≠ 0 ∧ findRecord (wordAt f.payload 0) s = some c ∧ c.state = .opening ∧
      RecordNumbersDistinct s ∧ s.role = .dock ∧ c.direction = .outbound ∧ c.entries = [] ∧
      1 ≤ (byteAt f.payload 10).toNat ∧ (byteAt f.payload 10).toNat ≤ 30 ∧
      (byteAt f.payload 10).toNat ≠ ownNumber s ∧ (byteAt f.payload 10).toNat ≠ s.cfg.console ∧
      byteAt f.payload 11 = 0 ∧ (tagAt f.payload 2 = 0 ∨ findCustody (tagAt f.payload 2) s = none) ∧
      (tagAt f.payload 2 = 0 ∨ ∀ x ∈ s.consignments, ∀ e ∈ x.entries, e.tag ≠ some (tagAt f.payload 2))) ∧
    (∃ (s : State) (f : Frame) (c : Consignment) (sl : Slot), Accepted kindEntry f s ∧ FromConsole f s ∧
      byteAt f.payload 12 ≠ 0 ∧ findRecord (wordAt f.payload 0) s = some c ∧ c.state = .opening ∧
      RecordNumbersDistinct s ∧ s.role = .bay ∧ c.direction = .outbound ∧ c.entries = [] ∧
      (byteAt f.payload 10).toNat = ownNumber s ∧ (byteAt f.payload 11).toNat ≤ slotCount s ∧
      1 ≤ (byteAt f.payload 11).toNat ∧ findSlot (byteAt f.payload 11).toNat s = some sl ∧ sl.state = .occupied ∧
      (sl.tag = none ∨ (tagAt f.payload 2 ≠ 0 ∧ sl.tag = some (tagAt f.payload 2))) ∧ (tagAt f.payload 2 = 0 ∨
      findCustody (tagAt f.payload 2) s = none) ∧ (tagAt f.payload 2 = 0 ∨ ∀ x ∈ s.consignments, ∀ e ∈ x.entries,
      e.tag ≠ some (tagAt f.payload 2))) ∧
    (∃ (s : State) (f : Frame) (c : Consignment), Accepted kindEntry f s ∧ FromConsole f s ∧
      byteAt f.payload 12 ≠ 0 ∧ findRecord (wordAt f.payload 0) s = some c ∧ c.state = .opening ∧
      RecordNumbersDistinct s ∧ s.role = .bay ∧ c.entries = [] ∧ (byteAt f.payload 10).toNat ≠ ownNumber s ∧
      (∀ sl ∈ s.scanner.slots, sl.consignment ≠ some c.number)) ∧
    (∃ (s : State) (f : Frame) (c : Consignment), Accepted kindEntry f s ∧ FromConsole f s ∧ f.payload.length = 24 ∧
      byteAt f.payload 12 = 0 ∧ byteAt f.payload 23 = 0 ∧ findRecord (wordAt f.payload 0) s = some c ∧
      c.state = .opening) ∧
    (∃ (s : State) (f : Frame) (c : Consignment), Accepted kindEntry f s ∧ FromConsole f s ∧ f.payload.length = 24 ∧
      byteAt f.payload 12 = 0 ∧ byteAt f.payload 23 = 0 ∧ findRecord (wordAt f.payload 0) s = some c ∧
      c.state = .opening) ∧
    (∃ (s : State) (f : Frame) (c : Consignment), Accepted kindEntry f s ∧ FromConsole f s ∧ f.payload.length = 35 ∧
      byteAt f.payload 12 = 0 ∧ byteAt f.payload 23 = 0 ∧ byteAt f.payload 34 = 0 ∧
      findRecord (wordAt f.payload 0) s = some c ∧ c.state = .opening) ∧
    (∃ (s : State) (f : Frame) (c : Consignment), Accepted kindEntry f s ∧ FromConsole f s ∧ f.payload.length = 35 ∧
      byteAt f.payload 12 = 0 ∧ byteAt f.payload 23 = 0 ∧ byteAt f.payload 34 = 0 ∧
      findRecord (wordAt f.payload 0) s = some c ∧ c.state = .opening) ∧
    (∃ (s : State) (f : Frame) (c : Consignment) (sl : Slot), Accepted kindEntry f s ∧ FromConsole f s ∧
      byteAt f.payload 12 ≠ 0 ∧ findRecord (wordAt f.payload 0) s = some c ∧ c.state = .opening ∧
      RecordNumbersDistinct s ∧ s.role = .bay ∧ c.direction = .inbound ∧ c.entries = [] ∧
      (byteAt f.payload 10).toNat = ownNumber s ∧ (byteAt f.payload 11).toNat ≤ slotCount s ∧
      1 ≤ (byteAt f.payload 11).toNat ∧ findSlot (byteAt f.payload 11).toNat s = some sl ∧ (sl.state = .empty ∨
      (sl.state = .out ∧ tagAt f.payload 2 ≠ 0 ∧ sl.tag = some (tagAt f.payload 2))) ∧ (tagAt f.payload 2 = 0 ∨
      ∀ o ∈ s.scanner.slots, o.number ≠ (byteAt f.payload 11).toNat → o.tag ≠ some (tagAt f.payload 2) ∧
      o.expected ≠ some (tagAt f.payload 2)) ∧ (tagAt f.payload 2 = 0 ∨ findCustody (tagAt f.payload 2) s = none) ∧
      (tagAt f.payload 2 = 0 ∨ ∀ x ∈ s.consignments, ∀ e ∈ x.entries, e.tag ≠ some (tagAt f.payload 2))) ∧
    (∃ (s : State) (f : Frame) (c : Consignment) (sl : Slot), Accepted kindEntry f s ∧ FromConsole f s ∧
      byteAt f.payload 12 ≠ 0 ∧ findRecord (wordAt f.payload 0) s = some c ∧ c.state = .opening ∧
      RecordNumbersDistinct s ∧ s.role = .bay ∧ c.direction = .inbound ∧ c.entries = [] ∧
      (byteAt f.payload 10).toNat = ownNumber s ∧ (byteAt f.payload 11).toNat ≤ slotCount s ∧
      1 ≤ (byteAt f.payload 11).toNat ∧ findSlot (byteAt f.payload 11).toNat s = some sl ∧ (sl.state = .empty ∨
      (sl.state = .out ∧ tagAt f.payload 2 ≠ 0 ∧ sl.tag = some (tagAt f.payload 2))) ∧ (tagAt f.payload 2 = 0 ∨
      ∀ o ∈ s.scanner.slots, o.number ≠ (byteAt f.payload 11).toNat → o.tag ≠ some (tagAt f.payload 2) ∧
      o.expected ≠ some (tagAt f.payload 2)) ∧ (tagAt f.payload 2 = 0 ∨ findCustody (tagAt f.payload 2) s = none) ∧
      (tagAt f.payload 2 = 0 ∨ ∀ x ∈ s.consignments, ∀ e ∈ x.entries, e.tag ≠ some (tagAt f.payload 2))) ∧
    (∃ (s : State) (f : Frame) (c : Consignment), Accepted kindEntry f s ∧ FromConsole f s ∧
      byteAt f.payload 12 ≠ 0 ∧ findRecord (wordAt f.payload 0) s = some c ∧ c.state = .opening ∧
      RecordNumbersDistinct s ∧ OffersSettled s ∧ s.role = .bay ∧ c.entries = [] ∧
      ((byteAt f.payload 10).toNat ≠ ownNumber s ∨ (byteAt f.payload 11).toNat < 1 ∨
      slotCount s < (byteAt f.payload 11).toNat ∨ (tagAt f.payload 2 ≠ 0 ∧
      ((findCustody (tagAt f.payload 2) s).isSome = true ∨ ∃ x ∈ s.consignments, x.number ≠ wordAt f.payload 0 ∧
      ∃ e ∈ x.entries, e.tag = some (tagAt f.payload 2) ∧ (e.state = .waiting ∨ e.state = .active))) ∨
      (c.direction = .outbound ∧ ∀ sl ∈ findSlot (byteAt f.payload 11).toNat s, sl.state ≠ .occupied ∨
      (sl.tag ≠ none ∧ (tagAt f.payload 2 = 0 ∨ sl.tag ≠ some (tagAt f.payload 2)))) ∨ (c.direction = .inbound ∧
      ∀ sl ∈ findSlot (byteAt f.payload 11).toNat s, (sl.state ≠ .empty ∧ (sl.state ≠ .out ∨ tagAt f.payload 2 = 0 ∨
      sl.tag ≠ some (tagAt f.payload 2))) ∨ (tagAt f.payload 2 ≠ 0 ∧ ∃ o ∈ s.scanner.slots, o.number ≠ sl.number ∧
      ((o.tag = some (tagAt f.payload 2) ∧ (o.state = .pullPending ∨ o.state = .pulled ∨ o.state = .returnPending ∨
      o.state = .occupied ∨ o.state = .hold ∨ o.state = .quarantine)) ∨ (o.state = .awaited ∧
      o.expected = some (tagAt f.payload 2))))))) ∧
    (∃ (s : State) (f : Frame) (c : Consignment), Accepted kindEntry f s ∧ FromConsole f s ∧
      byteAt f.payload 12 ≠ 0 ∧ findRecord (wordAt f.payload 0) s = some c ∧ c.state = .opening ∧
      RecordNumbersDistinct s ∧ OffersSettled s ∧ s.role = .bay ∧ c.entries = [] ∧
      ((byteAt f.payload 10).toNat ≠ ownNumber s ∨ (byteAt f.payload 11).toNat < 1 ∨
      slotCount s < (byteAt f.payload 11).toNat ∨ (tagAt f.payload 2 ≠ 0 ∧
      ((findCustody (tagAt f.payload 2) s).isSome = true ∨ ∃ x ∈ s.consignments, x.number ≠ wordAt f.payload 0 ∧
      ∃ e ∈ x.entries, e.tag = some (tagAt f.payload 2) ∧ (e.state = .waiting ∨ e.state = .active))) ∨
      (c.direction = .outbound ∧ ∀ sl ∈ findSlot (byteAt f.payload 11).toNat s, sl.state ≠ .occupied ∨
      (sl.tag ≠ none ∧ (tagAt f.payload 2 = 0 ∨ sl.tag ≠ some (tagAt f.payload 2)))) ∨ (c.direction = .inbound ∧
      ∀ sl ∈ findSlot (byteAt f.payload 11).toNat s, (sl.state ≠ .empty ∧ (sl.state ≠ .out ∨ tagAt f.payload 2 = 0 ∨
      sl.tag ≠ some (tagAt f.payload 2))) ∨ (tagAt f.payload 2 ≠ 0 ∧ ∃ o ∈ s.scanner.slots, o.number ≠ sl.number ∧
      ((o.tag = some (tagAt f.payload 2) ∧ (o.state = .pullPending ∨ o.state = .pulled ∨ o.state = .returnPending ∨
      o.state = .occupied ∨ o.state = .hold ∨ o.state = .quarantine)) ∨ (o.state = .awaited ∧
      o.expected = some (tagAt f.payload 2))))))) ∧
    (∃ (s : State) (f : Frame) (c : Consignment), Accepted kindEntry f s ∧ FromConsole f s ∧
      byteAt f.payload 12 ≠ 0 ∧ findRecord (wordAt f.payload 0) s = some c ∧ c.state = .opening ∧
      RecordNumbersDistinct s ∧ OffersSettled s ∧ s.role = .bay ∧ c.entries = [] ∧
      ((byteAt f.payload 10).toNat ≠ ownNumber s ∨ (byteAt f.payload 11).toNat < 1 ∨
      slotCount s < (byteAt f.payload 11).toNat ∨ (tagAt f.payload 2 ≠ 0 ∧
      ((findCustody (tagAt f.payload 2) s).isSome = true ∨ ∃ x ∈ s.consignments, x.number ≠ wordAt f.payload 0 ∧
      ∃ e ∈ x.entries, e.tag = some (tagAt f.payload 2) ∧ (e.state = .waiting ∨ e.state = .active))) ∨
      (c.direction = .outbound ∧ ∀ sl ∈ findSlot (byteAt f.payload 11).toNat s, sl.state ≠ .occupied ∨
      (sl.tag ≠ none ∧ (tagAt f.payload 2 = 0 ∨ sl.tag ≠ some (tagAt f.payload 2)))) ∨ (c.direction = .inbound ∧
      ∀ sl ∈ findSlot (byteAt f.payload 11).toNat s, (sl.state ≠ .empty ∧ (sl.state ≠ .out ∨ tagAt f.payload 2 = 0 ∨
      sl.tag ≠ some (tagAt f.payload 2))) ∨ (tagAt f.payload 2 ≠ 0 ∧ ∃ o ∈ s.scanner.slots, o.number ≠ sl.number ∧
      ((o.tag = some (tagAt f.payload 2) ∧ (o.state = .pullPending ∨ o.state = .pulled ∨ o.state = .returnPending ∨
      o.state = .occupied ∨ o.state = .hold ∨ o.state = .quarantine)) ∨ (o.state = .awaited ∧
      o.expected = some (tagAt f.payload 2))))))) ∧
    (∃ (s : State) (f : Frame) (c : Consignment), Accepted kindEntry f s ∧ FromConsole f s ∧
      byteAt f.payload 12 ≠ 0 ∧ findRecord (wordAt f.payload 0) s = some c ∧ c.state = .opening ∧
      RecordNumbersDistinct s ∧ OffersSettled s ∧ s.role = .bay ∧ c.entries = [] ∧
      ((byteAt f.payload 10).toNat ≠ ownNumber s ∨ (byteAt f.payload 11).toNat < 1 ∨
      slotCount s < (byteAt f.payload 11).toNat ∨ (tagAt f.payload 2 ≠ 0 ∧
      ((findCustody (tagAt f.payload 2) s).isSome = true ∨ ∃ x ∈ s.consignments, x.number ≠ wordAt f.payload 0 ∧
      ∃ e ∈ x.entries, e.tag = some (tagAt f.payload 2) ∧ (e.state = .waiting ∨ e.state = .active))) ∨
      (c.direction = .outbound ∧ ∀ sl ∈ findSlot (byteAt f.payload 11).toNat s, sl.state ≠ .occupied ∨
      (sl.tag ≠ none ∧ (tagAt f.payload 2 = 0 ∨ sl.tag ≠ some (tagAt f.payload 2)))) ∨ (c.direction = .inbound ∧
      ∀ sl ∈ findSlot (byteAt f.payload 11).toNat s, (sl.state ≠ .empty ∧ (sl.state ≠ .out ∨ tagAt f.payload 2 = 0 ∨
      sl.tag ≠ some (tagAt f.payload 2))) ∨ (tagAt f.payload 2 ≠ 0 ∧ ∃ o ∈ s.scanner.slots, o.number ≠ sl.number ∧
      ((o.tag = some (tagAt f.payload 2) ∧ (o.state = .pullPending ∨ o.state = .pulled ∨ o.state = .returnPending ∨
      o.state = .occupied ∨ o.state = .hold ∨ o.state = .quarantine)) ∨ (o.state = .awaited ∧
      o.expected = some (tagAt f.payload 2))))))) ∧
    (∃ (s : State) (f : Frame) (c : Consignment), Accepted kindEntry f s ∧ FromConsole f s ∧
      byteAt f.payload 12 ≠ 0 ∧ findRecord (wordAt f.payload 0) s = some c ∧ c.state = .opening ∧
      RecordNumbersDistinct s ∧ OffersSettled s ∧ s.role = .bay ∧ c.entries = [] ∧
      ((byteAt f.payload 10).toNat ≠ ownNumber s ∨ (byteAt f.payload 11).toNat < 1 ∨
      slotCount s < (byteAt f.payload 11).toNat ∨ (tagAt f.payload 2 ≠ 0 ∧
      ((findCustody (tagAt f.payload 2) s).isSome = true ∨ ∃ x ∈ s.consignments, x.number ≠ wordAt f.payload 0 ∧
      ∃ e ∈ x.entries, e.tag = some (tagAt f.payload 2) ∧ (e.state = .waiting ∨ e.state = .active))) ∨
      (c.direction = .outbound ∧ ∀ sl ∈ findSlot (byteAt f.payload 11).toNat s, sl.state ≠ .occupied ∨
      (sl.tag ≠ none ∧ (tagAt f.payload 2 = 0 ∨ sl.tag ≠ some (tagAt f.payload 2)))) ∨ (c.direction = .inbound ∧
      ∀ sl ∈ findSlot (byteAt f.payload 11).toNat s, (sl.state ≠ .empty ∧ (sl.state ≠ .out ∨ tagAt f.payload 2 = 0 ∨
      sl.tag ≠ some (tagAt f.payload 2))) ∨ (tagAt f.payload 2 ≠ 0 ∧ ∃ o ∈ s.scanner.slots, o.number ≠ sl.number ∧
      ((o.tag = some (tagAt f.payload 2) ∧ (o.state = .pullPending ∨ o.state = .pulled ∨ o.state = .returnPending ∨
      o.state = .occupied ∨ o.state = .hold ∨ o.state = .quarantine)) ∨ (o.state = .awaited ∧
      o.expected = some (tagAt f.payload 2))))))) ∧
    (∃ (s : State) (f : Frame) (c : Consignment), Accepted kindEntry f s ∧ FromConsole f s ∧
      byteAt f.payload 12 ≠ 0 ∧ findRecord (wordAt f.payload 0) s = some c ∧ c.state = .opening ∧
      RecordNumbersDistinct s ∧ s.role = .dock ∧ c.direction = .inbound ∧ c.entries = [] ∧
      1 ≤ (byteAt f.payload 10).toNat ∧ (byteAt f.payload 10).toNat ≤ 30 ∧
      (byteAt f.payload 10).toNat ≠ ownNumber s ∧ (byteAt f.payload 10).toNat ≠ s.cfg.console ∧
      1 ≤ (byteAt f.payload 11).toNat ∧ (byteAt f.payload 11).toNat ≤ 128 ∧ (tagAt f.payload 2 = 0 ∨
      findCustody (tagAt f.payload 2) s = none) ∧ (tagAt f.payload 2 = 0 ∨ ∀ x ∈ s.consignments, ∀ e ∈ x.entries,
      e.tag ≠ some (tagAt f.payload 2))) ∧
    (∃ (s : State) (f : Frame) (c : Consignment), Accepted kindEntry f s ∧ FromConsole f s ∧
      byteAt f.payload 12 ≠ 0 ∧ findRecord (wordAt f.payload 0) s = some c ∧ c.state = .opening ∧
      RecordNumbersDistinct s ∧ s.role = .dock ∧ c.direction = .inbound ∧ c.entries = [] ∧
      1 ≤ (byteAt f.payload 10).toNat ∧ (byteAt f.payload 10).toNat ≤ 30 ∧
      (byteAt f.payload 10).toNat ≠ ownNumber s ∧ (byteAt f.payload 10).toNat ≠ s.cfg.console ∧
      1 ≤ (byteAt f.payload 11).toNat ∧ (byteAt f.payload 11).toNat ≤ 128 ∧ (tagAt f.payload 2 = 0 ∨
      findCustody (tagAt f.payload 2) s = none) ∧ (tagAt f.payload 2 = 0 ∨ ∀ x ∈ s.consignments, ∀ e ∈ x.entries,
      e.tag ≠ some (tagAt f.payload 2))) ∧
    (∃ (s : State) (f : Frame) (c : Consignment), Accepted kindEntry f s ∧ FromConsole f s ∧
      (byteAt f.payload 12 ≠ 0 ∨ byteAt f.payload 23 ≠ 0 ∨ byteAt f.payload 34 ≠ 0) ∧
      findRecord (wordAt f.payload 0) s = some c ∧ c.state = .opening ∧ RecordNumbersDistinct s ∧
      c.entries.length ≤ 16) ∧
    (∃ (s : State) (f : Frame) (c : Consignment), Accepted kindEntry f s ∧ FromConsole f s ∧
      (byteAt f.payload 12 ≠ 0 ∨ byteAt f.payload 23 ≠ 0 ∨ byteAt f.payload 34 ≠ 0) ∧
      findRecord (wordAt f.payload 0) s = some c ∧ c.state = .opening ∧ RecordNumbersDistinct s ∧
      c.entries.length ≤ 16) ∧
    (∃ (s : State) (f : Frame) (c : Consignment), Accepted kindEntry f s ∧ FromConsole f s ∧
      (byteAt f.payload 12 ≠ 0 ∨ byteAt f.payload 23 ≠ 0 ∨ byteAt f.payload 34 ≠ 0) ∧
      findRecord (wordAt f.payload 0) s = some c ∧ c.state = .opening ∧ RecordNumbersDistinct s ∧
      c.entries.length ≤ 16) :=
  by
  refine ⟨⟨recording [staged] bay, frame 4 30 (entryBytes 9 2 1 1), ?_⟩,
   ⟨recording [record 9 .outbound .opening [item 6 2 3 .waiting]] (withSlots [slot 1 .occupied, slot 3 .hold] bay),
     frame 4 30 (entryBytes 9 2 1 0 ++ tagBytes 5 ++ [2, 3, 1] ++ tagBytes 7 ++ [2, 1, 1]),
     record 9 .outbound .opening [item 6 2 3 .waiting], _, ?_, ?_, ?_, ?_, ?_, ?_, rfl, ?_⟩,
   ⟨recording [record 9 .inbound .opening []] dock,
     frame 4 30 (entryBytes 9 1 1 0 ++ tagBytes 5 ++ [1, 128, 1]), record 9 .inbound .opening [], _, ?_, ?_, ?_, ?_, ?_,
     ?_, rfl, ?_⟩,
   ⟨recording [record 9 .outbound .opening []] dock, frame 4 30 (entryBytes 9 20 0 1), record 9 .outbound .opening [], _,
     ?_, ?_, ?_, ?_, ?_, ?_, ?_, rfl, ?_⟩,
   ⟨recording [record 9 .inbound .opening []] dock, frame 4 30 (entryBytes 9 1 129 1), record 9 .inbound .opening [], _,
     ?_, ?_, ?_, ?_, ?_, ?_, ?_, rfl, ?_⟩,
   ⟨owning [entry 5 .loaded] (recording [record 9 .outbound .opening []] dock), frame 4 30 (entryBytes 9 1 0 1),
     record 9 .outbound .opening [], _, ?_, ?_, ?_, ?_, ?_, ?_, ?_, rfl, ?_⟩,
   ⟨recording [record 9 .outbound .opening []] (withSlots [slot 16 .hold] bay),
     frame 4 30 (entryBytes 9 2 16 0 ++ tagBytes 6 ++ [2, 17, 1]), record 9 .outbound .opening [], _,
     ?_, ?_, ?_, ?_, ?_, ?_, ?_, rfl, ?_⟩,
   ⟨recording [record 9 .outbound .opening []] bay, frame 4 30 (entryBytes 9 2 1 0),
    record 9 .outbound .opening [], ?_⟩,
   ⟨recording [record 9 .outbound .opening []] dock, frame 4 30 (entryBytes 9 1 0 1), record 9 .outbound .opening [],
     ?_⟩,
   ⟨recording [record 9 .outbound .opening []] dock, frame 4 30 (entryBytes 9 1 0 1 ++ tagBytes 6 ++ [1, 0, 1]),
     record 9 .outbound .opening [], ?_⟩,
   ⟨recording [record 9 .outbound .opening []] (withSlots [slot 16 .occupied] bay), frame 4 30 (entryBytes 9 2 16 1),
     record 9 .outbound .opening [], slot 16 .occupied, ?_⟩,
   ⟨recording [record 9 .outbound .opening []] (withSlots [slot 16 .occupied] bay), frame 4 30 (entryBytes 9 3 16 1),
     record 9 .outbound .opening [], ?_⟩,
   ⟨recording [record 9 .outbound .opening []] bay, frame 4 30 (entryBytes 9 2 1 0 ++ tagBytes 6 ++ [2, 2, 0]),
     record 9 .outbound .opening [], ?_⟩,
   ⟨recording [{ record 9 .outbound .opening [] with entries := List.replicate 15 ({ item 9 2 2 .waiting with last := false }) }] bay, frame 4 30 (entryBytes 9 2 1 0 ++ tagBytes 6 ++ [2, 2, 0]), { record 9 .outbound .opening [] with entries := List.replicate 15 ({ item 9 2 2 .waiting with last := false }) }, ?_⟩,
   ⟨recording [record 9 .outbound .opening []] bay, frame 4 30 (entryBytes 9 2 1 0 ++ tagBytes 6 ++ [2, 2,
     0] ++ tagBytes 0 ++ [2, 3, 0]), record 9 .outbound .opening [], ?_⟩,
   ⟨recording [{ record 9 .outbound .opening [] with entries := List.replicate 16 ({ item 9 2 2 .waiting with last := false }) }] bay, frame 4 30 (entryBytes 9 2 1 0 ++ tagBytes 6 ++ [2, 2, 0] ++ tagBytes 0 ++ [2, 3, 0]), { record 9 .outbound .opening [] with entries := List.replicate 16 ({ item 9 2 2 .waiting with last := false }) }, ?_⟩,
   ⟨recording [record 9 .inbound .opening []] (withSlots [slot 16 .empty] bay), frame 4 30 (entryBytes 9 2 16 1),
     record 9 .inbound .opening [], slot 16 .empty, ?_⟩,
   ⟨recording [record 9 .inbound .opening []] (withSlots [{ slot 1 .out with tag := some 5 }] bay),
     frame 4 30 (entryBytes 9 2 1 1), record 9 .inbound .opening [], { slot 1 .out with tag := some 5 }, ?_⟩,
   ⟨recording [record 9 .outbound .opening []] bay, frame 4 30 (entryBytes 9 3 16 1), record 9 .outbound .opening [],
     ?_⟩,
   ⟨recording [record 9 .outbound .opening []] bay, frame 4 30 (entryBytes 9 2 17 1), record 9 .outbound .opening [],
     ?_⟩,
   ⟨owning [entry 5 .loaded] (recording [record 9 .outbound .opening []] (withSlots [slot 16 .occupied] bay)),
     frame 4 30 (entryBytes 9 2 16 1), record 9 .outbound .opening [], ?_⟩,
   ⟨recording [record 9 .outbound .opening []] (withSlots [slot 16 .hold] bay), frame 4 30 (entryBytes 9 2 16 1),
     record 9 .outbound .opening [], ?_⟩,
   ⟨recording [record 9 .inbound .opening []] (withSlots [slot 16 .occupied] bay), frame 4 30 (entryBytes 9 2 16 1),
     record 9 .inbound .opening [], ?_⟩,
   ⟨recording [record 9 .inbound .opening []] dock, frame 4 30 (entryBytes 9 1 128 1), record 9 .inbound .opening [],
     ?_⟩,
   ⟨recording [record 9 .inbound .opening []] dock, frame 4 30 (entryBytes 9 29 1 1), record 9 .inbound .opening [],
     ?_⟩,
   ⟨recording [record 9 .inbound .opening []] dock, frame 4 30 (entryBytes 9 1 128 1), record 9 .inbound .opening [],
     ?_⟩,
   ⟨recording [{ record 9 .outbound .opening [] with entries := List.replicate 16 ({ item 9 2 2 .waiting with last := false }) }] bay, frame 4 30 (entryBytes 9 2 1 1), { record 9 .outbound .opening [] with entries := List.replicate 16 ({ item 9 2 2 .waiting with last := false }) }, ?_⟩,
   ⟨recording [record 9 .outbound .opening []] bay, frame 4 30 (entryBytes 9 2 1 0 ++ tagBytes 6 ++ [2, 2,
     0] ++ tagBytes 7 ++ [2, 3, 1]), record 9 .outbound .opening [], ?_⟩⟩ <;>
  decide +kernel

theorem test_witness_RecordsCloseWithTheirSlotsAndCustody :
    (∃ (s : State) (f : Frame) (c : Consignment), Accepted kindCancel f s ∧ FromConsole f s ∧
      findRecord (wordAt f.payload 0) s = some c ∧ c.state ≠ .opening) ∧
    (∃ (s : State) (f : Frame) (c : Consignment), Accepted kindCancel f s ∧ FromConsole f s ∧
      findRecord (wordAt f.payload 0) s = some c ∧ c.state ≠ .opening) ∧
    (∃ (s : State) (n : Nat) (c : Consignment), s.phase = .running ∧ findRecord n s = some c ∧
      c.deadlineTimer.isSome = true) ∧
    (∃ (s : State) (n : Nat) (c : Consignment), s.phase = .running ∧ findRecord n s = some c ∧
      c.deadlineTimer.isSome = true) ∧
    (∃ (s : State) (f : Frame), Accepted kindCancel f s ∧ FromConsole f s ∧
      findRecord (wordAt f.payload 0) s = none) ∧
    (∃ (s : State) (n : Nat), s.phase = .running ∧ (∀ c ∈ findRecord n s, c.deadlineTimer = none)) ∧
    (∃ (s : State) (n : Nat), s.phase = .running ∧ (∀ c ∈ findRecord n s, c.deadlineTimer = none)) ∧
    (∃ (s : State) (n : Nat) (c : Consignment), s.phase = .running ∧ findRecord n s = some c ∧
      c.openingTimer.isSome = true) ∧
    (∃ (s : State) (f : Frame) (c : Consignment), Accepted kindCancel f s ∧ FromConsole f s ∧
      findRecord (wordAt f.payload 0) s = some c ∧ c.state = .opening) ∧
    (∃ (s : State) (n : Nat), s.phase = .running ∧ (∀ c ∈ findRecord n s, c.openingTimer = none)) ∧
    (∃ (s : State) (n : Nat), s.phase = .running ∧ (∀ c ∈ findRecord n s, c.openingTimer = none)) :=
  by
  refine ⟨⟨recording [record 9 .outbound .active []] bay, frame 5 30 [0, 9], record 9 .outbound .active [], ?_⟩,
   ⟨recording [record 9 .outbound .active []] (withSlots
     [{ slot 1 .pulled with consignment := some 9, window := some 1 },
     { slot 2 .awaited with consignment := some 9 }, { slot 3 .pullPending with consignment := some 9 },
     { slot 4 .out with consignment := some 8 }] (owning [{ entry 5 .released with consignment := some 9 },
     { entry 6 .loaded with consignment := some 9 }] bay)), frame 5 30 [0, 9], record 9 .outbound .active [], ?_⟩,
   ⟨recording [due9] bay, 9, due9, ?_⟩,
   ⟨recording [due9] (withSlots [{ slot 1 .pulled with consignment := some 9, window := some 1 },
     { slot 2 .awaited with consignment := some 9 }, { slot 3 .pullPending with consignment := some 9 },
     { slot 4 .out with consignment := some 8 }] (owning [{ entry 5 .released with consignment := some 9 },
     { entry 6 .loaded with consignment := some 9 }] bay)), 9, due9, ?_⟩,
   ⟨bay, frame 5 30 [0, 9], ?_⟩,
   ⟨bay, 9, ?_⟩,
   ⟨recording [record 9 .outbound .active []] bay, 9, ?_⟩,
   ⟨recording [opening9] bay, 9, opening9, ?_⟩,
   ⟨recording [record 9 .outbound .opening []] bay, frame 5 30 [0, 9], record 9 .outbound .opening [], ?_⟩,
   ⟨bay, 9, ?_⟩,
   ⟨recording [record 9 .outbound .opening []] bay, 9, ?_⟩⟩ <;>
  decide +kernel

theorem test_witness_CourierWindowExpiryEndsTheSession :
    (∃ (s : State) (n : Nat) (c : Consignment), s.phase = .running ∧ findRecord n s = some c ∧
      c.courierTimer.isSome = true ∧ c.state = .courierPresent ∧ RecordNumbersDistinct s) ∧
    (∃ (s : State) (n : Nat) (c : Consignment), s.phase = .running ∧ findRecord n s = some c ∧
      c.courierTimer.isSome = true ∧ c.state = .receiving ∧ RecordNumbersDistinct s ∧ (∃ e ∈ c.entries,
      e.state = .active)) ∧
    (∃ (s : State) (n : Nat), s.phase = .running ∧ (∀ c ∈ findRecord n s, c.courierTimer = none)) ∧
    (∃ (s : State) (n : Nat) (c : Consignment), s.phase = .running ∧ s.role = .dock ∧ findRecord n s = some c ∧
      c.courierTimer.isSome = true ∧ c.state = .receiving ∧ RecordNumbersDistinct s ∧ (∀ e ∈ c.entries,
      e.state ≠ .active)) ∧
    (∃ (s : State) (chars : List Byte) (rec : Bool) (id : Tag) (v : Option CaseClimate) (c : Consignment),
      s.phase = .running ∧ s.reader.waiting = false ∧ s.reader.transaction = some (.read rec) ∧
      (s.reader.bounce = none ∨ s.reader.lastId ≠ some id) ∧ s.role = .dock ∧
      readResponseOf chars = .good (.ok .badge id v) ∧ s.consignments.find? (badgeReaches id) = some c ∧
      c.state = .receiving ∧ RecordNumbersDistinct s ∧ (∃ e ∈ c.entries, e.state = .active)) ∧
    (∃ (s : State) (chars : List Byte) (rec : Bool) (id : Tag) (v : Option CaseClimate) (c : Consignment),
      s.phase = .running ∧ s.reader.waiting = false ∧ s.reader.transaction = some (.read rec) ∧
      (s.reader.bounce = none ∨ s.reader.lastId ≠ some id) ∧ s.role = .dock ∧
      readResponseOf chars = .good (.ok .badge id v) ∧ s.consignments.find? (badgeReaches id) = some c ∧
      c.state = .receiving ∧ RecordNumbersDistinct s ∧ (∀ e ∈ c.entries, e.state ≠ .active)) :=
  by
  refine ⟨⟨recording [{ staged with state := .courierPresent, courierTimer := some 1 }] dock, 9,
    { staged with state := .courierPresent, courierTimer := some 1 }, ?_⟩,
   ⟨recording [{ receiving9 with courierTimer := some 1 }] dock, 9, { receiving9 with courierTimer := some 1 }, ?_⟩,
   ⟨recording [receiving9] dock, 9, ?_⟩,
   ⟨recording [{ record 9 .inbound .receiving [item 5 2 1 .waiting] with courierTimer := some 1 }] dock, 9,
     { record 9 .inbound .receiving [item 5 2 1 .waiting] with courierTimer := some 1 }, ?_⟩,
   ⟨recording [receiving9] (reading dock), response 2 8, false, 8, none, receiving9, ?_⟩,
   ⟨recording [record 9 .inbound .receiving [item 5 2 1 .waiting]] (reading dock), response 2 8, false, 8, none,
     record 9 .inbound .receiving [item 5 2 1 .waiting], ?_⟩⟩ <;>
  decide +kernel

theorem test_witness_OfferIsJudgedByItsTests :
    (∃ (s : State) (f : Frame), Accepted kindOffer f s) ∧
    (∃ (s : State) (f : Frame), Accepted kindOffer f s) :=
  by
  refine ⟨⟨bay, frame 6 20 (offerBytes 9 5), ?_⟩,
   ⟨inFire .held none bay, frame 6 20 (offerBytes 9 5), ?_⟩⟩ <;>
  decide +kernel

theorem test_witness_GiverEntriesFollowTakenRefuseAndTheirTimer :
    (∃ (s : State) (f : Frame) (e : CustodyEntry), Accepted kindTaken f s ∧ CustodyTagsDistinct s ∧
      RecordNumbersDistinct s ∧ tagAt f.payload 2 ≠ 0 ∧ findCustody (tagAt f.payload 2) s = some e ∧
      e.peer = some f.src.toNat ∧ (e.state = .offered ∨ e.state = .suspended)) ∧
    (∃ (s : State) (f : Frame) (e : CustodyEntry), Accepted kindTaken f s ∧ CustodyTagsDistinct s ∧
      RecordNumbersDistinct s ∧ tagAt f.payload 2 ≠ 0 ∧ findCustody (tagAt f.payload 2) s = some e ∧
      e.peer = some f.src.toNat ∧ (e.state = .offered ∨ e.state = .suspended)) ∧
    (∃ (s : State) (f : Frame) (e : CustodyEntry), Accepted kindTaken f s ∧ CustodyTagsDistinct s ∧
      RecordNumbersDistinct s ∧ tagAt f.payload 2 ≠ 0 ∧ findCustody (tagAt f.payload 2) s = some e ∧
      e.peer = some f.src.toNat ∧ (e.state = .offered ∨ e.state = .suspended)) ∧
    (∃ (s : State) (f : Frame) (e : CustodyEntry), Accepted kindTaken f s ∧ tagAt f.payload 2 ≠ 0 ∧
      findCustody (tagAt f.payload 2) s = some e ∧ e.peer = some f.src.toNat ∧ (e.state = .released ∨
      e.state = .adrift)) ∧
    (∃ (s : State) (f : Frame) (e : CustodyEntry), Accepted kindTaken f s ∧ tagAt f.payload 2 ≠ 0 ∧
      findCustody (tagAt f.payload 2) s = some e ∧ e.peer = some f.src.toNat ∧ (e.state = .released ∨
      e.state = .adrift)) ∧
    (∃ (s : State) (f : Frame), Accepted kindTaken f s ∧ (tagAt f.payload 2 = 0 ∨
      ∀ e ∈ findCustody (tagAt f.payload 2) s, e.peer ≠ some f.src.toNat ∨ (e.state ≠ .offered ∧
      e.state ≠ .suspended ∧ e.state ≠ .released ∧ e.state ≠ .adrift))) ∧
    (∃ (s : State) (f : Frame), Accepted kindTaken f s ∧ (tagAt f.payload 2 = 0 ∨
      ∀ e ∈ findCustody (tagAt f.payload 2) s, e.peer ≠ some f.src.toNat ∨ (e.state ≠ .offered ∧
      e.state ≠ .suspended ∧ e.state ≠ .released ∧ e.state ≠ .adrift))) ∧
    (∃ (s : State) (f : Frame) (e : CustodyEntry), Accepted kindRefuse f s ∧ OffersSettled s ∧
      tagAt f.payload 2 ≠ 0 ∧ findCustody (tagAt f.payload 2) s = some e ∧ e.peer = some f.src.toNat ∧
      (e.state = .offered ∨ e.state = .suspended) ∧ (byteAt f.payload 10 = 1 ∨ byteAt f.payload 10 = 2)) ∧
    (∃ (s : State) (f : Frame) (e : CustodyEntry), Accepted kindRefuse f s ∧ CustodyTagsDistinct s ∧
      RecordNumbersDistinct s ∧ tagAt f.payload 2 ≠ 0 ∧ findCustody (tagAt f.payload 2) s = some e ∧
      e.peer = some f.src.toNat ∧ (e.state = .offered ∨ e.state = .suspended) ∧ (byteAt f.payload 10 = 3 ∨
      byteAt f.payload 10 = 4 ∨ byteAt f.payload 10 = 5)) ∧
    (∃ (s : State) (f : Frame) (e : CustodyEntry), Accepted kindRefuse f s ∧ CustodyTagsDistinct s ∧
      RecordNumbersDistinct s ∧ tagAt f.payload 2 ≠ 0 ∧ findCustody (tagAt f.payload 2) s = some e ∧
      e.peer = some f.src.toNat ∧ (e.state = .offered ∨ e.state = .suspended) ∧ (byteAt f.payload 10 = 3 ∨
      byteAt f.payload 10 = 4 ∨ byteAt f.payload 10 = 5)) ∧
    (∃ (s : State) (f : Frame), Accepted kindRefuse f s ∧ ((byteAt f.payload 10).toNat < 1 ∨
      5 < (byteAt f.payload 10).toNat ∨ tagAt f.payload 2 = 0 ∨ ∀ e ∈ findCustody (tagAt f.payload 2) s,
      e.peer ≠ some f.src.toNat ∨ (e.state ≠ .offered ∧ e.state ≠ .suspended))) ∧
    (∃ (s : State) (f : Frame), Accepted kindRefuse f s ∧ ((byteAt f.payload 10).toNat < 1 ∨
      5 < (byteAt f.payload 10).toNat ∨ tagAt f.payload 2 = 0 ∨ ∀ e ∈ findCustody (tagAt f.payload 2) s,
      e.peer ≠ some f.src.toNat ∨ (e.state ≠ .offered ∧ e.state ≠ .suspended))) ∧
    (∃ (s : State) (tag : Tag) (e : CustodyEntry), s.phase = .running ∧ CustodyTagsDistinct s ∧
      RecordNumbersDistinct s ∧ findCustody tag s = some e ∧ e.state = .offered ∧ e.timer.isSome = true) ∧
    (∃ (s : State) (tag : Tag), s.phase = .running ∧ (∀ e ∈ findCustody tag s, e.state ≠ .offered ∨ e.timer = none)) ∧
    (∃ (s : State) (tag : Tag), s.phase = .running ∧ (∀ e ∈ findCustody tag s, e.state ≠ .offered ∨
      e.timer = none)) :=
  by
  refine ⟨⟨owning [entry 5 .offered] bay, frame 7 20 (handoverBytes 9 5), entry 5 .offered, ?_⟩,
   ⟨owning [entry 5 .suspended] bay, frame 7 20 (handoverBytes 9 5), entry 5 .suspended, ?_⟩,
   ⟨recording [record 9 .outbound .active [item 5 2 1 .active]] (withSlots
     [{ slot 1 .out with consignment := some 9 },
     { slot 2 .pulled with consignment := some 9 }] (owning [{ entry 5 .offered with consignment := some 9 }] bay)),
     frame 7 20 (handoverBytes 9 5), { entry 5 .offered with consignment := some 9 }, ?_⟩,
   ⟨owning [entry 5 .released] bay, frame 7 20 (handoverBytes 9 5), entry 5 .released, ?_⟩,
   ⟨owning [entry 5 .adrift] bay, frame 7 20 (handoverBytes 9 5), entry 5 .adrift, ?_⟩,
   ⟨bay, frame 7 20 (handoverBytes 9 5), ?_⟩,
   ⟨owning [entry 5 .held] bay, frame 7 20 (handoverBytes 9 5), ?_⟩,
   ⟨owning [entry 5 .offered] bay, frame 11 20 (handoverBytes 9 5 ++ [2]), entry 5 .offered, ?_⟩,
   ⟨owning [entry 5 .suspended] bay, frame 11 20 (handoverBytes 9 5 ++ [3]), entry 5 .suspended, ?_⟩,
   ⟨owning [entry 5 .offered] bay, frame 11 20 (handoverBytes 9 5 ++ [5]), entry 5 .offered, ?_⟩,
   ⟨owning [entry 5 .offered] bay, frame 11 20 (handoverBytes 9 5 ++ [6]), ?_⟩,
   ⟨bay, frame 11 20 (handoverBytes 9 5 ++ [1]), ?_⟩,
   ⟨owning [{ entry 5 .offered with timer := some 1 }] bay, 5, { entry 5 .offered with timer := some 1 }, ?_⟩,
   ⟨bay, 5, ?_⟩,
   ⟨owning [entry 5 .offered] bay, 5, ?_⟩⟩ <;>
  decide +kernel

theorem test_witness_TakerEntriesFollowClearedLateWithdrawAndTimers :
    (∃ (s : State) (f : Frame) (e : CustodyEntry), Accepted kindCleared f s ∧ s.role = .dock ∧ OffersSettled s ∧
      RecordNumbersDistinct s ∧ tagAt f.payload 2 ≠ 0 ∧ findCustody (tagAt f.payload 2) s = some e ∧
      e.peer = some f.src.toNat ∧ e.state = .taking) ∧
    (∃ (s : State) (f : Frame) (e : CustodyEntry) (n : Nat) (sl : Slot), Accepted kindCleared f s ∧ s.role = .bay ∧
      OffersSettled s ∧ tagAt f.payload 2 ≠ 0 ∧ findCustody (tagAt f.payload 2) s = some e ∧
      e.peer = some f.src.toNat ∧ e.state = .taking ∧ e.slot = some n ∧ findSlot n s = some sl ∧
      sl.state = .awaited ∧ sl.expected = some (tagAt f.payload 2)) ∧
    (∃ (s : State) (f : Frame) (e : CustodyEntry) (n : Nat) (sl : Slot), Accepted kindCleared f s ∧ s.role = .bay ∧
      OffersSettled s ∧ tagAt f.payload 2 ≠ 0 ∧ findCustody (tagAt f.payload 2) s = some e ∧
      e.peer = some f.src.toNat ∧ e.state = .taking ∧ e.slot = some n ∧ findSlot n s = some sl ∧
      sl.state = .awaited ∧ sl.expected = some (tagAt f.payload 2)) ∧
    (∃ (s : State) (f : Frame) (e : CustodyEntry), Accepted kindCleared f s ∧ s.role = .bay ∧ CustodyTagsDistinct s ∧
      RecordNumbersDistinct s ∧ tagAt f.payload 2 ≠ 0 ∧ findCustody (tagAt f.payload 2) s = some e ∧
      e.peer = some f.src.toNat ∧ e.state = .taking ∧ (∀ sl ∈ findSlot (e.slot.getD 0) s, sl.state ≠ .awaited ∨
      sl.expected ≠ some (tagAt f.payload 2))) ∧
    (∃ (s : State) (f : Frame) (e : CustodyEntry), Accepted kindLate f s ∧ CustodyTagsDistinct s ∧
      RecordNumbersDistinct s ∧ tagAt f.payload 2 ≠ 0 ∧ findCustody (tagAt f.payload 2) s = some e ∧
      e.peer = some f.src.toNat ∧ e.state = .taking) ∧
    (∃ (s : State) (f : Frame) (e : CustodyEntry), Accepted kindWithdraw f s ∧ CustodyTagsDistinct s ∧
      RecordNumbersDistinct s ∧ tagAt f.payload 2 ≠ 0 ∧ findCustody (tagAt f.payload 2) s = some e ∧
      e.peer = some f.src.toNat ∧ e.state = .taking) ∧
    (∃ (s : State) (f : Frame) (e : CustodyEntry), Accepted kindWithdraw f s ∧ tagAt f.payload 2 ≠ 0 ∧
      findCustody (tagAt f.payload 2) s = some e ∧ e.peer = some f.src.toNat ∧ e.state = .expected) ∧
    (∃ (s : State) (f : Frame), Accepted kindCleared f s ∧ (tagAt f.payload 2 = 0 ∨
      ∀ e ∈ findCustody (tagAt f.payload 2) s, e.peer ≠ some f.src.toNat ∨ e.state ≠ .taking)) ∧
    (∃ (s : State) (f : Frame), Accepted kindLate f s ∧ (tagAt f.payload 2 = 0 ∨
      ∀ e ∈ findCustody (tagAt f.payload 2) s, e.peer ≠ some f.src.toNat ∨ e.state ≠ .taking)) ∧
    (∃ (s : State) (f : Frame), Accepted kindWithdraw f s ∧ (tagAt f.payload 2 = 0 ∨
      ∀ e ∈ findCustody (tagAt f.payload 2) s, e.peer ≠ some f.src.toNat ∨ (e.state ≠ .taking ∧
      e.state ≠ .expected))) ∧
    (∃ (s : State) (tag : Tag) (e : CustodyEntry), s.phase = .running ∧ findCustody tag s = some e ∧
      e.state = .expected ∧ e.timer.isSome = true) ∧
    (∃ (s : State) (tag : Tag), s.phase = .running ∧ (∀ e ∈ findCustody tag s, e.state ≠ .expected ∨
      e.timer = none)) ∧
    (∃ (s : State) (tag : Tag) (e : CustodyEntry), s.phase = .running ∧ findCustody tag s = some e ∧
      e.state = .taking ∧ e.timer.isSome = true ∧ e.attempts < 3) ∧
    (∃ (s : State) (tag : Tag) (e : CustodyEntry), s.phase = .running ∧ CustodyTagsDistinct s ∧
      RecordNumbersDistinct s ∧ findCustody tag s = some e ∧ e.state = .taking ∧ e.timer.isSome = true ∧
      3 ≤ e.attempts) ∧
    (∃ (s : State) (tag : Tag), s.phase = .running ∧ (∀ e ∈ findCustody tag s, e.state ≠ .taking ∨ e.timer = none)) :=
  by
  refine ⟨⟨owning [{ entry 5 .taking with peer := some 2 }] dock, frame 8 2 (handoverBytes 9 5),
    { entry 5 .taking with peer := some 2 }, ?_⟩,
   ⟨owning [{ entry 5 .taking with slot := some 1 }] (withSlots [{ slot 1 .awaited with expected := some 5 }] bay),
     frame 8 20 (handoverBytes 9 5), { entry 5 .taking with slot := some 1 }, 1,
     { slot 1 .awaited with expected := some 5 }, ?_⟩,
   ⟨owning [{ entry 5 .taking with slot := some 1 }] (withSlots [{ slot 1 .awaited with expected := some 5 },
     { slot 2 .out with tag := some 5 }] bay), frame 8 20 (handoverBytes 9 5),
     { entry 5 .taking with slot := some 1 }, 1, { slot 1 .awaited with expected := some 5 }, ?_⟩,
   ⟨owning [entry 5 .taking] bay, frame 8 20 (handoverBytes 9 5), entry 5 .taking, ?_⟩,
   ⟨owning [entry 5 .taking] bay, frame 10 20 (handoverBytes 9 5), entry 5 .taking, ?_⟩,
   ⟨owning [entry 5 .taking] bay, frame 9 20 (handoverBytes 9 5), entry 5 .taking, ?_⟩,
   ⟨owning [entry 5 .expected] bay, frame 9 20 (handoverBytes 9 5), entry 5 .expected, ?_⟩,
   ⟨bay, frame 8 20 (handoverBytes 9 5), ?_⟩,
   ⟨bay, frame 10 20 (handoverBytes 9 5), ?_⟩,
   ⟨owning [entry 5 .held] bay, frame 9 20 (handoverBytes 9 5), ?_⟩,
   ⟨owning [{ entry 5 .expected with timer := some 1 }] bay, 5, { entry 5 .expected with timer := some 1 }, ?_⟩,
   ⟨bay, 5, ?_⟩,
   ⟨owning [{ entry 5 .taking with timer := some 1, attempts := 2 }] bay, 5,
     { entry 5 .taking with timer := some 1, attempts := 2 }, ?_⟩,
   ⟨owning [{ entry 5 .taking with timer := some 1, attempts := 3 }] bay, 5,
     { entry 5 .taking with timer := some 1, attempts := 3 }, ?_⟩,
   ⟨bay, 5, ?_⟩⟩ <;>
  decide +kernel

theorem test_witness_ResolveQueriesAndInvalidCommandsFromTheConsole :
    (∃ (s : State) (f : Frame) (e : CustodyEntry), AcceptedCommand 8 f s ∧ byteAt f.payload 8 = 1 ∧
      tagAt f.payload 0 ≠ 0 ∧ findCustody (tagAt f.payload 0) s = some e ∧ (e.state = .adrift ∨ e.state = .disputed ∨
      (e.state = .held ∧ e.consignment = none)) ∧ (s.role = .bay → ∀ o ∈ s.scanner.slots, o.state ≠ .awaited ∨
      o.expected ≠ some (tagAt f.payload 0))) ∧
    (∃ (s : State) (f : Frame) (e : CustodyEntry) (sl : Slot), AcceptedCommand 8 f s ∧ byteAt f.payload 8 = 1 ∧
      tagAt f.payload 0 ≠ 0 ∧ findCustody (tagAt f.payload 0) s = some e ∧ (e.state = .adrift ∨ e.state = .disputed ∨
      (e.state = .held ∧ e.consignment = none)) ∧ s.role = .bay ∧ (s.scanner.slots.map fun o => o.number).Nodup ∧
      s.scanner.slots.find? (fun o => decide (o.state = .awaited ∧
      o.expected = some (tagAt f.payload 0))) = some sl) ∧
    (∃ (s : State) (f : Frame) (e : CustodyEntry) (sl : Slot), AcceptedCommand 8 f s ∧ byteAt f.payload 8 = 1 ∧
      tagAt f.payload 0 ≠ 0 ∧ findCustody (tagAt f.payload 0) s = some e ∧ (e.state = .adrift ∨ e.state = .disputed ∨
      (e.state = .held ∧ e.consignment = none)) ∧ s.role = .bay ∧ (s.scanner.slots.map fun o => o.number).Nodup ∧
      s.scanner.slots.find? (fun o => decide (o.state = .awaited ∧
      o.expected = some (tagAt f.payload 0))) = some sl) ∧
    (∃ (s : State) (f : Frame) (e : CustodyEntry), AcceptedCommand 8 f s ∧ byteAt f.payload 8 = 2 ∧
      tagAt f.payload 0 ≠ 0 ∧ findCustody (tagAt f.payload 0) s = some e ∧ (e.state = .adrift ∨ e.state = .disputed ∨
      (e.state = .held ∧ e.consignment = none))) ∧
    (∃ (s : State) (f : Frame), AcceptedCommand 8 f s ∧ ((byteAt f.payload 8 ≠ 1 ∧ byteAt f.payload 8 ≠ 2) ∨
      tagAt f.payload 0 = 0 ∨ ∀ e ∈ findCustody (tagAt f.payload 0) s, e.state ≠ .adrift ∧ e.state ≠ .disputed ∧
      (e.state ≠ .held ∨ e.consignment ≠ none))) ∧
    (∃ (s : State) (f : Frame), AcceptedCommand 8 f s ∧ ((byteAt f.payload 8 ≠ 1 ∧ byteAt f.payload 8 ≠ 2) ∨
      tagAt f.payload 0 = 0 ∨ ∀ e ∈ findCustody (tagAt f.payload 0) s, e.state ≠ .adrift ∧ e.state ≠ .disputed ∧
      (e.state ≠ .held ∨ e.consignment ≠ none))) ∧
    (∃ (s : State) (f : Frame), AcceptedCommand 8 f s ∧ ((byteAt f.payload 8 ≠ 1 ∧ byteAt f.payload 8 ≠ 2) ∨
      tagAt f.payload 0 = 0 ∨ ∀ e ∈ findCustody (tagAt f.payload 0) s, e.state ≠ .adrift ∧ e.state ≠ .disputed ∧
      (e.state ≠ .held ∨ e.consignment ≠ none))) ∧
    (∃ (s : State) (f : Frame) (q : Subject), Accepted kindQuery f s ∧ FromConsole f s ∧
      byteAt f.payload 0 = toByte q.code) ∧
    (∃ (s : State) (f : Frame), Accepted kindQuery f s ∧ FromConsole f s ∧ (byteAt f.payload 0 = 0 ∨
      6 < (byteAt f.payload 0).toNat)) ∧
    (∃ (s : State) (f : Frame), Accepted kindQuery f s ∧ FromConsole f s ∧ (byteAt f.payload 0 = 0 ∨
      6 < (byteAt f.payload 0).toNat)) ∧
    (∃ (s : State) (f : Frame), Accepted kindCommand f s ∧ FromConsole f s) ∧
    (∃ (s : State) (f : Frame), Accepted kindConsign f s ∧ ¬ FromConsole f s) ∧
    (∃ (s : State) (f : Frame), Accepted kindEntry f s ∧ ¬ FromConsole f s) ∧
    (∃ (s : State) (f : Frame), Accepted kindCancel f s ∧ ¬ FromConsole f s) ∧
    (∃ (s : State) (f : Frame), Accepted kindQuery f s ∧ ¬ FromConsole f s) ∧
    (∃ (s : State) (f : Frame), Accepted kindCommand f s ∧ ¬ FromConsole f s) ∧
    (∃ (s : State) (f : Frame), Accepted kindCommand (commandFrame 1 f) s ∧ ¬ FromConsole f s) ∧
    (∃ (s : State) (f : Frame), Accepted kindCommand (commandFrame 2 f) s ∧ ¬ FromConsole f s) ∧
    (∃ (s : State) (f : Frame), Accepted kindCommand (commandFrame 3 f) s ∧ ¬ FromConsole f s) ∧
    (∃ (s : State) (f : Frame), Accepted kindCommand (commandFrame 4 f) s ∧ ¬ FromConsole f s) ∧
    (∃ (s : State) (f : Frame), Accepted kindCommand (commandFrame 5 f) s ∧ ¬ FromConsole f s) ∧
    (∃ (s : State) (f : Frame), Accepted kindCommand (commandFrame 6 f) s ∧ ¬ FromConsole f s) ∧
    (∃ (s : State) (f : Frame), Accepted kindCommand (commandFrame 7 f) s ∧ ¬ FromConsole f s) ∧
    (∃ (s : State) (f : Frame), Accepted kindCommand (commandFrame 8 f) s ∧ ¬ FromConsole f s) ∧
    (∃ (s : State) (f : Frame), Accepted kindCommand (commandFrame 9 f) s ∧ ¬ FromConsole f s) :=
  by
  refine ⟨⟨owning [entry 5 .adrift] bay, command 8 (tagBytes 5 ++ [1]), entry 5 .adrift, ?_⟩,
   ⟨owning [entry 5 .disputed] (withSlots [{ slot 1 .awaited with expected := some 5 }] bay),
     command 8 (tagBytes 5 ++ [1]), entry 5 .disputed, { slot 1 .awaited with expected := some 5 }, ?_⟩,
   ⟨owning [entry 5 .disputed] (withSlots [{ slot 1 .awaited with expected := some 5 },
     { slot 2 .occupied with tag := some 5 }] bay), command 8 (tagBytes 5 ++ [1]), entry 5 .disputed,
     { slot 1 .awaited with expected := some 5 }, ?_⟩,
   ⟨owning [entry 5 .held] bay, command 8 (tagBytes 5 ++ [2]), entry 5 .held, ?_⟩,
   ⟨bay, command 8 (tagBytes 5 ++ [1]), ?_⟩,
   ⟨owning [entry 5 .offered] bay, command 8 (tagBytes 5 ++ [2]), ?_⟩,
   ⟨owning [entry 5 .adrift] bay, command 8 (tagBytes 5 ++ [3]), ?_⟩,
   ⟨bay, frame 12 30 [6, 0, 0, 0], .episode, ?_⟩,
   ⟨bay, frame 12 30 [0, 0, 0, 0], ?_⟩,
   ⟨bay, frame 12 30 [7, 0, 0, 0], ?_⟩,
   ⟨bay, frame 15 30 [10], ?_⟩,
   ⟨bay, frame 3 29 (consignBytes 9), ?_⟩,
   ⟨bay, frame 4 29 (entryBytes 9 2 1 1), ?_⟩,
   ⟨bay, frame 5 29 [0, 9], ?_⟩,
   ⟨bay, frame 12 29 [1, 0, 0, 0], ?_⟩,
   ⟨bay, frame 15 29 [10], ?_⟩,
   ⟨bay, commandFrom 29 1 [], ?_⟩,
   ⟨bay, commandFrom 29 2 [], ?_⟩,
   ⟨bay, commandFrom 29 3 [], ?_⟩,
   ⟨bay, commandFrom 29 4 [], ?_⟩,
   ⟨bay, commandFrom 29 5 [], ?_⟩,
   ⟨bay, commandFrom 29 6 [], ?_⟩,
   ⟨bay, commandFrom 29 7 [1], ?_⟩,
   ⟨bay, commandFrom 29 8 (tagBytes 5 ++ [1]), ?_⟩,
   ⟨bay, commandFrom 29 9 [], ?_⟩⟩ <;>
  decide +kernel

theorem test_witness_AcceptedRestartGivesEveryBlockItsRestartValues :
    (∃ (s : State) (f : Frame), AcceptedCommand 9 f s ∧ s.fire.state ≠ .preDischarge ∧ s.fire.state ≠ .held ∧
      s.fire.state ≠ .discharged) ∧
    (∃ (s : State) (f : Frame), AcceptedCommand 9 f s ∧ s.fire.state ≠ .preDischarge ∧ s.fire.state ≠ .held ∧
      s.fire.state ≠ .discharged) :=
  by
  refine ⟨⟨bay, command 9 [], ?_⟩,
   ⟨inFire .confirmed none bay, command 9 [], ?_⟩⟩ <;>
  decide +kernel

theorem test_witness_DiscardedAndDroppedFramesAreCountedOrMarked :
    (∃ (c : Instr) (kind : Byte) (f : Frame) (s : State), frameOf c = some (kind, f) ∧ s.phase = .running ∧
      s.line.tx.isSome = true) ∧
    (∃ (c : Instr) (kind : Byte) (f : Frame) (s : State), frameOf c = some (kind, f) ∧ s.phase = .running ∧
      s.line.tx = none ∧ checkGood kind f = false) ∧
    (∃ (c : Instr) (kind : Byte) (f : Frame) (s : State), frameOf c = some (kind, f) ∧ s.phase = .running ∧
      s.line.tx = none ∧ checkGood kind f = true ∧ f.src.toNat = ownNumber s) ∧
    (∃ (c : Instr) (kind : Byte) (f : Frame) (s : State), frameOf c = some (kind, f) ∧ s.phase = .running ∧
      s.line.tx = none ∧ checkGood kind f = true ∧ lengthAllowed kind f.payload.length = true ∧
      f.src.toNat ≠ ownNumber s ∧ 30 < f.src.toNat) ∧
    (∃ (c : Instr) (kind : Byte) (f : Frame) (s : State), frameOf c = some (kind, f) ∧ s.phase = .running ∧
      s.line.tx = none ∧ checkGood kind f = true ∧ lengthAllowed kind f.payload.length = true ∧
      f.src.toNat ≠ ownNumber s ∧ 1 ≤ f.src.toNat ∧ f.src.toNat ≤ 30 ∧ f.dst.toNat ≠ 0 ∧ f.dst.toNat ≠ ownNumber s) ∧
    (∃ (s : State), s.phase = .running ∧ s.line.tx = none) ∧
    (∃ (s : State) (kind : Byte) (f : Frame), s.phase = .running ∧ s.line.tx = none ∧
      troubleActive .strapInvalid s = false ∧ checkGood kind f = true ∧ f.src.toNat ≠ ownNumber s ∧
      lengthAllowed kind f.payload.length = true ∧ 1 ≤ f.src.toNat ∧ f.src.toNat ≤ 30) ∧
    (∃ (s : State) (kind : Byte) (f : Frame), s.phase = .running ∧ s.line.tx = none ∧
      troubleActive .strapInvalid s = false ∧ checkGood kind f = true ∧ f.src.toNat ≠ ownNumber s ∧
      lengthAllowed kind f.payload.length = true ∧ 1 ≤ f.src.toNat ∧ f.src.toNat ≤ 30) ∧
    (∃ (s : State), s.phase = .running ∧ s.line.conflictTimer.isSome = true) ∧
    (∃ (s : State), s.phase = .running ∧ s.line.conflictTimer = none) ∧
    (∃ (s : State), s.phase = .running ∧ s.line.tx.isSome = true) :=
  by
  refine ⟨⟨.cancel (frame 5 30 [0, 9]), 5, frame 5 30 [0, 9], sending bay, ?_⟩,
   ⟨.cancel ({ frame 5 30 [0, 9] with check := 0 }), 5, { frame 5 30 [0, 9] with check := 0 }, bay, ?_⟩,
   ⟨.cancel (frame 5 2 [0, 9]), 5, frame 5 2 [0, 9], bay, ?_⟩,
   ⟨.cancel (frame 5 31 [0, 9]), 5, frame 5 31 [0, 9], bay, ?_⟩,
   ⟨.cancel ((buildFrame 5 9 30 [0, 9]).frame), 5, (buildFrame 5 9 30 [0, 9]).frame, bay, ?_⟩,
   ⟨bay, ?_⟩,
   ⟨bay, 15, frame 15 30 [10], ?_⟩,
   ⟨bay, 200, frame 200 1 [], ?_⟩,
   ⟨{ bay with line := { bay.line with conflictTimer := some 1 } }, ?_⟩,
   ⟨bay, ?_⟩,
   ⟨sending bay, ?_⟩⟩ <;>
  decide +kernel

theorem test_witness_ReadbackStuckLineAndStatusTimerActAsStated :
    (∃ (s : State) (x : Transmission), s.phase = .running ∧ s.line.tx = some x) ∧
    (∃ (s : State), s.phase = .running ∧ s.line.tx = none) ∧
    (∃ (s : State), s.phase = .running) ∧
    (∃ (s : State), s.phase = .running ∧ troubleActive .lineStuck s = true) ∧
    (∃ (s : State), s.phase = .running ∧ troubleActive .lineStuck s = false) :=
  by
  refine ⟨⟨sending bay, transmission, ?_⟩,
   ⟨bay, ?_⟩,
   ⟨bay, ?_⟩,
   ⟨stuck bay, ?_⟩,
   ⟨bay, ?_⟩⟩ <;>
  decide +kernel

theorem test_witness_TransmitStartTakesTheLowestClassAtItsGap :
    (∃ (s : State), s.phase = .running ∧ s.line.tx = none ∧ troubleActive .lineStuck s = false ∧
      troubleActive .strapInvalid s = false ∧ s.line.alarmQueued = true) ∧
    (∃ (s : State) (g : SentFrame), s.phase = .running ∧ s.line.tx = none ∧ troubleActive .lineStuck s = false ∧
      troubleActive .strapInvalid s = false ∧ s.line.alarmQueued = false ∧ s.line.handoverRetry = some g) ∧
    (∃ (s : State) (r : Reply) (rs : List Reply) (why : RefuseReason), s.phase = .running ∧ s.line.tx = none ∧
      troubleActive .lineStuck s = false ∧ troubleActive .strapInvalid s = false ∧ s.line.alarmQueued = false ∧
      s.line.handoverRetry = none ∧ s.custody.replies = r :: rs ∧ r.kind = .refuse why) ∧
    (∃ (s : State) (r : Reply) (rs : List Reply), s.phase = .running ∧ s.line.tx = none ∧
      troubleActive .lineStuck s = false ∧ troubleActive .strapInvalid s = false ∧ s.line.alarmQueued = false ∧
      s.line.handoverRetry = none ∧ s.custody.replies = r :: rs ∧ r.kind = .late) ∧
    (∃ (s : State) (e : CustodyEntry) (o : OwedFrame), s.phase = .running ∧ s.line.tx = none ∧
      troubleActive .lineStuck s = false ∧ troubleActive .strapInvalid s = false ∧ s.line.alarmQueued = false ∧
      s.line.handoverRetry = none ∧ s.custody.replies = [] ∧
      (s.custody.entries.find? (fun e => decide (e.owed ≠ none ∧ (e.owed = some .offer →
      s.custody.suspended = false))) = some e) ∧ e.owed = some o) ∧
    (∃ (s : State) (g : SentFrame), s.phase = .running ∧ s.line.tx = none ∧ troubleActive .lineStuck s = false ∧
      troubleActive .strapInvalid s = false ∧ s.line.alarmQueued = false ∧ s.line.handoverRetry = none ∧
      s.custody.replies = [] ∧ (s.custody.entries.find? (fun e => decide (e.owed ≠ none ∧ (e.owed = some .offer →
      s.custody.suspended = false))) = none) ∧ s.line.answerRetry = some g) ∧
    (∃ (s : State) (q : Query) (qs : List Query), s.phase = .running ∧ s.line.tx = none ∧
      troubleActive .lineStuck s = false ∧ troubleActive .strapInvalid s = false ∧ s.line.alarmQueued = false ∧
      s.line.handoverRetry = none ∧ s.custody.replies = [] ∧
      (s.custody.entries.find? (fun e => decide (e.owed ≠ none ∧ (e.owed = some .offer →
      s.custody.suspended = false))) = none) ∧ s.line.answerRetry = none ∧ s.line.answers = q :: qs) ∧
    (∃ (s : State) (g : SentFrame), s.phase = .running ∧ s.line.tx = none ∧ troubleActive .lineStuck s = false ∧
      troubleActive .strapInvalid s = false ∧ s.line.alarmQueued = false ∧ s.line.handoverRetry = none ∧
      s.custody.replies = [] ∧ (s.custody.entries.find? (fun e => decide (e.owed ≠ none ∧ (e.owed = some .offer →
      s.custody.suspended = false))) = none) ∧ s.line.answerRetry = none ∧ s.line.answers = [] ∧
      s.line.reportRetry = some g) ∧
    (∃ (s : State) (r : Report) (rs : List Report), s.phase = .running ∧ s.line.tx = none ∧
      troubleActive .lineStuck s = false ∧ troubleActive .strapInvalid s = false ∧ s.line.alarmQueued = false ∧
      s.line.handoverRetry = none ∧ s.custody.replies = [] ∧
      (s.custody.entries.find? (fun e => decide (e.owed ≠ none ∧ (e.owed = some .offer →
      s.custody.suspended = false))) = none) ∧ s.line.answerRetry = none ∧ s.line.answers = [] ∧
      s.line.reportRetry = none ∧ s.line.reports = r :: rs) ∧
    (∃ (s : State), s.phase = .running ∧ s.line.tx = none ∧ troubleActive .lineStuck s = false ∧
      troubleActive .strapInvalid s = false ∧ s.line.alarmQueued = false ∧ s.line.handoverRetry = none ∧
      s.custody.replies = [] ∧ (s.custody.entries.find? (fun e => decide (e.owed ≠ none ∧ (e.owed = some .offer →
      s.custody.suspended = false))) = none) ∧ s.line.answerRetry = none ∧ s.line.answers = [] ∧
      s.line.reportRetry = none ∧ s.line.reports = [] ∧ s.line.stateQueued = true) ∧
    (∃ (s : State), s.phase = .running ∧ s.line.tx = none ∧ troubleActive .lineStuck s = false ∧
      troubleActive .strapInvalid s = false ∧ s.line.alarmQueued = false ∧ s.line.handoverRetry = none ∧
      s.custody.replies = [] ∧ (s.custody.entries.find? (fun e => decide (e.owed ≠ none ∧ (e.owed = some .offer →
      s.custody.suspended = false))) = none) ∧ s.line.answerRetry = none ∧ s.line.answers = [] ∧
      s.line.reportRetry = none ∧ s.line.reports = [] ∧ s.line.stateQueued = false) ∧
    (∃ (s : State), s.phase = .running ∧ (s.line.tx.isSome = true ∨ troubleActive .lineStuck s = true ∨
      troubleActive .strapInvalid s = true)) ∧
    (∃ (s : State), s.phase = .running ∧ (s.line.tx.isSome = true ∨ troubleActive .lineStuck s = true ∨
      troubleActive .strapInvalid s = true)) :=
  by
  refine ⟨⟨{ bay with line := { bay.line with alarmQueued := true } }, ?_⟩,
   ⟨{ bay with line := { bay.line with handoverRetry := some transmission.sent } }, transmission.sent, ?_⟩,
   ⟨replying (.refuse .full) bay, reply (.refuse .full), [], .full, ?_⟩,
   ⟨replying .late bay, reply .late, [], ?_⟩,
   ⟨owning [{ entry 5 .taking with owed := some .taken }] bay, { entry 5 .taking with owed := some .taken }, .taken,
     ?_⟩,
   ⟨{ bay with line := { bay.line with answerRetry := some transmission.sent } }, transmission.sent, ?_⟩,
   ⟨{ bay with line := { bay.line with answers := [question] } }, question, [], ?_⟩,
   ⟨{ bay with line := { bay.line with reportRetry := some transmission.sent } }, transmission.sent, ?_⟩,
   ⟨{ bay with line := { bay.line with reports := [notice] } }, notice, [], ?_⟩,
   ⟨{ bay with line := { bay.line with stateQueued := true } }, ?_⟩,
   ⟨bay, ?_⟩,
   ⟨sending bay, ?_⟩,
   ⟨stuck bay, ?_⟩⟩ <;>
  decide +kernel

theorem test_witness_SamplesMoveTheExcursionAndTheHistory :
    (∃ (s : State) (q : Sequence), s.phase = .running ∧ s.sup.conv = .probe ∧ s.sup.seq = some q ∧
      4 * 2 ^ s.cfg.averaging ≤ q.done + 1) ∧
    (∃ (s : State) (q : Sequence), s.phase = .running ∧ s.sup.conv = .probe ∧ s.sup.seq = some q ∧
      4 * 2 ^ s.cfg.averaging ≤ q.done + 1) ∧
    (∃ (s : State) (q : Sequence), s.phase = .running ∧ s.sup.conv = .probe ∧ s.sup.seq = some q ∧
      4 * 2 ^ s.cfg.averaging ≤ q.done + 1) ∧
    (∃ (s : State) (q : Sequence), s.phase = .running ∧ s.sup.conv = .probe ∧ s.sup.seq = some q ∧
      4 * 2 ^ s.cfg.averaging ≤ q.done + 1) :=
  by
  refine ⟨⟨sampling 63 bay, sequence 63, ?_⟩,
   ⟨sampling 63 { bay with climate := { bay.climate with excursion := .excursion } }, sequence 63, ?_⟩,
   ⟨sampling 63 { bay with cfg := { bay.cfg with excursionDelay := 0 } }, sequence 63, ?_⟩,
   ⟨sampling 63 { bay with climate := { bay.climate with excursion := .excursion }, hold := { seconds := 0, paused := true } }, sequence 63, ?_⟩⟩ <;>
  decide +kernel

theorem test_witness_SamplesAndPeerUpdatesMoveTheDehumidifier :
    (∃ (s : State) (q : Sequence), s.phase = .running ∧ s.sup.conv = .probe ∧ s.sup.seq = some q ∧
      4 * 2 ^ s.cfg.averaging ≤ q.done + 1 ∧ DryingGuarded s) ∧
    (∃ (s : State) (q : Sequence), s.phase = .running ∧ s.sup.conv = .probe ∧ s.sup.seq = some q ∧
      4 * 2 ^ s.cfg.averaging ≤ q.done + 1 ∧ DryingGuarded s) ∧
    (∃ (s : State) (f : Frame), Accepted kindState f s ∧ FixedSizes s) ∧
    (∃ (s : State) (f : Frame), Accepted kindAlarm f s ∧ FixedSizes s) :=
  by
  refine ⟨⟨sampling 63 bay, sequence 63, ?_⟩,
   ⟨sampling 63 { inFire .normal none bay with climate := { bay.climate with state := .active }, allot := { bay.allot with forced := false } }, sequence 63, ?_⟩,
   ⟨bay, frame 1 30 (stateBytes 1 1 0), ?_⟩,
   ⟨bay, frame 2 1 (alarmBytes 1 1 0), ?_⟩⟩ <;>
  decide +kernel

theorem test_witness_PeerUpdatesEndWaitsAndAbortsEndHeld :
    (∃ (s : State) (f : Frame), Accepted kindState f s ∧ FixedSizes s ∧ OffersSettled s) ∧
    (∃ (s : State) (f : Frame), Accepted kindAlarm f s ∧ FixedSizes s ∧ OffersSettled s) ∧
    (∃ (s : State) (f : Frame), Accepted kindState f s ∧ FixedSizes s ∧ s.fire.state = .held ∧
      byteAt f.payload 2 ≠ 6) ∧
    (∃ (s : State) (i : InputNo) (c : Code), s.phase = .running ∧ FixedSizes s ∧ s.sup.conv = .input i ∧
      s.fire.state = .held ∧ inputType i s = .abort ∧
      inputRecord i s = { settled := .alarm, candidate := some (scanBand .alarm c), stage := .ready } ∧
      scanBand .alarm c ≠ .alarm) ∧
    (∃ (s : State), s.phase = .running ∧ s.fire.state = .held) ∧
    (∃ (s : State), s.phase = .running ∧ s.fire.state = .held) ∧
    (∃ (s : State), s.phase = .running ∧ troubleActive .lineStuck s = true ∧ s.fire.state = .held) ∧
    (∃ (s : State), s.phase = .running) ∧
    (∃ (s : State), s.phase = .running) ∧
    (∃ (s : State), s.phase = .running ∧ troubleActive .lineStuck s = true) :=
  by
  refine ⟨⟨owning [{ entry 5 .held with wait := .full }] bay, frame 1 20 (stateBytes 1 1 0), ?_⟩,
   ⟨owning [{ entry 5 .held with wait := .fire }] bay, frame 2 20 (alarmBytes 1 1 0), ?_⟩,
   ⟨inFire .held none bay, frame 1 1 (stateBytes 1 5 0), ?_⟩,
   ⟨{ inputAt 4 .ready (inFire .held none bay) with sup := { (inputAt 4 .ready bay).sup with inputs := bay.sup.inputs.set 4 { settled := .alarm, candidate := some .normal, stage := .ready } } }, 4, 0x600, ?_⟩,
   ⟨inFire .held none bay, ?_⟩,
   ⟨fromPeer 7 (inFire .held none bay), ?_⟩,
   ⟨stuck (inFire .held none bay), ?_⟩,
   ⟨bay, ?_⟩,
   ⟨fromPeer 30 bay, ?_⟩,
   ⟨stuck bay, ?_⟩⟩ <;>
  decide +kernel

theorem test_witness_AnswersCarryTheOwnersRecords :
    (∃ (s : State) (idle : Nat) (q : Query) (qs : List Query), s.phase = .running ∧ s.line.tx = none ∧
      troubleActive .lineStuck s = false ∧ troubleActive .strapInvalid s = false ∧ s.line.alarmQueued = false ∧
      s.line.handoverRetry = none ∧ s.custody.replies = [] ∧
      (s.custody.entries.find? (fun e => decide (e.owed ≠ none ∧ (e.owed = some .offer →
      s.custody.suspended = false))) = none) ∧ s.line.answerRetry = none ∧ s.line.answers = q :: qs ∧
      76 + ownNumber s ≤ idle ∧ q.subject = .slots) ∧
    (∃ (s : State) (idle : Nat) (q : Query) (qs : List Query), s.phase = .running ∧ s.line.tx = none ∧
      troubleActive .lineStuck s = false ∧ troubleActive .strapInvalid s = false ∧ s.line.alarmQueued = false ∧
      s.line.handoverRetry = none ∧ s.custody.replies = [] ∧
      (s.custody.entries.find? (fun e => decide (e.owed ≠ none ∧ (e.owed = some .offer →
      s.custody.suspended = false))) = none) ∧ s.line.answerRetry = none ∧ s.line.answers = q :: qs ∧
      76 + ownNumber s ≤ idle ∧ q.subject = .custody) ∧
    (∃ (s : State) (idle : Nat) (q : Query) (qs : List Query) (c : Consignment), s.phase = .running ∧
      s.line.tx = none ∧ troubleActive .lineStuck s = false ∧ troubleActive .strapInvalid s = false ∧
      s.line.alarmQueued = false ∧ s.line.handoverRetry = none ∧ s.custody.replies = [] ∧
      (s.custody.entries.find? (fun e => decide (e.owed ≠ none ∧ (e.owed = some .offer →
      s.custody.suspended = false))) = none) ∧ s.line.answerRetry = none ∧ s.line.answers = q :: qs ∧
      76 + ownNumber s ≤ idle ∧ q.subject = .consignment ∧ findRecord q.consignment s = some c) ∧
    (∃ (s : State) (idle : Nat) (q : Query) (qs : List Query), s.phase = .running ∧ s.line.tx = none ∧
      troubleActive .lineStuck s = false ∧ troubleActive .strapInvalid s = false ∧ s.line.alarmQueued = false ∧
      s.line.handoverRetry = none ∧ s.custody.replies = [] ∧
      (s.custody.entries.find? (fun e => decide (e.owed ≠ none ∧ (e.owed = some .offer →
      s.custody.suspended = false))) = none) ∧ s.line.answerRetry = none ∧ s.line.answers = q :: qs ∧
      76 + ownNumber s ≤ idle ∧ q.subject = .consignment ∧ findRecord q.consignment s = none) ∧
    (∃ (s : State) (idle : Nat) (q : Query) (qs : List Query), s.phase = .running ∧ s.line.tx = none ∧
      troubleActive .lineStuck s = false ∧ troubleActive .strapInvalid s = false ∧ s.line.alarmQueued = false ∧
      s.line.handoverRetry = none ∧ s.custody.replies = [] ∧
      (s.custody.entries.find? (fun e => decide (e.owed ≠ none ∧ (e.owed = some .offer →
      s.custody.suspended = false))) = none) ∧ s.line.answerRetry = none ∧ s.line.answers = q :: qs ∧
      76 + ownNumber s ≤ idle ∧ q.subject = .history) ∧
    (∃ (s : State) (idle : Nat) (q : Query) (qs : List Query), s.phase = .running ∧ s.line.tx = none ∧
      troubleActive .lineStuck s = false ∧ troubleActive .strapInvalid s = false ∧ s.line.alarmQueued = false ∧
      s.line.handoverRetry = none ∧ s.custody.replies = [] ∧
      (s.custody.entries.find? (fun e => decide (e.owed ≠ none ∧ (e.owed = some .offer →
      s.custody.suspended = false))) = none) ∧ s.line.answerRetry = none ∧ s.line.answers = q :: qs ∧
      76 + ownNumber s ≤ idle ∧ q.subject = .peers ∧ FixedSizes s) ∧
    (∃ (s : State) (idle : Nat) (q : Query) (qs : List Query), s.phase = .running ∧ s.line.tx = none ∧
      troubleActive .lineStuck s = false ∧ troubleActive .strapInvalid s = false ∧ s.line.alarmQueued = false ∧
      s.line.handoverRetry = none ∧ s.custody.replies = [] ∧
      (s.custody.entries.find? (fun e => decide (e.owed ≠ none ∧ (e.owed = some .offer →
      s.custody.suspended = false))) = none) ∧ s.line.answerRetry = none ∧ s.line.answers = q :: qs ∧
      76 + ownNumber s ≤ idle ∧ q.subject = .episode) :=
  by
  refine ⟨⟨{ withSlots [slot 1 .occupied] bay with line := { bay.line with answers := [{ question with subject := .slots, consignment := 0 }] } }, 78, { question with subject := .slots, consignment := 0 }, [], ?_⟩,
   ⟨{ owning [entry 5 .held] bay with line := { bay.line with answers := [{ question with subject := .custody, consignment := 0 }] } }, 78, { question with subject := .custody, consignment := 0 }, [], ?_⟩,
   ⟨{ recording [receiving9] bay with line := { bay.line with answers := [{ question with subject := .consignment, consignment := 9 }] } }, 78, { question with subject := .consignment, consignment := 9 }, [], receiving9, ?_⟩,
   ⟨{ bay with line := { bay.line with answers := [{ question with subject := .consignment, consignment := 0 }] } },
     78, { question with subject := .consignment, consignment := 0 }, [], ?_⟩,
   ⟨{ bay with line := { bay.line with answers := [{ question with subject := .history, consignment := 0 }] } }, 78,
     { question with subject := .history, consignment := 0 }, [], ?_⟩,
   ⟨{ bay with line := { bay.line with answers := [{ question with subject := .peers, consignment := 0 }] } }, 78,
     { question with subject := .peers, consignment := 0 }, [], ?_⟩,
   ⟨{ bay with line := { bay.line with answers := [{ question with subject := .episode, consignment := 0 }] } }, 78,
     { question with subject := .episode, consignment := 0 }, [], ?_⟩⟩ <;>
  decide +kernel

end Sys2Proof.Tests
end

section
/-! ## The reset state and the output pins -/

namespace Sys2Proof.Machine

/-- Settles O4: the reset state is a literal, whose peers are all the unheard one. -/
theorem resetHoldsThePowerOnValues : Obligations.ResetHoldsThePowerOnValues := by
  unfold Obligations.ResetHoldsThePowerOnValues
  have peers : ∀ p ∈ State.reset.line.peers, p = Peer.unheard := fun p hp => List.eq_of_mem_replicate hp
  exact ⟨rfl, rfl, rfl, rfl, rfl, rfl, rfl, rfl, rfl, rfl, rfl, rfl, rfl, rfl, rfl, rfl, rfl, peers, rfl, rfl, rfl,
    rfl, rfl, rfl, rfl, rfl, rfl, rfl, rfl⟩

/-! ### The pins as views -/

theorem sounderOn_iff (s : State) :
    sounderOn s = true ↔ s.fire.testPulse.isSome = true ∨
      (s.fire.silence = none ∧ (s.fire.state = .discharged ∨ ∃ c ∈ s.fire.cadence, c.phaseOn = true)) := by
  unfold sounderOn
  by_cases hp : s.fire.testPulse.isSome = true
  · simp [hp]
  · cases hs : s.fire.silence with
    | some l => simp [hp]
    | none =>
      by_cases hd : s.fire.state = .discharged
      · simp [hp, hd]
      · cases hc : s.fire.cadence <;> simp [hp, hd]

theorem raised_iff (f : FireState) :
    f.raised = true ↔ f = .alert ∨ f = .confirmed ∨ f = .preDischarge ∨ f = .held ∨ f = .discharged := by
  cases f <;> simp [FireState.raised]

theorem freesDoor_iff (st : SlotState) :
    st.freesDoor = true ↔ st = .pullPending ∨ st = .pulled ∨ st = .returnPending := by
  cases st <;> simp [SlotState.freesDoor]

theorem slotFreesDoor_iff (s : State) (sl : Slot) :
    slotFreesDoor s sl = true ↔ (sl.state = .pullPending ∨ sl.state = .pulled ∨ sl.state = .returnPending) ∧
      ∃ c ∈ s.consignments, sl.consignment = some c.number := by
  unfold slotFreesDoor
  cases sl.consignment with
  | none => simp
  | some n => simp only [Bool.and_eq_true, freesDoor_iff, List.any_eq_true, beq_iff_eq, Option.some.injEq, @eq_comm _ n]

theorem courierHere_iff (c : Consignment) :
    c.courierHere = true ↔ c.state = .courierPresent ∨ c.state = .receiving := by
  simp [Consignment.courierHere]

theorem doorReleased_iff (s : State) :
    doorReleased s = true ↔ hvacShutdown s = true ∨
      (s.role = .bay ∧ ∃ sl ∈ s.scanner.slots, (sl.state = .pullPending ∨ sl.state = .pulled ∨ sl.state =
        .returnPending) ∧ ∃ c ∈ s.consignments, sl.consignment = some c.number) ∨
      (s.role = .dock ∧ ∃ c ∈ s.consignments, c.state = .courierPresent ∨ c.state = .receiving) := by
  unfold doorReleased hvacShutdown
  cases s.role with
  | bay => simp only [Bool.or_eq_true, if_true, List.any_eq_true, slotFreesDoor_iff, true_and, reduceCtorEq, false_and,
      or_false]
  | dock => simp only [Bool.or_eq_true, reduceCtorEq, if_false, List.any_eq_true, courierHere_iff, true_and, false_and,
      false_or]

theorem troubleOn_iff (s : State) :
    troubleOn s = true ↔ (s.phase = .running ∨ s.phase = .restarting) ∧ s.out.active ≠ 0 := by
  simp [troubleOn, outputsDriven]

theorem auxOn_iff (m : Byte) (s : State) :
    auxOn m s = true ↔ s.phase = .running ∧
      ((m.getLsbD 0 = true ∧ hvacShutdown s = true) ∨ (m.getLsbD 1 = true ∧ s.fire.state = .preDischarge) ∨
       (m.getLsbD 2 = true ∧ s.fire.state = .discharged) ∨ (m.getLsbD 3 = true ∧ s.out.active ≠ 0) ∨
       (m.getLsbD 4 = true ∧ s.climate.excursion = .excursion) ∨
       (m.getLsbD 5 = true ∧ ∃ e ∈ s.custody.entries, e.state = .adrift ∨ e.state = .disputed) ∨
       (m.getLsbD 6 = true ∧ ∃ sl ∈ s.scanner.slots, sl.state = .quarantine) ∨
       (m.getLsbD 7 = true ∧ s.out.doorForced.isSome = true)) := by
  by_cases hr : s.phase = .running
  · have ht : troubleOn s = true ↔ s.out.active ≠ 0 := by simp [troubleOn_iff, hr]
    simp only [auxOn, auxConditions, auxFrom, hr, hvacShutdown, Bool.or_eq_true, Bool.and_eq_true, ht, beq_iff_eq,
      List.any_eq_true, Bool.false_eq_true, or_false, true_and, beq_self_eq_true]
  · simp [auxOn, hr]

theorem probeChannel_eq_some (k : Nat) (s : State) :
    probeChannel s = some k ↔ s.sup.conv = .probe ∧ ∃ q ∈ s.sup.seq, q.done % 4 = k := by
  unfold probeChannel
  cases s.sup.conv <;> simp [Sequence.channel]

theorem probeAExcited_iff (s : State) :
    probeAExcited s = true ↔ s.sup.conv = .probe ∧ ∃ q ∈ s.sup.seq, q.done % 4 = 0 ∨ q.done % 4 = 1 := by
  unfold probeAExcited
  rw [Option.any_eq_true]
  simp only [probeChannel_eq_some, decide_eq_true_eq]
  constructor
  · rintro ⟨k, ⟨hc, q, hq, rfl⟩, hk⟩
    exact ⟨hc, q, hq, by omega⟩
  · rintro ⟨hc, q, hq, hk⟩
    exact ⟨_, ⟨hc, q, hq, rfl⟩, by omega⟩

theorem probeBExcited_iff (s : State) :
    probeBExcited s = true ↔ s.sup.conv = .probe ∧ ∃ q ∈ s.sup.seq, q.done % 4 = 2 ∨ q.done % 4 = 3 := by
  unfold probeBExcited
  rw [Option.any_eq_true]
  simp only [probeChannel_eq_some, decide_eq_true_eq]
  constructor
  · rintro ⟨k, ⟨hc, q, hq, rfl⟩, hk⟩
    exact ⟨hc, q, hq, by omega⟩
  · rintro ⟨hc, q, hq, hk⟩
    exact ⟨_, ⟨hc, q, hq, rfl⟩, by omega⟩

/-! ### SILENCE and the cadence -/

theorem silenceable_iff (f : FireState) : f.silenceable = true ↔ f = .alert ∨ f = .confirmed ∨ f = .held := by
  cases f <;> simp [FireState.silenceable]

theorem execSilence_accepted (s : State) (f : Frame) (h : AcceptedCommand codeSilence f s)
    (hs : s.fire.state.silenceable = true) :
    exec (.silence f) s =
      .next { heard f s with fire := { s.fire with silence := some s.fire.state, cadence := none } } := by
  have effect : receiveCommand codeSilence f (fun _ => silenceCommand) s =
      { heard f s with fire := { s.fire with silence := some s.fire.state, cadence := none } } := by
    rw [receiveCommand_accepted _ _ _ _ h]
    exact if_pos hs
  have kept : reportedFire (receiveCommand codeSilence f (fun _ => silenceCommand) s) = reportedFire s := by
    rw [effect]; rfl
  exact (runEvent_unreported _ s h.1.1 kept).trans (congrArg _ effect)

/-- The other phase of each cadence (R41). -/
theorem toggleCadence_eq (f : FireState) (c : Cadence)
    (h : f = .alert ∨ f = .confirmed ∨ f = .preDischarge ∨ f = .held) :
    toggleCadence f c = some
      { phaseOn := !c.phaseOn,
        reloadMs := if f = .alert then 1000 else if f = .held then (if c.phaseOn then 1500 else 500) else 250 } := by
  rcases h with rfl | rfl | rfl | rfl <;> simp [toggleCadence, cadenceTimes]

theorem execSounderCadenceExpiry_eq (s : State) (h : s.phase = .running) :
    exec .sounderCadenceExpiry s = .next (cadenceOver s) := by
  refine runEvent_unreported cadenceOver s h ?_
  unfold cadenceOver
  split <;> rfl

/-- Settles O29: each pin by its own lemma, then the two commands that act on SOUNDER. -/
theorem outputPinsFollowTheState : Obligations.OutputPinsFollowTheState := by
  unfold Obligations.OutputPinsFollowTheState
  refine ⟨fun s => ⟨Iff.rfl, sounderOn_iff s, raised_iff _, Iff.rfl, doorReleased_iff s, troubleOn_iff s,
    fun m => auxOn_iff m s, rfl, rfl, probeAExcited_iff s, probeBExcited_iff s, fun d => driveLineOn_iff d s⟩,
    fun s f h hs => execSilence_accepted s f h ((silenceable_iff _).2 hs), fun s c hr hc hs => ?_, fun s hr hc => ?_⟩
  · rw [execSounderCadenceExpiry_eq s hr]
    simp only [cadenceOver, hc, toggleCadence_eq _ c hs]
  · rw [execSounderCadenceExpiry_eq s hr]
    simp only [cadenceOver, hc]

end Sys2Proof.Machine
end

section
/-! ## What every operation leaves of the queue of waiting commands

No operation of any block touches the queue (R185): one lemma for each, in the order of the model's files. -/

namespace Sys2Proof.Machine

variable (s : State)

/-! ### Shared operations -/

theorem foldl_pending {α : Type} (f : State → α → State) (h : ∀ s a, (f s a).pending = s.pending) (l : List α) :
    ∀ s : State, (l.foldl f s).pending = s.pending := by
  induction l with
  | nil => exact fun _ => rfl
  | cons a l ih => exact fun s => (ih (f s a)).trans (h s a)

@[simp] theorem queueReports_pending (rs : List Report) : (queueReports rs s).pending = s.pending :=
  foldl_pending _ (by simp) rs s

@[simp] theorem refuseCommand_pending (code : Byte) (n : Nat) (t : Tag) :
    (refuseCommand code n t s).pending = s.pending := queueReport_pending _ _

@[simp] theorem settleTrouble_pending (x : Trouble) : (settleTrouble s x).pending = s.pending := by
  unfold settleTrouble; split <;> simp

@[simp] theorem settleTroubles_pending : (settleTroubles s).pending = s.pending :=
  foldl_pending _ (by simp) _ s

/-! ### Allotter -/

@[simp] theorem startDehumidifier_pending : (startDehumidifier s).pending = s.pending := rfl
@[simp] theorem stopDehumidifier_pending : (stopDehumidifier s).pending = s.pending := rfl

@[simp] theorem evaluateGrant_pending : (evaluateGrant s).pending = s.pending := by
  unfold evaluateGrant; split <;> simp

@[simp] theorem beginForcing_pending : (beginForcing s).pending = s.pending := by
  unfold beginForcing; dsimp only; split <;> simp

@[simp] theorem endForcing_pending : (endForcing s).pending = s.pending := by simp [endForcing]

@[simp] theorem reevaluateForced_pending : (reevaluateForced s).pending = s.pending := by
  unfold reevaluateForced; repeat' split
  all_goals simp

@[simp] theorem stopOrGrant_pending : (stopOrGrant s).pending = s.pending := by
  unfold stopOrGrant; repeat' split
  all_goals simp

@[simp] theorem allotSampleTaken_pending : (allotSampleTaken s).pending = s.pending := by
  unfold allotSampleTaken; dsimp only; split <;> simp

@[simp] theorem minRunExpired_pending : (minRunExpired s).pending = s.pending := by
  unfold minRunExpired; dsimp only; repeat' split
  all_goals simp

@[simp] theorem minOffExpired_pending : (minOffExpired s).pending = s.pending := by
  unfold minOffExpired; split <;> simp

/-! ### Custody, holds and slots -/

@[simp] theorem custodyFireStart_pending : (custodyFireStart s).pending = s.pending := rfl
@[simp] theorem custodyFireEnd_pending : (custodyFireEnd s).pending = s.pending := rfl

@[simp] theorem reofferChecks_pending (n : Nat) (k : UpdateKind) (p : Peer) :
    (reofferChecks n k p s).pending = s.pending := by simp [reofferChecks]

@[simp] theorem countHoldsDown_pending : (countHoldsDown s).pending = s.pending := by simp [countHoldsDown]

@[simp] theorem judgePause_pending : (judgePause s).pending = s.pending := by
  unfold judgePause; dsimp only; split <;> simp

theorem pullRequest_pending {n num : Nat} {t : Option Tag} {s v : State} (h : pullRequest n t num s = some v) :
    v.pending = s.pending := by
  unfold pullRequest at h
  repeat' split at h
  all_goals cases h
  simp

theorem verifyRequest_pending {n : Nat} {t : Tag} {s v : State} (h : verifyRequest n t s = some v) :
    v.pending = s.pending := by
  unfold verifyRequest at h
  repeat' split at h
  all_goals cases h
  simp

theorem awaitRequest_pending {n num : Nat} {t : Option Tag} {s v : State} (h : awaitRequest n t num s = some v) :
    v.pending = s.pending := by
  unfold awaitRequest at h
  repeat' split at h
  all_goals cases h
  simp

theorem returnRequest_pending {n : Nat} {t : Tag} {s v : State} (h : returnRequest n t s = some v) :
    v.pending = s.pending := by
  unfold returnRequest at h
  repeat' split at h
  all_goals cases h
  simp

@[simp] theorem revertRequest_pending (num : Nat) : (revertRequest num s).pending = s.pending := by
  simp [revertRequest]

/-! ### Inputs and fire -/

@[simp] theorem reverify_pending (i : InputNo) : (reverify i s).pending = s.pending := rfl

@[simp] theorem reverifyAll_pending (is : List InputNo) : (reverifyAll is s).pending = s.pending :=
  foldl_pending _ (by simp) is s

@[simp] theorem endWithholding_pending : (endWithholding s).pending = s.pending := foldl_pending _ (by simp) _ s

@[simp] theorem enterPreDischarge_pending (n : Nat) (b : Bool) : (enterPreDischarge n b s).pending = s.pending := rfl

@[simp] theorem startRelease_pending : (startRelease s).pending = s.pending := by unfold startRelease; split <;> rfl

@[simp] theorem enterDischarged_pending : (enterDischarged s).pending = s.pending := by simp [enterDischarged]

@[simp] theorem confirmationEntry_pending : (confirmationEntry s).pending = s.pending := by
  unfold confirmationEntry; repeat' split
  all_goals simp

@[simp] theorem endStabilization_pending : (endStabilization s).pending = s.pending := by simp [endStabilization]

@[simp] theorem manualEntry_pending : (manualEntry s).pending = s.pending := by unfold manualEntry; split <;> simp

@[simp] theorem manualShorten_pending : (manualShorten s).pending = s.pending := by
  unfold manualShorten; split <;> simp

@[simp] theorem manualRule_pending : (manualRule s).pending = s.pending := by
  unfold manualRule; repeat' split
  all_goals simp

@[simp] theorem evaluateFire_pending : (evaluateFire s).pending = s.pending := by
  unfold evaluateFire; repeat' split
  all_goals simp

@[simp] theorem custodyAfterMove_pending : (custodyAfterMove s).pending = s.pending := by
  unfold custodyAfterMove; repeat' split
  all_goals simp

@[simp] theorem sounderAfterMove_pending : (sounderAfterMove s).pending = s.pending := rfl

@[simp] theorem settleFire_pending (f : FireRecord) : (settleFire f s).pending = s.pending := by
  unfold settleFire; repeat' split
  all_goals simp

@[simp] theorem fireEvent_pending (effect : State → State) : (fireEvent effect s).pending = (effect s).pending := by
  simp [fireEvent]

@[simp] theorem testAlarm_pending (i : InputNo) : (testAlarm i s).pending = s.pending := by simp [testAlarm]

@[simp] theorem actOnAlarm_pending (i : InputNo) : (actOnAlarm i s).pending = s.pending := by
  unfold actOnAlarm; repeat' split
  all_goals simp

@[simp] theorem alarmVerified_pending (i : InputNo) : (alarmVerified i s).pending = s.pending := by
  unfold alarmVerified; rw [fireEvent_pending]; split <;> simp

@[simp] theorem abortOn_pending (i : InputNo) : (abortOn i s).pending = s.pending := by
  unfold abortOn; rw [fireEvent_pending]; dsimp only; split <;> simp

@[simp] theorem abortOff_pending (i : InputNo) : (abortOff i s).pending = s.pending := by simp [abortOff]

@[simp] theorem endTest_pending : (endTest s).pending = s.pending := by
  unfold endTest
  simp only [evaluateFire_pending, moveFire_pending, reverifyAll_pending]
  exact foldl_pending (fun s i => setLatch i Latch.none s) (fun _ _ => rfl) _ s

@[simp] theorem adopt_pending (p : PeerFire) : (adopt p s).pending = s.pending := by
  unfold adopt; repeat' split
  all_goals simp

@[simp] theorem samePeerUpdate_pending (e : Option PeerFire) (p : PeerFire) :
    (samePeerUpdate e p s).pending = s.pending := by unfold samePeerUpdate; split <;> simp

@[simp] theorem firePeerUpdate_pending (a b : Peer) : (firePeerUpdate a b s).pending = s.pending := by
  unfold firePeerUpdate; rw [fireEvent_pending]; repeat' split
  all_goals simp

@[simp] theorem fireStale_pending : (fireStale s).pending = s.pending := by simp [fireStale]

@[simp] theorem acceptReset_pending : (acceptReset s).pending = s.pending := by
  unfold acceptReset; dsimp only; repeat' split
  all_goals simp [applyPostFireHolds, clearForReset]

@[simp] theorem fireReset_pending : (fireReset s).pending = s.pending := by unfold fireReset; split <;> simp

@[simp] theorem silenceCommand_pending : (silenceCommand s).pending = s.pending := by
  unfold silenceCommand; split <;> simp

@[simp] theorem testStart_pending : (testStart s).pending = s.pending := by unfold testStart; split <;> simp

@[simp] theorem testEnd_pending : (testEnd s).pending = s.pending := by unfold testEnd; split <;> simp

@[simp] theorem setIsolation_pending (b : Bool) : (setIsolation b s).pending = s.pending := by simp [setIsolation]

@[simp] theorem isolateState_pending : (isolateState s).pending = s.pending := by
  unfold isolateState; split <;> simp

@[simp] theorem isolateOn_pending : (isolateOn s).pending = s.pending := by unfold isolateOn; split <;> simp

@[simp] theorem isolateOff_pending : (isolateOff s).pending = s.pending := by unfold isolateOff; split <;> simp

@[simp] theorem stabilizationOver_pending : (stabilizationOver s).pending = s.pending := by
  unfold stabilizationOver; split <;> simp

@[simp] theorem countdownOver_pending : (countdownOver s).pending = s.pending := by
  unfold countdownOver; repeat' split
  all_goals simp

@[simp] theorem testTimerOver_pending : (testTimerOver s).pending = s.pending := by
  unfold testTimerOver; split <;> simp

@[simp] theorem testLatchOver_pending (i : InputNo) : (testLatchOver i s).pending = s.pending := by
  unfold testLatchOver; split <;> simp

@[simp] theorem cadenceOver_pending : (cadenceOver s).pending = s.pending := by unfold cadenceOver; split <;> rfl

/-! ### Climate -/

@[simp] theorem sampleTroubles_pending (a b : Option Bay) : (sampleTroubles a b s).pending = s.pending := by
  simp [sampleTroubles]

@[simp] theorem beginDelay_pending (b : Bay) : (beginDelay b s).pending = s.pending := by
  unfold beginDelay; split <;> simp

@[simp] theorem judgeExcursion_pending (l : Bool) (b : Bay) : (judgeExcursion l b s).pending = s.pending := by
  unfold judgeExcursion; repeat' split
  all_goals simp

@[simp] theorem sampleExcursion_pending (c : ClimateState) : (sampleExcursion c s).pending = s.pending := by
  unfold sampleExcursion; split <;> simp

@[simp] theorem sampleHistory_pending (e : ExcursionState) : (sampleHistory e s).pending = s.pending := by
  unfold sampleHistory; dsimp only; split <;> rfl

@[simp] theorem sampleEpisode_pending : (sampleEpisode s).pending = s.pending := rfl

@[simp] theorem takeSample_pending (a b : Option Bay) : (takeSample a b s).pending = s.pending := by
  simp [takeSample, sampleNotices]

@[simp] theorem takeResult_pending (n : Nat) (q : Sequence) : (takeResult n q s).pending = s.pending := by
  simp [takeResult]

@[simp] theorem climateHoldOver_pending : (climateHoldOver s).pending = s.pending := by
  unfold climateHoldOver; dsimp only; split <;> simp

@[simp] theorem excursionDelayOver_pending : (excursionDelayOver s).pending = s.pending := by
  unfold excursionDelayOver; split <;> simp

/-! ### Conversions -/

@[simp] theorem bandTroubles_pending (i : InputNo) (b : Band) : (bandTroubles i b s).pending = s.pending := by
  simp [bandTroubles]

@[simp] theorem settleBand_pending (i : InputNo) (b : Band) : (settleBand i b s).pending = s.pending := by
  unfold settleBand; dsimp only; split <;> simp

@[simp] theorem judgeSettled_pending (i : InputNo) (c : Code) : (judgeSettled i c s).pending = s.pending := by
  unfold judgeSettled; dsimp only; repeat' split
  all_goals simp

@[simp] theorem verified_pending (i : InputNo) : (verified i s).pending = s.pending := by
  unfold verified; dsimp only; split <;> simp

@[simp] theorem unverified_pending (i : InputNo) (c : Code) : (unverified i c s).pending = s.pending := by
  unfold unverified; dsimp only; split <;> simp

@[simp] theorem continueVerification_pending (i : InputNo) (v : Verification) :
    (continueVerification i v s).pending = s.pending := by
  unfold continueVerification; repeat' split
  all_goals simp

@[simp] theorem judgeCode_pending (i : InputNo) (c : Code) : (judgeCode i c s).pending = s.pending := by
  unfold judgeCode; repeat' split
  all_goals simp

@[simp] theorem countCheck_pending (c : CircuitCheck) : (countCheck c s).pending = s.pending := by
  unfold countCheck; dsimp only; repeat' split
  all_goals simp

@[simp] theorem releaseCheck_pending (c : CircuitCheck) : (releaseCheck c s).pending = s.pending := by
  unfold releaseCheck; split <;> simp

@[simp] theorem probeOrIdle_pending : (probeOrIdle s).pending = s.pending := rfl

@[simp] theorem beginNext_pending : (beginNext s).pending = s.pending := by
  unfold beginNext; dsimp only; repeat' split
  all_goals simp

@[simp] theorem continueScan_pending (i : InputNo) : (continueScan i s).pending = s.pending := by
  unfold continueScan; split <;> simp

@[simp] theorem wakeArbiter_pending : (wakeArbiter s).pending = s.pending := by unfold wakeArbiter; split <;> simp

@[simp] theorem afterSequence_pending : (afterSequence s).pending = s.pending := by
  unfold afterSequence; dsimp only; repeat' split
  all_goals simp

@[simp] theorem addProbeCode_pending (c : Code) (q : Sequence) : (addProbeCode c q s).pending = s.pending := by
  unfold addProbeCode; dsimp only; split <;> simp

@[simp] theorem scanTimerOver_pending (c : CircuitCheck) : (scanTimerOver c s).pending = s.pending := by
  simp [scanTimerOver]

@[simp] theorem inputConverted_pending (c : Code) : (inputConverted c s).pending = s.pending := by
  unfold inputConverted; split <;> simp

@[simp] theorem probeConverted_pending (c : Code) : (probeConverted c s).pending = s.pending := by
  unfold probeConverted; split <;> simp

@[simp] theorem verifyOver_pending (i : InputNo) : (verifyOver i s).pending = s.pending := by
  unfold verifyOver; split <;> simp

@[simp] theorem requestSequence_pending : (requestSequence s).pending = s.pending := by
  unfold requestSequence; repeat' split
  all_goals simp

@[simp] theorem climateTimerOver_pending : (climateTimerOver s).pending = s.pending := by simp [climateTimerOver]

/-! ### Consignments -/

@[simp] theorem markEntry_pending (num k : Nat) (st : EntryState) : (markEntry num k st s).pending = s.pending := rfl

@[simp] theorem closeCustody_pending (num : Nat) : (closeCustody num s).pending = s.pending := rfl

@[simp] theorem closeRecord_pending (c : Consignment) (x : CloseCause) : (closeRecord c x s).pending = s.pending := by
  unfold closeRecord; dsimp only; split <;> simp

@[simp] theorem completionTest_pending (num : Nat) : (completionTest num s).pending = s.pending := by
  unfold completionTest; repeat' split
  all_goals simp

@[simp] theorem notice_pending (num : Nat) (p : Entry → Bool) (st : EntryState) :
    (notice num p st s).pending = s.pending := by
  unfold notice; repeat' split
  all_goals simp

@[simp] theorem noticeOf_pending (num : Option Nat) (p : Entry → Bool) (st : EntryState) :
    (noticeOf num p st s).pending = s.pending := by unfold noticeOf; split <;> simp

@[simp] theorem releasedNotice_pending (num : Option Nat) (t : Tag) :
    (releasedNotice num t s).pending = s.pending := noticeOf_pending ..

@[simp] theorem clearNumber_pending (t : Tag) : (clearNumber t s).pending = s.pending := rfl

@[simp] theorem refusedNotice_pending (num : Option Nat) (t : Tag) :
    (refusedNotice num t s).pending = s.pending := by simp [refusedNotice]

@[simp] theorem adriftNotice_pending (num : Option Nat) (t : Tag) :
    (adriftNotice num t s).pending = s.pending := by simp [adriftNotice]

@[simp] theorem disputedNotice_pending (num : Option Nat) (t : Tag) :
    (disputedNotice num t s).pending = s.pending := by simp [disputedNotice]

@[simp] theorem receivedNotice_pending (num : Option Nat) (t : Tag) :
    (receivedNotice num t s).pending = s.pending := by
  unfold receivedNotice; repeat' split
  all_goals simp

@[simp] theorem seatedNotice_pending (num : Nat) (t : Tag) : (seatedNotice num t s).pending = s.pending :=
  notice_pending ..

@[simp] theorem pullFailedNotice_pending (num slot : Nat) : (pullFailedNotice num slot s).pending = s.pending :=
  notice_pending ..

@[simp] theorem takeConsign_pending (p : List Byte) : (takeConsign p s).pending = s.pending := by
  unfold takeConsign; dsimp only; repeat' split
  all_goals simp

theorem slotRequest_pending {d : Direction} {num : Nat} {e : Entry} {s v : State}
    (h : slotRequest d num e s = some v) : v.pending = s.pending := by
  cases d with
  | outbound => exact pullRequest_pending h
  | inbound => exact awaitRequest_pending h

@[simp] theorem rejectEntry_pending (num k : Nat) (e : Entry) (r : FailReason) :
    (rejectEntry num k e r s).pending = s.pending := by simp [rejectEntry]

@[simp] theorem validateEntry_pending (d : Direction) (num k : Nat) (l : List Entry) (e : Entry) :
    (validateEntry d num k l e s).pending = s.pending := by
  unfold validateEntry; repeat' split
  all_goals simp
  exact slotRequest_pending ‹_›

@[simp] theorem validateFrom_pending (d : Direction) (num k : Nat) (l es : List Entry) :
    (validateFrom d num k l es s).pending = s.pending := by
  induction es generalizing k l s with
  | nil => rfl
  | cons e es ih => unfold validateFrom; rw [ih, validateEntry_pending]

@[simp] theorem endOpening_pending (num : Nat) : (endOpening num s).pending = s.pending := by
  unfold endOpening; split <;> simp

@[simp] theorem appendEntry_pending (num : Nat) (e : Entry) : (appendEntry num e s).pending = s.pending := by
  unfold appendEntry; repeat' split
  all_goals simp

@[simp] theorem takeEntries_pending (num : Nat) (es : List Entry) : (takeEntries num es s).pending = s.pending := by
  induction es generalizing s with
  | nil => rfl
  | cons e es ih => unfold takeEntries; dsimp only; split <;> simp [ih]

@[simp] theorem takeEntry_pending (p : List Byte) : (takeEntry p s).pending = s.pending := by
  unfold takeEntry; dsimp only; repeat' split
  all_goals simp

@[simp] theorem takeCancel_pending (p : List Byte) : (takeCancel p s).pending = s.pending := by
  unfold takeCancel; dsimp only; repeat' split
  all_goals simp

@[simp] theorem startSession_pending (num : Nat) : (startSession num s).pending = s.pending := rfl

@[simp] theorem signOffActive_pending (num k : Nat) (t : Tag) : (signOffActive num k t s).pending = s.pending := by
  unfold signOffActive; repeat' split
  all_goals simp

@[simp] theorem signOffEntry_pending (num k : Nat) (e : Entry) : (signOffEntry num k e s).pending = s.pending := by
  unfold signOffEntry; repeat' split
  all_goals simp

@[simp] theorem signOffFrom_pending (num k : Nat) (es : List Entry) :
    (signOffFrom num k es s).pending = s.pending := by
  induction es generalizing k s with
  | nil => rfl
  | cons e es ih => unfold signOffFrom; rw [ih, signOffEntry_pending]

@[simp] theorem signOffOutbound_pending (c : Consignment) : (signOffOutbound c s).pending = s.pending := by
  unfold signOffOutbound; dsimp only; split <;> simp

@[simp] theorem signOffInbound_pending (c : Consignment) : (signOffInbound c s).pending = s.pending := by
  simp [signOffInbound]

@[simp] theorem courierWindowOver_pending (c : Consignment) : (courierWindowOver c s).pending = s.pending := by
  unfold courierWindowOver; dsimp only; split <;> simp

@[simp] theorem openingOver_pending (num : Nat) : (openingOver num s).pending = s.pending := by
  unfold openingOver; repeat' split
  all_goals simp

@[simp] theorem courierOver_pending (num : Nat) : (courierOver num s).pending = s.pending := by
  unfold courierOver; repeat' split
  all_goals simp

@[simp] theorem deadlineOver_pending (num : Nat) : (deadlineOver num s).pending = s.pending := by
  unfold deadlineOver; repeat' split
  all_goals simp

/-! ### Handover -/

@[simp] theorem takeOffer_pending (n : Nat) (p : List Byte) : (takeOffer n p s).pending = s.pending := by
  unfold takeOffer; split <;> simp

@[simp] theorem claimExpected_pending (t : Tag) : (claimExpected t s).pending = s.pending := rfl

@[simp] theorem disputeEntry_pending (e : CustodyEntry) (c : DisputeCause) :
    (disputeEntry e c s).pending = s.pending := by simp [disputeEntry]

@[simp] theorem confirmTaking_pending (e : CustodyEntry) : (confirmTaking e s).pending = s.pending := by
  unfold confirmTaking; dsimp only; repeat' split
  case h_1 h => exact (returnRequest_pending h).trans rfl
  all_goals simp

@[simp] theorem takeCleared_pending (n : Nat) (p : List Byte) : (takeCleared n p s).pending = s.pending := by
  unfold takeCleared; repeat' split
  all_goals simp

@[simp] theorem takeLate_pending (n : Nat) (p : List Byte) : (takeLate n p s).pending = s.pending := by
  unfold takeLate; repeat' split
  all_goals simp

@[simp] theorem takeWithdraw_pending (n : Nat) (p : List Byte) : (takeWithdraw n p s).pending = s.pending := by
  unfold takeWithdraw; repeat' split
  all_goals simp

@[simp] theorem replyLate_pending (n : Nat) (p : List Byte) : (replyLate n p s).pending = s.pending := rfl

@[simp] theorem owe_pending (t : Tag) (f : OwedFrame) : (owe t f s).pending = s.pending := rfl

@[simp] theorem releaseEntry_pending (e : CustodyEntry) : (releaseEntry e s).pending = s.pending := by
  simp [releaseEntry]

@[simp] theorem takeTaken_pending (n : Nat) (p : List Byte) : (takeTaken n p s).pending = s.pending := by
  unfold takeTaken; repeat' split
  all_goals simp

@[simp] theorem refuseEntry_pending (e : CustodyEntry) (r : RefuseReason) :
    (refuseEntry e r s).pending = s.pending := by unfold refuseEntry; dsimp only; split <;> simp

@[simp] theorem takeRefuse_pending (n : Nat) (p : List Byte) : (takeRefuse n p s).pending = s.pending := by
  unfold takeRefuse; repeat' split
  all_goals simp

@[simp] theorem handoverOver_pending (t : Tag) : (handoverOver t s).pending = s.pending := by
  unfold handoverOver; dsimp only; repeat' split
  all_goals simp

@[simp] theorem lapseOver_pending (t : Tag) : (lapseOver t s).pending = s.pending := by
  unfold lapseOver; repeat' split
  all_goals simp

@[simp] theorem confirmOver_pending (t : Tag) : (confirmOver t s).pending = s.pending := by
  unfold confirmOver; repeat' split
  all_goals simp

@[simp] theorem returnKept_pending (t : Tag) : (returnKept t s).pending = s.pending := by
  unfold returnKept
  repeat' split
  case h_1 sl _ =>
    cases h : returnRequest sl.number t s with
    | none => rfl
    | some v => exact returnRequest_pending h
  all_goals rfl

@[simp] theorem resolveWith_pending (args : List Byte) : (resolveWith args s).pending = s.pending := by
  unfold resolveWith; dsimp only; repeat' split
  all_goals simp

/-! ### Slot scan -/

@[simp] theorem removeCartridge_pending (sl : Slot) : (removeCartridge sl s).pending = s.pending := by
  unfold removeCartridge; split <;> simp

@[simp] theorem removal_pending (sl : Slot) : (removal sl s).pending = s.pending := by unfold removal; split <;> simp

@[simp] theorem seatSlot_pending (sl : Slot) (h : Nat) (q : Bool) : (seatSlot sl h q s).pending = s.pending := rfl

@[simp] theorem seat_pending (sl : Slot) : (seat sl s).pending = s.pending := by
  unfold seat; dsimp only; repeat' split
  all_goals simp

@[simp] theorem returnEvacuee_pending (sl : Slot) : (returnEvacuee sl s).pending = s.pending := rfl

@[simp] theorem strayPresence_pending (p : PriorState) (sl : Slot) : (strayPresence p sl s).pending = s.pending := by
  simp [strayPresence]

@[simp] theorem presence_pending (sl : Slot) : (presence sl s).pending = s.pending := by
  unfold presence; split <;> simp

@[simp] theorem sampleSlot_pending (n : Nat) (b : Bool) : (sampleSlot n b s).pending = s.pending := by
  unfold sampleSlot; dsimp only; repeat' split
  all_goals simp

@[simp] theorem sampleLine_pending (d : Nat) (x : Sense) : (sampleLine d x s).pending = s.pending :=
  foldl_pending _ (by simp) _ s

@[simp] theorem finishInventory_pending (l : List Bool) : (finishInventory l s).pending = s.pending := by
  simp [finishInventory]

@[simp] theorem inventoryStep_pending (inv : Inventory) (x : Sense) : (inventoryStep inv x s).pending = s.pending := by
  unfold inventoryStep; dsimp only; repeat' split
  all_goals simp

@[simp] theorem slotScanStep_pending (x : Sense) : (slotScanStep x s).pending = s.pending := by
  unfold slotScanStep; dsimp only; repeat' split
  all_goals simp

@[simp] theorem pullWindowOver_pending (n : Nat) : (pullWindowOver n s).pending = s.pending := by
  unfold pullWindowOver; dsimp only; repeat' split
  all_goals simp

@[simp] theorem returnWindowOver_pending (n : Nat) : (returnWindowOver n s).pending = s.pending := by
  unfold returnWindowOver; repeat' split
  all_goals simp

@[simp] theorem clearQuarantineAt_pending (n : Nat) : (clearQuarantineAt n s).pending = s.pending := by
  unfold clearQuarantineAt; repeat' split
  all_goals simp

/-! ### Reader -/

@[simp] theorem readerNext_pending : (readerNext s).pending = s.pending := rfl

@[simp] theorem goodResponse_pending : (goodResponse s).pending = s.pending := by simp [goodResponse]

@[simp] theorem badResponse_pending : (badResponse s).pending = s.pending := by
  unfold badResponse; dsimp only; split <;> simp

@[simp] theorem requestSignal_pending (x : Signal) : (requestSignal x s).pending = s.pending := rfl

@[simp] theorem unknownTag_pending (k : TagKind) (t : Tag) : (unknownTag k t s).1.pending = s.pending := by
  simp [unknownTag]

theorem verifyFirst_pending {t : Tag} {l : List PullCandidate} {s v : State} (h : verifyFirst t l s = some v) :
    v.pending = s.pending := by
  induction l with
  | nil => cases h
  | cons c l ih =>
    unfold verifyFirst at h
    split at h
    · cases h
      simp [verifyRequest_pending ‹_›]
    · exact ih h

@[simp] theorem bayKnown_pending (t : Tag) : (bayKnown t s).1.pending = s.pending := by
  unfold bayKnown; split <;> simp

@[simp] theorem routeBayCartridge_pending (t : Tag) : (routeBayCartridge t s).1.pending = s.pending := by
  unfold routeBayCartridge; repeat' split
  all_goals simp
  exact verifyFirst_pending ‹_›

@[simp] theorem badgeAt_pending (c : Consignment) : (badgeAt c s).pending = s.pending := by
  unfold badgeAt; split <;> simp

@[simp] theorem routeDockBadge_pending (t : Tag) : (routeDockBadge t s).1.pending = s.pending := by
  unfold routeDockBadge; split <;> simp

@[simp] theorem routeDockCase_pending (t : Tag) (c : Option CaseClimate) :
    (routeDockCase t c s).1.pending = s.pending := by unfold routeDockCase; split <;> simp

@[simp] theorem receiveCartridge_pending (t : Tag) (c : Consignment) : 
    (receiveCartridge t c s).pending = s.pending := by
  unfold receiveCartridge; split <;> simp

@[simp] theorem loadEntry_pending (t : Tag) : (loadEntry t s).pending = s.pending := rfl
@[simp] theorem unloadRead_pending (t : Tag) : (unloadRead t s).pending = s.pending := rfl

@[simp] theorem dockKnown_pending (t : Tag) : (dockKnown t s).1.pending = s.pending := by
  unfold dockKnown; repeat' split
  all_goals simp

@[simp] theorem routeDockCartridge_pending (t : Tag) : (routeDockCartridge t s).1.pending = s.pending := by
  unfold routeDockCartridge; repeat' split
  all_goals simp

@[simp] theorem route_pending (k : TagKind) (t : Tag) (c : Option CaseClimate) :
    (route k t c s).1.pending = s.pending := by unfold route; split <;> simp

@[simp] theorem routeRead_pending (k : TagKind) (t : Tag) (c : Option CaseClimate) :
    (routeRead k t c s).pending = s.pending := by unfold routeRead; dsimp only; split <;> simp

@[simp] theorem goodRead_pending (b : Bool) (r : ReadStatus) : (goodRead b r s).pending = s.pending := by
  unfold goodRead; repeat' split
  all_goals simp

@[simp] theorem attentionRise_pending : (attentionRise s).pending = s.pending := rfl

@[simp] theorem readResponse_pending (l : List Byte) : (readResponse l s).pending = s.pending := by
  unfold readResponse; repeat' split
  all_goals simp

@[simp] theorem signalAnswered_pending (c : Byte) : (signalAnswered c s).pending = s.pending := by
  unfold signalAnswered; repeat' split
  all_goals simp

@[simp] theorem signalResponse_pending (c : Byte) : (signalResponse c s).pending = s.pending := by
  unfold signalResponse; split <;> simp

@[simp] theorem responseTimeout_pending : (responseTimeout s).pending = s.pending := by
  unfold responseTimeout; split <;> simp

@[simp] theorem bounceOver_pending : (bounceOver s).pending = s.pending := rfl

@[simp] theorem recoveryOver_pending : (recoveryOver s).pending = s.pending := by unfold recoveryOver; split <;> simp

@[simp] theorem readerDelayOver_pending : (readerDelayOver s).pending = s.pending := rfl

/-! ### Line -/

@[simp] theorem countDiscard_pending : (countDiscard s).pending = s.pending := by
  unfold countDiscard; dsimp only; split <;> simp

@[simp] theorem countMismatch_pending : (countMismatch s).pending = s.pending := by
  unfold countMismatch; dsimp only; split <;> simp

@[simp] theorem stationConflict_pending : (stationConflict s).pending = s.pending := by simp [stationConflict]

/-- A frame keeps the queue where its owner's act does. -/
theorem receive_pending (kind : Byte) (f : Frame) (act : State → State) (h : ∀ s, (act s).pending = s.pending) :
    (receive kind f act s).pending = s.pending := by
  unfold receive validFrame; dsimp only; repeat' split
  all_goals simp [h]

theorem consoleOnly_pending (f : Frame) (act : State → State) (h : ∀ s, (act s).pending = s.pending) :
    (consoleOnly f act s).pending = s.pending := by
  unfold consoleOnly; split <;> simp [h]

theorem receiveCommand_pending (code : Byte) (f : Frame) (act : List Byte → State → State)
    (h : ∀ args s, (act args s).pending = s.pending) : (receiveCommand code f act s).pending = s.pending := by
  refine receive_pending s _ _ _ fun s => consoleOnly_pending s _ _ fun s => ?_
  unfold commandAct; split <;> simp [h]

@[simp] theorem peerUpdate_pending (n : Nat) (k : UpdateKind) (p : Peer) : 
    (peerUpdate n k p s).pending = s.pending := by
  simp [peerUpdate]

@[simp] theorem takeState_pending (n : Nat) (p : List Byte) : (takeState n p s).pending = s.pending :=
  peerUpdate_pending ..

@[simp] theorem takeAlarm_pending (n : Nat) (p : List Byte) : (takeAlarm n p s).pending = s.pending :=
  peerUpdate_pending ..

@[simp] theorem staleNotice_pending : (staleNotice s).pending = s.pending := by simp [staleNotice]

@[simp] theorem raiseAges_pending : (raiseAges s).pending = s.pending :=
  (foldl_pending _ (by simp) _ _).trans rfl

@[simp] theorem takeQuery_pending (n : Nat) (p : List Byte) : (takeQuery n p s).pending = s.pending := by
  unfold takeQuery; repeat' split
  all_goals simp

@[simp] theorem failReadback_pending : (failReadback s).pending = s.pending := by unfold failReadback; split <;> simp

@[simp] theorem discardFrame_pending (c : DiscardCause) : (discardFrame c s).pending = s.pending := by
  cases c with
  | complete kind f => exact receive_pending s kind f id fun _ => rfl
  | _ => unfold discardFrame; dsimp only; split <;> simp

@[simp] theorem frameGap_pending : (frameGap s).pending = s.pending := by unfold frameGap; split <;> simp

@[simp] theorem lineStuck_pending (b : Bool) : (lineStuck b s).pending = s.pending := by
  unfold lineStuck; dsimp only; rw [failReadback_pending]; split <;> simp

@[simp] theorem lineRecovered_pending : (lineRecovered s).pending = s.pending := by
  unfold lineRecovered; split <;> simp

@[simp] theorem closeWindow_pending : (closeWindow s).pending = s.pending := by
  unfold closeWindow; dsimp only; split <;> simp

@[simp] theorem statusOver_pending : (statusOver s).pending = s.pending := by simp [statusOver]

@[simp] theorem conflictOver_pending : (conflictOver s).pending = s.pending := by unfold conflictOver; split <;> simp

/-! ### Transmitter -/

@[simp] theorem takeOwed_pending (f : OwedFrame) (e : CustodyEntry) : (takeOwed f e s).pending = s.pending := by
  unfold takeOwed; split <;> simp

@[simp] theorem takeHandover_pending : (takeHandover s).pending = s.pending := by
  unfold takeHandover; repeat' split
  all_goals simp

@[simp] theorem takeAnswer_pending : (takeAnswer s).pending = s.pending := by unfold takeAnswer; split <;> simp

@[simp] theorem takeReport_pending : (takeReport s).pending = s.pending := by unfold takeReport; split <;> simp

@[simp] theorem takeClass_pending (c : TxClass) : (takeClass c s).pending = s.pending := by
  unfold takeClass; repeat' split
  all_goals simp [takeAlarmSlot, takeStateSlot]

@[simp] theorem transmitStart_pending (n : Nat) : (transmitStart n s).pending = s.pending := by
  unfold transmitStart; repeat' split
  all_goals simp

@[simp] theorem frameSent_pending : (frameSent s).pending = s.pending := by unfold frameSent; split <;> simp

/-! ### Start, RESTART, contacts -/

@[simp] theorem startStation_pending (l : List Byte) (a : Bool) (c : CircuitCheck) :
    (startStation l a c s).pending = s.pending := by simp [startStation, startBlocks, applyImage]

@[simp] theorem restartBlocks_pending : (restartBlocks s).pending = s.pending :=
  (foldl_pending _ (by simp) _ _).trans rfl

@[simp] theorem takeRestart_pending : (takeRestart s).pending = s.pending := by
  unfold takeRestart; dsimp only; rw [queueReports_pending]; split <;> simp

@[simp] theorem restartCommand_pending : (restartCommand s).pending = s.pending := by
  unfold restartCommand; split <;> simp

@[simp] theorem doorSettled_pending (b : Bool) : (doorSettled b s).pending = s.pending := by
  unfold doorSettled; dsimp only; split <;> simp [doorForced]

@[simp] theorem mainsFailed_pending : (mainsFailed s).pending = s.pending := by simp [mainsFailed]

@[simp] theorem mainsNormal_pending : (mainsNormal s).pending = s.pending := by unfold mainsNormal; split <;> simp

@[simp] theorem mainsSettled_pending (b : Bool) : (mainsSettled b s).pending = s.pending := by
  unfold mainsSettled; split <;> simp

@[simp] theorem mainsCleared_pending : (mainsCleared s).pending = s.pending := by unfold mainsCleared; split <;> simp

/-- An event of the mains-fail contact that keeps the queue keeps it when it runs. -/
theorem runMains_pending (effect : State → State) (h : (effect s).pending = s.pending) :
    ∃ t, runMains effect s = .next t ∧ t.pending = s.pending :=
  ⟨_, rfl, by split <;> [exact h; rfl]⟩

theorem execConfigImageRead_pending (image : List Byte) (a : Bool) (c : CircuitCheck) :
    ∃ t, execConfigImageRead image a c s = .next t ∧ t.pending = s.pending :=
  ⟨_, rfl, by split <;> simp⟩

/-- The event of MINUTE_TIMER_EXPIRY (R160, R161). -/
def minuteOver (s : State) : State :=
  if s.hold.paused then { s with hold := { s.hold with seconds := 0 } } else countHoldsDown s

theorem exec_minuteTimerExpiry : exec .minuteTimerExpiry s = runEvent minuteOver s := rfl

@[simp] theorem minuteOver_pending : (minuteOver s).pending = s.pending := by unfold minuteOver; split <;> simp

/-! ### The commands -/

/-- Every command answers a next state with the queue as it was: each is one event whose effect keeps the queue. -/
theorem exec_pending (c : Instr) : ∃ t, exec c s = .next t ∧ t.pending = s.pending :=
  match c with
  | .powerOn .. => ⟨_, rfl, rfl⟩
  | .resetPin .. => ⟨_, rfl, rfl⟩
  | .configImageRead .. => execConfigImageRead_pending ..
  | .uptimeMinute => runEvent_pending _ s rfl
  | .fireReset .. => runEvent_pending _ s (receiveCommand_pending s _ _ _ fun _ s => fireReset_pending s)
  | .silence .. => runEvent_pending _ s (receiveCommand_pending s _ _ _ fun _ s => silenceCommand_pending s)
  | .testStart .. => runEvent_pending _ s (receiveCommand_pending s _ _ _ fun _ s => testStart_pending s)
  | .testEnd .. => runEvent_pending _ s (receiveCommand_pending s _ _ _ fun _ s => testEnd_pending s)
  | .isolateOn .. => runEvent_pending _ s (receiveCommand_pending s _ _ _ fun _ s => isolateOn_pending s)
  | .isolateOff .. => runEvent_pending _ s (receiveCommand_pending s _ _ _ fun _ s => isolateOff_pending s)
  | .clearQuarantine .. =>
    runEvent_pending _ s (receiveCommand_pending s _ _ _ fun _ s => clearQuarantineAt_pending s _)
  | .resolve .. => runEvent_pending _ s (receiveCommand_pending s _ _ _ fun l s => resolveWith_pending s l)
  | .restart .. => runEvent_pending _ s (receiveCommand_pending s _ _ _ fun _ s => restartCommand_pending s)
  | .commandInvalid .. =>
    runEvent_pending _ s
      (receive_pending s _ _ _ fun s => consoleOnly_pending s _ _ fun s => refuseCommand_pending s ..)
  | .stateFrame .. => runEvent_pending _ s (receive_pending s _ _ _ fun s => takeState_pending s ..)
  | .alarmFrame .. => runEvent_pending _ s (receive_pending s _ _ _ fun s => takeAlarm_pending s ..)
  | .consign .. =>
    runEvent_pending _ s (receive_pending s _ _ _ fun s => consoleOnly_pending s _ _ fun s => takeConsign_pending s ..)
  | .entry .. =>
    runEvent_pending _ s (receive_pending s _ _ _ fun s => consoleOnly_pending s _ _ fun s => takeEntry_pending s ..)
  | .cancel .. =>
    runEvent_pending _ s (receive_pending s _ _ _ fun s => consoleOnly_pending s _ _ fun s => takeCancel_pending s ..)
  | .offer .. => runEvent_pending _ s (receive_pending s _ _ _ fun s => takeOffer_pending s ..)
  | .taken .. => runEvent_pending _ s (receive_pending s _ _ _ fun s => takeTaken_pending s ..)
  | .cleared .. => runEvent_pending _ s (receive_pending s _ _ _ fun s => takeCleared_pending s ..)
  | .withdraw .. => runEvent_pending _ s (receive_pending s _ _ _ fun s => takeWithdraw_pending s ..)
  | .late .. => runEvent_pending _ s (receive_pending s _ _ _ fun s => takeLate_pending s ..)
  | .refuse .. => runEvent_pending _ s (receive_pending s _ _ _ fun s => takeRefuse_pending s ..)
  | .query .. =>
    runEvent_pending _ s (receive_pending s _ _ _ fun s => consoleOnly_pending s _ _ fun s => takeQuery_pending s ..)
  | .discardedFrame .. => runEvent_pending _ s (discardFrame_pending ..)
  | .frameGapTimeout => runEvent_pending _ s (frameGap_pending ..)
  | .lineStuckSet .. => runEvent_pending _ s (lineStuck_pending ..)
  | .lineStuckClear => runEvent_pending _ s (lineRecovered_pending ..)
  | .transmitStart .. => runEvent_pending _ s (transmitStart_pending ..)
  | .frameSent => runEvent_pending _ s (frameSent_pending ..)
  | .readbackFailure => runEvent_pending _ s (failReadback_pending ..)
  | .statusTimerExpiry => runEvent_pending _ s (statusOver_pending ..)
  | .conflictTimerExpiry => runEvent_pending _ s (conflictOver_pending ..)
  | .scanTimerExpiry .. => runEvent_pending _ s (scanTimerOver_pending ..)
  | .inputConversionEnd .. => runEvent_pending _ s (inputConverted_pending ..)
  | .probeConversionEnd .. => runEvent_pending _ s (probeConverted_pending ..)
  | .verifyTimerExpiry .. => runEvent_pending _ s (verifyOver_pending ..)
  | .climateTimerExpiry => runEvent_pending _ s (climateTimerOver_pending ..)
  | .climateHoldTimerExpiry => runEvent_pending _ s (climateHoldOver_pending ..)
  | .excursionDelayExpiry => runEvent_pending _ s (excursionDelayOver_pending ..)
  | .stabilizationTimerExpiry => runEvent_pending _ s (stabilizationOver_pending ..)
  | .countdownExpiry => runEvent_pending _ s (countdownOver_pending ..)
  | .releasePulseExpiry => runEvent_pending _ s rfl
  | .testTimerExpiry => runEvent_pending _ s (testTimerOver_pending ..)
  | .testLatchClearExpiry .. => runEvent_pending _ s (testLatchOver_pending ..)
  | .testPulseEnd => runEvent_pending _ s rfl
  | .sounderCadenceExpiry => runEvent_pending _ s (cadenceOver_pending ..)
  | .minRunTimerExpiry => runEvent_pending _ s (minRunExpired_pending ..)
  | .minOffTimerExpiry => runEvent_pending _ s (minOffExpired_pending ..)
  | .slotScanStep .. => runEvent_pending _ s (slotScanStep_pending ..)
  | .pullWindowExpiry .. => runEvent_pending _ s (pullWindowOver_pending ..)
  | .returnWindowExpiry .. => runEvent_pending _ s (returnWindowOver_pending ..)
  | .attentionRise => runEvent_pending _ s rfl
  | .readResponse .. => runEvent_pending _ s (readResponse_pending ..)
  | .signalResponse .. => runEvent_pending _ s (signalResponse_pending ..)
  | .responseTimeout => runEvent_pending _ s (responseTimeout_pending ..)
  | .bounceTimerExpiry => runEvent_pending _ s rfl
  | .recoveryTimerExpiry => runEvent_pending _ s (recoveryOver_pending ..)
  | .readerRestartDelayExpiry => runEvent_pending _ s rfl
  | .openingTimerExpiry .. => runEvent_pending _ s (openingOver_pending ..)
  | .courierWindowExpiry .. => runEvent_pending _ s (courierOver_pending ..)
  | .deadlineTimerExpiry .. => runEvent_pending _ s (deadlineOver_pending ..)
  | .handoverTimerExpiry .. => runEvent_pending _ s (handoverOver_pending ..)
  | .lapseTimerExpiry .. => runEvent_pending _ s (lapseOver_pending ..)
  | .confirmTimerExpiry .. => runEvent_pending _ s (confirmOver_pending ..)
  | .minuteTimerExpiry => runEvent_pending minuteOver s (minuteOver_pending s)
  | .doorContactSettled .. => runEvent_pending _ s (doorSettled_pending ..)
  | .doorForcedTimerExpiry => runEvent_pending _ s rfl
  | .mainsContactSettled .. => runMains_pending s _ (mainsSettled_pending ..)
  | .mainsClearDelayExpiry => runMains_pending s _ (mainsCleared_pending s)
  | .validFrameDropped .. => runEvent_pending _ s (receive_pending s _ _ _ fun _ => rfl)

/-- The commands of the start and of the mains-fail contact, which act on a station whose blocks do not run. -/
def actsUnstarted (c : Instr) : Bool :=
  match c with
  | .powerOn .. => true
  | .resetPin .. => true
  | .configImageRead .. => true
  | .mainsContactSettled _ => true
  | .mainsClearDelayExpiry => true
  | _ => false

/-- Every other command is an event of a running station. -/
theorem exec_eq_runEvent (c : Instr) (h : actsUnstarted c = false) : ∃ effect, exec c s = runEvent effect s := by
  cases c
  case minuteTimerExpiry => exact ⟨_, exec_minuteTimerExpiry s⟩
  case powerOn | resetPin | configImageRead | mainsContactSettled | mainsClearDelayExpiry => cases h
  all_goals exact ⟨_, rfl⟩

/-- Settles O3: `exec_pending`, and `runEvent_stopped` for every command that is an event of a running station. -/
theorem everyCommandCompletesAndKeepsTheQueue : Obligations.EveryCommandCompletesAndKeepsTheQueue := by
  unfold Obligations.EveryCommandCompletesAndKeepsTheQueue
  refine ⟨fun c s => exec_pending s c, fun c s hs hstart himage hmains hclear => ?_⟩
  have h : actsUnstarted c = false := by
    cases c with
    | powerOn own role => exact absurd rfl (hstart own role).1
    | resetPin own role => exact absurd rfl (hstart own role).2
    | configImageRead image a k => exact absurd rfl (himage image a k)
    | mainsContactSettled b => exact absurd rfl (hmains b)
    | mainsClearDelayExpiry => exact absurd rfl hclear
    | _ => rfl
  obtain ⟨effect, he⟩ := exec_eq_runEvent s c h
  rw [he]
  exact runEvent_stopped effect s hs

end Sys2Proof.Machine

end

section
/-! ## What the operations of an event at the fire controller can reach -/

namespace Sys2Proof.Machine

variable (s : State)

/-! ### The comparison of R43 -/

theorem queueAlarmIfChanged_frame (a b : State) :
    queueAlarmIfChanged a b =
      { b with line := { b.line with alarmQueued := (queueAlarmIfChanged a b).line.alarmQueued } } := by
  unfold queueAlarmIfChanged; split <;> rfl

@[simp] theorem queueAlarmIfChanged_phase (a b : State) : (queueAlarmIfChanged a b).phase = b.phase :=
  (congrArg State.phase (queueAlarmIfChanged_frame a b)).trans rfl
@[simp] theorem queueAlarmIfChanged_uptime (a b : State) : (queueAlarmIfChanged a b).uptime = b.uptime :=
  (congrArg State.uptime (queueAlarmIfChanged_frame a b)).trans rfl
@[simp] theorem queueAlarmIfChanged_cfg (a b : State) : (queueAlarmIfChanged a b).cfg = b.cfg :=
  (congrArg State.cfg (queueAlarmIfChanged_frame a b)).trans rfl
@[simp] theorem queueAlarmIfChanged_sup (a b : State) : (queueAlarmIfChanged a b).sup = b.sup :=
  (congrArg State.sup (queueAlarmIfChanged_frame a b)).trans rfl
@[simp] theorem queueAlarmIfChanged_fire (a b : State) : (queueAlarmIfChanged a b).fire = b.fire :=
  (congrArg State.fire (queueAlarmIfChanged_frame a b)).trans rfl
@[simp] theorem queueAlarmIfChanged_climate (a b : State) : (queueAlarmIfChanged a b).climate = b.climate :=
  (congrArg State.climate (queueAlarmIfChanged_frame a b)).trans rfl
@[simp] theorem queueAlarmIfChanged_scanner (a b : State) : (queueAlarmIfChanged a b).scanner = b.scanner :=
  (congrArg State.scanner (queueAlarmIfChanged_frame a b)).trans rfl
@[simp] theorem queueAlarmIfChanged_reader (a b : State) : (queueAlarmIfChanged a b).reader = b.reader :=
  (congrArg State.reader (queueAlarmIfChanged_frame a b)).trans rfl
@[simp] theorem queueAlarmIfChanged_consignments (a b : State) :
    (queueAlarmIfChanged a b).consignments = b.consignments :=
  (congrArg State.consignments (queueAlarmIfChanged_frame a b)).trans rfl
@[simp] theorem queueAlarmIfChanged_custody (a b : State) : (queueAlarmIfChanged a b).custody = b.custody :=
  (congrArg State.custody (queueAlarmIfChanged_frame a b)).trans rfl
@[simp] theorem queueAlarmIfChanged_hold (a b : State) : (queueAlarmIfChanged a b).hold = b.hold :=
  (congrArg State.hold (queueAlarmIfChanged_frame a b)).trans rfl
@[simp] theorem queueAlarmIfChanged_out (a b : State) : (queueAlarmIfChanged a b).out = b.out :=
  (congrArg State.out (queueAlarmIfChanged_frame a b)).trans rfl
@[simp] theorem queueAlarmIfChanged_peers (a b : State) : (queueAlarmIfChanged a b).line.peers = b.line.peers :=
  (congrArg (fun t => t.line.peers) (queueAlarmIfChanged_frame a b)).trans rfl
@[simp] theorem queueAlarmIfChanged_reports (a b : State) : (queueAlarmIfChanged a b).line.reports = b.line.reports :=
  (congrArg (fun t => t.line.reports) (queueAlarmIfChanged_frame a b)).trans rfl
@[simp] theorem queueAlarmIfChanged_reportsLost (a b : State) :
    (queueAlarmIfChanged a b).line.reportsLost = b.line.reportsLost :=
  (congrArg (fun t => t.line.reportsLost) (queueAlarmIfChanged_frame a b)).trans rfl

/-! ### Moves of the fire state

`beyondMove s` is what no move of the fire state writes: every record, with the fire state, the countdown, the manual
flag, the release pulse and the fire episode put out of view. -/

/-- The state with what a move of the fire state writes put out of view. -/
def beyondMove (s : State) : State :=
  { s with
    fire := { s.fire with state := .normal, countdown := none, manual := false, releasePulse := none },
    climate := { s.climate with episode := openedEpisode } }

@[simp] theorem beyondMove_moveFire (f : FireState) : beyondMove (moveFire f s) = beyondMove s := rfl
@[simp] theorem beyondMove_setManual (b : Bool) : beyondMove (setManual b s) = beyondMove s := rfl
@[simp] theorem beyondMove_setCountdown (n : Nat) : beyondMove (setCountdown n s) = beyondMove s := rfl

@[simp] theorem beyondMove_startRelease : beyondMove (startRelease s) = beyondMove s := by
  unfold startRelease; split <;> rfl

@[simp] theorem beyondMove_enterPreDischarge (n : Nat) (b : Bool) :
    beyondMove (enterPreDischarge n b s) = beyondMove s := rfl

@[simp] theorem beyondMove_enterDischarged : beyondMove (enterDischarged s) = beyondMove s := by simp [enterDischarged]

@[simp] theorem beyondMove_confirmationEntry : beyondMove (confirmationEntry s) = beyondMove s := by
  unfold confirmationEntry; repeat' split
  all_goals simp

@[simp] theorem beyondMove_manualEntry : beyondMove (manualEntry s) = beyondMove s := by
  unfold manualEntry; split <;> simp

@[simp] theorem beyondMove_manualShorten : beyondMove (manualShorten s) = beyondMove s := by
  unfold manualShorten; split <;> simp

/-- Outside STABILIZING the manual rule is a move at most. -/
theorem beyondMove_manualRule (h : s.fire.state ≠ .stabilizing) : beyondMove (manualRule s) = beyondMove s := by
  unfold manualRule
  split
  case h_1 hs => exact absurd hs h
  all_goals repeat' split
  all_goals simp

@[simp] theorem beyondMove_evaluateFire : beyondMove (evaluateFire s) = beyondMove s := by
  unfold evaluateFire
  split
  case h_3 hs =>
    repeat' split
    · exact beyondMove_manualRule s (by simp [hs])
    all_goals simp
  all_goals repeat' split
  all_goals simp

section
variable {s} {t : State} (h : beyondMove t = beyondMove s)
include h

theorem sup_of_beyondMove : t.sup = s.sup := congrArg (fun u => u.sup) h
theorem cfg_of_beyondMove : t.cfg = s.cfg := congrArg (fun u => u.cfg) h
theorem out_of_beyondMove : t.out = s.out := congrArg (fun u => u.out) h
theorem line_of_beyondMove : t.line = s.line := congrArg (fun u => u.line) h
theorem custody_of_beyondMove : t.custody = s.custody := congrArg (fun u => u.custody) h
theorem scanner_of_beyondMove : t.scanner = s.scanner := congrArg (fun u => u.scanner) h
theorem hold_of_beyondMove : t.hold = s.hold := congrArg (fun u => u.hold) h
theorem latches_of_beyondMove : t.fire.latches = s.fire.latches := congrArg (fun u => u.fire.latches) h
theorem ownAbort_of_beyondMove : t.fire.ownAbort = s.fire.ownAbort := congrArg (fun u => u.fire.ownAbort) h
theorem isolated_of_beyondMove : t.fire.isolated = s.fire.isolated := congrArg (fun u => u.fire.isolated) h
theorem silence_of_beyondMove : t.fire.silence = s.fire.silence := congrArg (fun u => u.fire.silence) h
theorem stabTimer_of_beyondMove : t.fire.stabTimer = s.fire.stabTimer := congrArg (fun u => u.fire.stabTimer) h
theorem testTimer_of_beyondMove : t.fire.testTimer = s.fire.testTimer := congrArg (fun u => u.fire.testTimer) h
theorem testPulse_of_beyondMove : t.fire.testPulse = s.fire.testPulse := congrArg (fun u => u.fire.testPulse) h

end

@[simp] theorem evaluateFire_sup : (evaluateFire s).sup = s.sup := sup_of_beyondMove (beyondMove_evaluateFire s)
@[simp] theorem evaluateFire_cfg : (evaluateFire s).cfg = s.cfg := cfg_of_beyondMove (beyondMove_evaluateFire s)
@[simp] theorem evaluateFire_out : (evaluateFire s).out = s.out := out_of_beyondMove (beyondMove_evaluateFire s)
@[simp] theorem evaluateFire_line : (evaluateFire s).line = s.line := line_of_beyondMove (beyondMove_evaluateFire s)
@[simp] theorem evaluateFire_custody : (evaluateFire s).custody = s.custody :=
  custody_of_beyondMove (beyondMove_evaluateFire s)
@[simp] theorem evaluateFire_scanner : (evaluateFire s).scanner = s.scanner :=
  scanner_of_beyondMove (beyondMove_evaluateFire s)
@[simp] theorem evaluateFire_hold : (evaluateFire s).hold = s.hold := hold_of_beyondMove (beyondMove_evaluateFire s)
@[simp] theorem evaluateFire_latches : (evaluateFire s).fire.latches = s.fire.latches :=
  latches_of_beyondMove (beyondMove_evaluateFire s)
@[simp] theorem evaluateFire_ownAbort : (evaluateFire s).fire.ownAbort = s.fire.ownAbort :=
  ownAbort_of_beyondMove (beyondMove_evaluateFire s)
@[simp] theorem evaluateFire_isolated : (evaluateFire s).fire.isolated = s.fire.isolated :=
  isolated_of_beyondMove (beyondMove_evaluateFire s)
@[simp] theorem evaluateFire_silence : (evaluateFire s).fire.silence = s.fire.silence :=
  silence_of_beyondMove (beyondMove_evaluateFire s)
@[simp] theorem evaluateFire_stabTimer : (evaluateFire s).fire.stabTimer = s.fire.stabTimer :=
  stabTimer_of_beyondMove (beyondMove_evaluateFire s)
@[simp] theorem evaluateFire_testTimer : (evaluateFire s).fire.testTimer = s.fire.testTimer :=
  testTimer_of_beyondMove (beyondMove_evaluateFire s)
@[simp] theorem evaluateFire_testPulse : (evaluateFire s).fire.testPulse = s.fire.testPulse :=
  testPulse_of_beyondMove (beyondMove_evaluateFire s)

/-! ### The evaluation from NORMAL (R24, R26, R27) -/

/-- The state that an evaluation in NORMAL ends in. -/
theorem evaluateFire_state_of_normal (h : s.fire.state = .normal) :
    (evaluateFire s).fire.state = evaluatedFromNormal s := by
  unfold evaluateFire evaluatedFromNormal confirmationEntry
  simp only [h]
  repeat' split
  all_goals simp_all [enterPreDischarge]

/-- The own alarm count rests on the input types and the latches. -/
theorem ownAlarmCount_congr {s t : State} (hcfg : t.cfg = s.cfg) (hlatches : t.fire.latches = s.fire.latches) :
    ownAlarmCount t = ownAlarmCount s := by
  have h : countsAsAlarm t = countsAsAlarm s := by
    funext i; simp only [countsAsAlarm, inputType, latchOf, hcfg, hlatches]
  rw [ownAlarmCount, ownAlarmCount, h]

/-- The conditions of an evaluation rest on the configured values, the latches, the own aborts, isolation and the
peers. -/
theorem evaluatedFromNormal_congr {s t : State} (hcfg : t.cfg = s.cfg) (hlatches : t.fire.latches = s.fire.latches)
    (habort : t.fire.ownAbort = s.fire.ownAbort) (hisolated : t.fire.isolated = s.fire.isolated)
    (hpeers : t.line.peers = s.line.peers) : evaluatedFromNormal t = evaluatedFromNormal s := by
  have hsame : sameSpacePeers t = sameSpacePeers s := by rw [sameSpacePeers, sameSpacePeers, hcfg, hpeers]
  have hcount : spaceAlarmCount t = spaceAlarmCount s := by
    rw [spaceAlarmCount, spaceAlarmCount, hsame, ownAlarmCount_congr hcfg hlatches]
  have hconfirm : confirmationCondition t = confirmationCondition s := by
    rw [confirmationCondition, confirmationCondition, countingPeers, countingPeers, hcount, hsame]
  have halert : alertCondition t = alertCondition s := by rw [alertCondition, alertCondition, hcount, hsame]
  have harmed : armed t = armed s := by rw [armed, armed, hcfg, hisolated]
  have habort' : abortActive t = abortActive s := by
    rw [abortActive, abortActive, ownAbortActive, ownAbortActive, habort, hsame]
  rw [evaluatedFromNormal, evaluatedFromNormal, hconfirm, halert, harmed, habort']

/-! ### The end of an event (R42) -/

/-- The state with what the end of an event at the fire controller writes put out of view: the silence level and the
cadence, the allotter, the custody list, the hold unit, the slot records and the queues of STATE and of reports. -/
def beyondSettling (s : State) : State :=
  { s with
    fire := { s.fire with silence := none, cadence := none }, allot := State.reset.allot,
    scanner := { s.scanner with slots := [] }, custody := State.reset.custody, hold := State.reset.hold,
    line := { s.line with stateQueued := false, reports := [], reportsLost := false, droppedSinceTake := false } }

@[simp] theorem beyondSettling_queueReport (r : Report) : beyondSettling (queueReport r s) = beyondSettling s := by
  unfold queueReport pushReport; repeat' split
  all_goals rfl

@[simp] theorem beyondSettling_queueReports (rs : List Report) :
    beyondSettling (queueReports rs s) = beyondSettling s := by
  induction rs generalizing s with
  | nil => rfl
  | cons r rs ih => exact (ih (queueReport r s)).trans (beyondSettling_queueReport s r)

@[simp] theorem beyondSettling_startDehumidifier : beyondSettling (startDehumidifier s) = beyondSettling s := rfl
@[simp] theorem beyondSettling_stopDehumidifier : beyondSettling (stopDehumidifier s) = beyondSettling s := rfl

@[simp] theorem beyondSettling_evaluateGrant : beyondSettling (evaluateGrant s) = beyondSettling s := by
  unfold evaluateGrant; split <;> simp

theorem beyondSettling_beginForcing : beyondSettling (beginForcing s) = beyondSettling s := by
  unfold beginForcing; dsimp only; split <;> rfl

theorem beyondSettling_endForcing : beyondSettling (endForcing s) = beyondSettling s :=
  beyondSettling_evaluateGrant _

@[simp] theorem beyondSettling_reevaluateForced : beyondSettling (reevaluateForced s) = beyondSettling s := by
  unfold reevaluateForced; repeat' split
  · exact beyondSettling_beginForcing s
  · exact beyondSettling_endForcing s
  · rfl

@[simp] theorem beyondSettling_countHoldsDown : beyondSettling (countHoldsDown s) = beyondSettling s :=
  beyondSettling_queueReports _ _

@[simp] theorem beyondSettling_judgePause : beyondSettling (judgePause s) = beyondSettling s := by
  unfold judgePause; dsimp only; split
  · exact beyondSettling_countHoldsDown _
  · rfl

@[simp] theorem beyondSettling_custodyAfterMove : beyondSettling (custodyAfterMove s) = beyondSettling s := by
  unfold custodyAfterMove; repeat' split
  all_goals rfl

@[simp] theorem beyondSettling_sounderAfterMove : beyondSettling (sounderAfterMove s) = beyondSettling s := rfl

@[simp] theorem beyondSettling_settleFire (before : FireRecord) :
    beyondSettling (settleFire before s) = beyondSettling s := by
  unfold settleFire; repeat' split
  all_goals simp

section
variable {s} {t : State} (h : beyondSettling t = beyondSettling s)
include h

theorem sup_of_beyondSettling : t.sup = s.sup := congrArg (fun u => u.sup) h
theorem cfg_of_beyondSettling : t.cfg = s.cfg := congrArg (fun u => u.cfg) h
theorem out_of_beyondSettling : t.out = s.out := congrArg (fun u => u.out) h
theorem climate_of_beyondSettling : t.climate = s.climate := congrArg (fun u => u.climate) h
theorem peers_of_beyondSettling : t.line.peers = s.line.peers := congrArg (fun u => u.line.peers) h
theorem fireState_of_beyondSettling : t.fire.state = s.fire.state := congrArg (fun u => u.fire.state) h
theorem latches_of_beyondSettling : t.fire.latches = s.fire.latches := congrArg (fun u => u.fire.latches) h
theorem ownAbort_of_beyondSettling : t.fire.ownAbort = s.fire.ownAbort := congrArg (fun u => u.fire.ownAbort) h
theorem countdown_of_beyondSettling : t.fire.countdown = s.fire.countdown := congrArg (fun u => u.fire.countdown) h
theorem manual_of_beyondSettling : t.fire.manual = s.fire.manual := congrArg (fun u => u.fire.manual) h
theorem isolated_of_beyondSettling : t.fire.isolated = s.fire.isolated := congrArg (fun u => u.fire.isolated) h
theorem stabTimer_of_beyondSettling : t.fire.stabTimer = s.fire.stabTimer := congrArg (fun u => u.fire.stabTimer) h
theorem releasePulse_of_beyondSettling : t.fire.releasePulse = s.fire.releasePulse :=
  congrArg (fun u => u.fire.releasePulse) h
theorem testTimer_of_beyondSettling : t.fire.testTimer = s.fire.testTimer := congrArg (fun u => u.fire.testTimer) h
theorem testPulse_of_beyondSettling : t.fire.testPulse = s.fire.testPulse := congrArg (fun u => u.fire.testPulse) h

end

@[simp] theorem settleFire_sup (before : FireRecord) : (settleFire before s).sup = s.sup :=
  sup_of_beyondSettling (beyondSettling_settleFire s before)
@[simp] theorem settleFire_cfg (before : FireRecord) : (settleFire before s).cfg = s.cfg :=
  cfg_of_beyondSettling (beyondSettling_settleFire s before)
@[simp] theorem settleFire_out (before : FireRecord) : (settleFire before s).out = s.out :=
  out_of_beyondSettling (beyondSettling_settleFire s before)
@[simp] theorem settleFire_climate (before : FireRecord) : (settleFire before s).climate = s.climate :=
  climate_of_beyondSettling (beyondSettling_settleFire s before)
@[simp] theorem settleFire_peers (before : FireRecord) : (settleFire before s).line.peers = s.line.peers :=
  peers_of_beyondSettling (beyondSettling_settleFire s before)
@[simp] theorem settleFire_fireState (before : FireRecord) : (settleFire before s).fire.state = s.fire.state :=
  fireState_of_beyondSettling (beyondSettling_settleFire s before)
@[simp] theorem settleFire_latches (before : FireRecord) : (settleFire before s).fire.latches = s.fire.latches :=
  latches_of_beyondSettling (beyondSettling_settleFire s before)
@[simp] theorem settleFire_ownAbort (before : FireRecord) : (settleFire before s).fire.ownAbort = s.fire.ownAbort :=
  ownAbort_of_beyondSettling (beyondSettling_settleFire s before)
@[simp] theorem settleFire_countdown (before : FireRecord) : (settleFire before s).fire.countdown = s.fire.countdown :=
  countdown_of_beyondSettling (beyondSettling_settleFire s before)
@[simp] theorem settleFire_manual (before : FireRecord) : (settleFire before s).fire.manual = s.fire.manual :=
  manual_of_beyondSettling (beyondSettling_settleFire s before)
@[simp] theorem settleFire_isolated (before : FireRecord) : (settleFire before s).fire.isolated = s.fire.isolated :=
  isolated_of_beyondSettling (beyondSettling_settleFire s before)
@[simp] theorem settleFire_stabTimer (before : FireRecord) : (settleFire before s).fire.stabTimer = s.fire.stabTimer :=
  stabTimer_of_beyondSettling (beyondSettling_settleFire s before)
@[simp] theorem settleFire_releasePulse (before : FireRecord) :
    (settleFire before s).fire.releasePulse = s.fire.releasePulse :=
  releasePulse_of_beyondSettling (beyondSettling_settleFire s before)
@[simp] theorem settleFire_testTimer (before : FireRecord) : (settleFire before s).fire.testTimer = s.fire.testTimer :=
  testTimer_of_beyondSettling (beyondSettling_settleFire s before)
@[simp] theorem settleFire_testPulse (before : FireRecord) : (settleFire before s).fire.testPulse = s.fire.testPulse :=
  testPulse_of_beyondSettling (beyondSettling_settleFire s before)

/-! ### The handover engine at the end of an event -/

@[simp] theorem queueReports_custody (rs : List Report) : (queueReports rs s).custody = s.custody := by
  rw [queueReports_frame]

@[simp] theorem judgePause_custody : (judgePause s).custody = s.custody := by
  unfold judgePause countHoldsDown; dsimp only; split <;> simp

@[simp] theorem reevaluateForced_custody : (reevaluateForced s).custody = s.custody := by
  unfold reevaluateForced beginForcing endForcing evaluateGrant startDehumidifier stopDehumidifier; dsimp only
  repeat' split
  all_goals rfl

@[simp] theorem reevaluateForced_fire : (reevaluateForced s).fire = s.fire := by
  unfold reevaluateForced beginForcing endForcing evaluateGrant startDehumidifier stopDehumidifier; dsimp only
  repeat' split
  all_goals rfl

theorem blocksHandover_iff (f : FireState) :
    f.blocksHandover = true ↔ f = .preDischarge ∨ f = .held ∨ f = .discharged := by
  cases f <;> simp [FireState.blocksHandover]

/-- A reply enters the list but not a second time and not beyond 24 (R132). -/
theorem pushReply_eq (rs : List Reply) (r : Reply) :
    pushReply rs r = if r ∈ rs ∨ 24 ≤ rs.length then rs else rs ++ [r] :=
  if_congr (by rw [Bool.or_eq_true, decide_eq_true_eq, List.contains_iff_mem]; rfl) rfl rfl

/-- The handover engine follows the move from the event's beginning to its end (R42, R140, R143). -/
theorem settleFire_custody (before : FireRecord) :
    (settleFire before s).custody = custodyMoved before.state s.fire.state s.custody := by
  unfold settleFire custodyMoved
  by_cases h : s.fire.state = before.state
  · rw [if_pos h, if_pos h]
    split <;> rfl
  · rw [if_neg h, if_neg h, judgePause_custody]
    simp only [custodyAfterMove, reevaluateForced_fire, blocksHandover_iff, sounderAfterMove]
    split
    · simp only [custodyFireStart, reevaluateForced_custody, ← pushReply_eq]
      rfl
    · split
      · simp only [custodyFireEnd, reevaluateForced_custody]
        rfl
      · exact reevaluateForced_custody _

end Sys2Proof.Machine
end

section
/-! ## Single records, the re-verification notice, and the frame of an event -/

namespace Sys2Proof.Machine

variable (s : State)

/-! ### Records of the inputs and latches -/

theorem inputRecord_setInput (i j : InputNo) (r : InputRecord) (h : s.sup.inputs.length = 6) :
    inputRecord j (setInput i r s) = if j = i then r else inputRecord j s := by
  unfold inputRecord
  rw [setInput_sup]
  by_cases e : j = i
  · subst e
    have hj : j.val < s.sup.inputs.length := by omega
    simp [List.getD_eq_getElem?_getD, List.getElem?_set_self hj]
  · have hv : i.val ≠ j.val := fun k => e (Fin.ext k.symm)
    simp [List.getD_eq_getElem?_getD, List.getElem?_set_ne hv, e]

theorem latchOf_setLatch (i j : InputNo) (l : Latch) (h : s.fire.latches.length = 6) :
    latchOf j (setLatch i l s) = if j = i then l else latchOf j s := by
  unfold latchOf
  rw [setLatch_fire]
  by_cases e : j = i
  · subst e
    have hj : j.val < s.fire.latches.length := by omega
    simp [List.getD_eq_getElem?_getD, List.getElem?_set_self hj]
  · have hv : i.val ≠ j.val := fun k => e (Fin.ext k.symm)
    simp [List.getD_eq_getElem?_getD, List.getElem?_set_ne hv, e]

theorem inputRecord_congr {s t : State} (i : InputNo) (h : t.sup.inputs = s.sup.inputs) :
    inputRecord i t = inputRecord i s := by rw [inputRecord, inputRecord, h]

theorem latchOf_congr {s t : State} (i : InputNo) (h : t.fire.latches = s.fire.latches) :
    latchOf i t = latchOf i s := by rw [latchOf, latchOf, h]

theorem inputType_congr {s t : State} (i : InputNo) (h : t.cfg = s.cfg) : inputType i t = inputType i s := by
  rw [inputType, inputType, h]

/-! ### The re-verification notice (R11) -/

/-- The record after a notice rests on the record and the configured values. -/
theorem noticedRecord_congr {s t : State} (i : InputNo) (hi : inputRecord i t = inputRecord i s) (hc : t.cfg = s.cfg) :
    noticedRecord i t = noticedRecord i s := by
  simp only [noticedRecord, reverified, noticeVerification, hi, hc, inputType_congr i hc]

theorem noticedRecord_eq (i : InputNo) :
    noticedRecord i s =
      (if inputType i s = .abort then inputRecord i s
       else match (inputRecord i s).stage with
        | .latched =>
          if (inputRecord i s).settled = .alarm then
            { settled := .unsettled, candidate := none,
              stage := .verifying (if inputType i s = .detector ∧ s.cfg.verifyTime ≠ 0 then .timer s.cfg.verifyTime
                else .count 0) }
          else { inputRecord i s with stage := .ready }
        | .verifying (.timer _) => { inputRecord i s with stage := .verifying (.timer s.cfg.verifyTime) }
        | .verifying (.count _) => { inputRecord i s with stage := .verifying (.count 0) }
        | .ready => inputRecord i s
        | .withheld => inputRecord i s) := by
  unfold noticedRecord
  refine if_congr Iff.rfl rfl ?_
  split
  case h_2 v _ => cases v <;> simp_all [restartVerification]
  all_goals simp_all [reverified, noticeVerification]

/-- Several input records written one after another, each from the state it finds. -/
def writeInputs (g : InputNo → State → InputRecord) (is : List InputNo) (s : State) : State :=
  is.foldl (fun s i => setInput i (g i s) s) s

theorem writeInputs_frame (g : InputNo → State → InputRecord) (is : List InputNo) :
    writeInputs g is s = { s with sup := { s.sup with inputs := (writeInputs g is s).sup.inputs } } := by
  induction is generalizing s with
  | nil => rfl
  | cons i is ih => exact ih (setInput i (g i s) s)

/-- Where each new record rests on the old one and the configured values, distinct inputs get their own, and the others
stay. -/
theorem inputRecord_writeInputs {g : InputNo → State → InputRecord}
    (hg : ∀ i s t, inputRecord i t = inputRecord i s → t.cfg = s.cfg → g i t = g i s) (is : List InputNo)
    (hd : is.Nodup) (h : s.sup.inputs.length = 6) (j : InputNo) :
    inputRecord j (writeInputs g is s) = if j ∈ is then g j s else inputRecord j s := by
  induction is generalizing s with
  | nil => rfl
  | cons i is ih =>
    obtain ⟨hi, hd⟩ := List.nodup_cons.1 hd
    have first : inputRecord j (setInput i (g i s) s) = if j = i then g i s else inputRecord j s :=
      inputRecord_setInput s i j _ h
    have rest := ih (setInput i (g i s) s) hd (by simp [h])
    rw [show writeInputs g (i :: is) s = writeInputs g is (setInput i (g i s) s) from rfl, rest]
    by_cases e : j = i
    · subst e
      simp [hi, first]
    · rw [if_neg e] at first
      simp [e, first, hg j s _ first rfl]

theorem reverifyAll_frame (is : List InputNo) :
    reverifyAll is s = { s with sup := { s.sup with inputs := (reverifyAll is s).sup.inputs } } :=
  writeInputs_frame s noticedRecord is

@[simp] theorem reverifyAll_cfg (is : List InputNo) : (reverifyAll is s).cfg = s.cfg := by rw [reverifyAll_frame]
@[simp] theorem reverifyAll_fire (is : List InputNo) : (reverifyAll is s).fire = s.fire := by rw [reverifyAll_frame]
@[simp] theorem reverifyAll_climate (is : List InputNo) : (reverifyAll is s).climate = s.climate := by
  rw [reverifyAll_frame]
@[simp] theorem reverifyAll_scanner (is : List InputNo) : (reverifyAll is s).scanner = s.scanner := by
  rw [reverifyAll_frame]
@[simp] theorem reverifyAll_custody (is : List InputNo) : (reverifyAll is s).custody = s.custody := by
  rw [reverifyAll_frame]
@[simp] theorem reverifyAll_hold (is : List InputNo) : (reverifyAll is s).hold = s.hold := by rw [reverifyAll_frame]
@[simp] theorem reverifyAll_line (is : List InputNo) : (reverifyAll is s).line = s.line := by rw [reverifyAll_frame]
@[simp] theorem reverifyAll_out (is : List InputNo) : (reverifyAll is s).out = s.out := by rw [reverifyAll_frame]

/-- A notice to distinct inputs gives each of them its own, and leaves the others. -/
theorem inputRecord_reverifyAll (is : List InputNo) (hd : is.Nodup) (h : s.sup.inputs.length = 6) (j : InputNo) :
    inputRecord j (reverifyAll is s) = if j ∈ is then noticedRecord j s else inputRecord j s :=
  inputRecord_writeInputs s (fun _ _ _ => noticedRecord_congr _) is hd h j

theorem allInputs_nodup : allInputs.Nodup := by decide

theorem mem_allInputs (i : InputNo) : i ∈ allInputs := by revert i; decide

/-! ### What no event at the inputs or the fire controller reaches -/

/-- The state with all that an event at the inputs or the fire controller can write put out of view: the input records,
the fire record but for isolation, the fire episode, the allotter, the slot records, the custody list, the hold unit,
the line's own queues and the values of the troubles. -/
def beyondEvent (s : State) : State :=
  { s with
    sup := { s.sup with inputs := [] }, fire := { State.reset.fire with isolated := s.fire.isolated },
    climate := { s.climate with episode := openedEpisode }, allot := State.reset.allot,
    scanner := { s.scanner with slots := [] }, custody := State.reset.custody, hold := State.reset.hold,
    line := { s.line with alarmQueued := false, stateQueued := false, reports := [], reportsLost := false,
                          droppedSinceTake := false },
    out := { s.out with active := 0, reported := 0 } }

theorem beyondEvent_of_beyondMove {s t : State} (h : beyondMove t = beyondMove s) : beyondEvent t = beyondEvent s :=
  show beyondEvent (beyondMove t) = beyondEvent (beyondMove s) by rw [h]

theorem beyondEvent_of_beyondSettling {s t : State} (h : beyondSettling t = beyondSettling s) :
    beyondEvent t = beyondEvent s :=
  show beyondEvent (beyondSettling t) = beyondEvent (beyondSettling s) by rw [h]

@[simp] theorem beyondEvent_evaluateFire : beyondEvent (evaluateFire s) = beyondEvent s :=
  beyondEvent_of_beyondMove (beyondMove_evaluateFire s)

@[simp] theorem beyondEvent_settleFire (before : FireRecord) : beyondEvent (settleFire before s) = beyondEvent s :=
  beyondEvent_of_beyondSettling (beyondSettling_settleFire s before)

@[simp] theorem beyondEvent_queueAlarmIfChanged (a b : State) :
    beyondEvent (queueAlarmIfChanged a b) = beyondEvent b := by
  unfold queueAlarmIfChanged; split <;> rfl

@[simp] theorem beyondEvent_moveFire (f : FireState) : beyondEvent (moveFire f s) = beyondEvent s := rfl
@[simp] theorem beyondEvent_setLatch (i : InputNo) (l : Latch) : beyondEvent (setLatch i l s) = beyondEvent s := rfl
@[simp] theorem beyondEvent_setInput (i : InputNo) (r : InputRecord) :
    beyondEvent (setInput i r s) = beyondEvent s := rfl
@[simp] theorem beyondEvent_closeEpisode : beyondEvent (closeEpisode s) = beyondEvent s := rfl
@[simp] theorem beyondEvent_applyPostFireHolds : beyondEvent (applyPostFireHolds s) = beyondEvent s := rfl
@[simp] theorem beyondEvent_clearForReset : beyondEvent (clearForReset s) = beyondEvent s := rfl

@[simp] theorem beyondEvent_reverifyAll (is : List InputNo) : beyondEvent (reverifyAll is s) = beyondEvent s := by
  rw [reverifyAll_frame]; rfl

section
variable {s} {t : State} (h : beyondEvent t = beyondEvent s)
include h

theorem cfg_of_beyondEvent : t.cfg = s.cfg := congrArg (fun u => u.cfg) h
theorem uptime_of_beyondEvent : t.uptime = s.uptime := congrArg (fun u => u.uptime) h
theorem reader_of_beyondEvent : t.reader = s.reader := congrArg (fun u => u.reader) h
theorem consignments_of_beyondEvent : t.consignments = s.consignments := congrArg (fun u => u.consignments) h
theorem isolated_of_beyondEvent : t.fire.isolated = s.fire.isolated := congrArg (fun u => u.fire.isolated) h
theorem bay_of_beyondEvent : t.climate.bay = s.climate.bay := congrArg (fun u => u.climate.bay) h
theorem climateState_of_beyondEvent : t.climate.state = s.climate.state := congrArg (fun u => u.climate.state) h
theorem peers_of_beyondEvent : t.line.peers = s.line.peers := congrArg (fun u => u.line.peers) h

theorem sup_of_beyondEvent : t.sup = { s.sup with inputs := t.sup.inputs } :=
  congrArg (fun u => { u.sup with inputs := t.sup.inputs }) h

theorem climate_of_beyondEvent : t.climate = { s.climate with episode := t.climate.episode } :=
  congrArg (fun u => { u.climate with episode := t.climate.episode }) h

theorem out_of_beyondEvent : t.out = { s.out with active := t.out.active, reported := t.out.reported } :=
  congrArg (fun u => { u.out with active := t.out.active, reported := t.out.reported }) h

/-- The records that the event reaches, the others as they were. -/
theorem eq_of_beyondEvent :
    t = { s with
          sup := t.sup, fire := t.fire, climate := t.climate, allot := t.allot, scanner := t.scanner,
          custody := t.custody, hold := t.hold, line := t.line, out := t.out } :=
  congrArg (fun u => { u with
    sup := t.sup, fire := t.fire, climate := t.climate, allot := t.allot, scanner := t.scanner,
    custody := t.custody, hold := t.hold, line := t.line, out := t.out }) h

end

/-! ### Commands of the console -/

/-- An accepted COMMAND is one event of its owner, in the state that has heard it. -/
theorem runCommand_accepted (code : Byte) (f : Frame) (act : List Byte → State → State)
    (h : AcceptedCommand code f s) :
    runEvent (receiveCommand code f act) s = .next (queueAlarmIfChanged s (act f.payload (heard f s))) := by
  rw [runEvent_running _ s h.1.1, receiveCommand_accepted code f act s h]

/-! ### The pause at the end of an event (R160, R161) -/

@[simp] theorem queueReports_hold (rs : List Report) : (queueReports rs s).hold = s.hold := by rw [queueReports_frame]
@[simp] theorem queueReports_fire (rs : List Report) : (queueReports rs s).fire = s.fire := by rw [queueReports_frame]

@[simp] theorem judgePause_fire : (judgePause s).fire = s.fire := by
  unfold judgePause countHoldsDown; dsimp only; split <;> simp

theorem judgePause_scanner :
    (judgePause s).scanner =
      if s.hold.paused = true ∧ pauseCondition s = false ∧ s.hold.seconds = 0 then
        { s.scanner with slots := s.scanner.slots.map countSlotDown }
      else s.scanner := by
  unfold judgePause countHoldsDown
  simp only [Bool.and_eq_true, Bool.not_eq_true', beq_iff_eq, and_assoc]
  split
  · simp [queueReports_scanner]
  · rfl

@[simp] theorem custodyAfterMove_fire : (custodyAfterMove s).fire = s.fire := by
  unfold custodyAfterMove; repeat' split
  all_goals rfl

/-- What the end of an event does before the pause is judged again. -/
def beforePause (s : State) : State := custodyAfterMove (reevaluateForced (sounderAfterMove s))

theorem beyondSettling_beforePause : beyondSettling (beforePause s) = beyondSettling s := by simp [beforePause]

theorem beforePause_hold : (beforePause s).hold = s.hold := by
  unfold beforePause custodyAfterMove reevaluateForced beginForcing endForcing evaluateGrant startDehumidifier
    stopDehumidifier
  dsimp only
  repeat' split
  all_goals rfl

theorem beforePause_scanner : (beforePause s).scanner = s.scanner := by
  unfold beforePause custodyAfterMove reevaluateForced beginForcing endForcing evaluateGrant startDehumidifier
    stopDehumidifier
  dsimp only
  repeat' split
  all_goals rfl

theorem pauseCondition_congr {s t : State} (hc : t.climate = s.climate) (hf : t.fire.state = s.fire.state) :
    pauseCondition t = pauseCondition s := by rw [pauseCondition, pauseCondition, hc, hf]

/-- The slots at the end of an event: a minute is taken from the holds where the pause ends and its expiry waits. -/
theorem settleFire_scanner (before : FireRecord) :
    (settleFire before s).scanner =
      if s.fire.state ≠ before.state ∧ s.hold.paused = true ∧ pauseCondition s = false ∧ s.hold.seconds = 0 then
        { s.scanner with slots := s.scanner.slots.map countSlotDown }
      else s.scanner := by
  unfold settleFire
  by_cases h : s.fire.state = before.state
  · simp only [h, if_true, ne_eq, not_true_eq_false, false_and, if_false]
    split <;> rfl
  · have hb := beyondSettling_beforePause s
    rw [if_neg h]
    change (judgePause (beforePause s)).scanner = _
    rw [judgePause_scanner, beforePause_hold, beforePause_scanner,
      pauseCondition_congr (climate_of_beyondSettling hb) (fireState_of_beyondSettling hb)]
    simp only [ne_eq, h, not_false_eq_true, true_and]

/-- With the silence level absent it stays absent. -/
theorem settleFire_silence_none (before : FireRecord) (h : s.fire.silence = none) :
    (settleFire before s).fire.silence = none := by
  unfold settleFire
  repeat' split
  all_goals simp [sounderAfterMove, h, silenceAfter]

end Sys2Proof.Machine
end

section
/-! ## FIRE_RESET and the end of TEST: events that end with the evaluation from NORMAL -/

namespace Sys2Proof.Machine

/-! ### The evaluation from NORMAL -/

theorem evaluateFire_of_normal {s : State} (h : s.fire.state = .normal) :
    evaluateFire s =
      if confirmationCondition s then confirmationEntry s else if alertCondition s then moveFire .alert s else s := by
  simp only [evaluateFire, h]

theorem evaluateFire_releasePulse_of_normal {s : State} (h : s.fire.state = .normal) :
    (evaluateFire s).fire.releasePulse = s.fire.releasePulse := by
  rw [evaluateFire_of_normal h]
  unfold confirmationEntry
  repeat' split
  all_goals rfl

theorem evaluateFire_manual_of_normal {s : State} (h : s.fire.state = .normal) (hm : s.fire.manual = false) :
    (evaluateFire s).fire.manual = false := by
  rw [evaluateFire_of_normal h]
  unfold confirmationEntry
  repeat' split
  case isFalse.isTrue => exact hm
  case isFalse.isFalse => exact hm
  all_goals rfl

/-- An evaluation from NORMAL opens the episode where it ends in a raised state (R62). -/
theorem evaluateFire_episode_of_normal {s : State} (h : s.fire.state = .normal) :
    (evaluateFire s).climate.episode =
      if (evaluatedFromNormal s).raised then openedEpisode else s.climate.episode := by
  rw [evaluateFire_of_normal h]
  unfold evaluatedFromNormal confirmationEntry
  repeat' split
  all_goals simp_all [episodeAfterMove, FireState.raised, enterPreDischarge]

/-! ### An event that ends with it -/

/-- The end of an event begun in the fire record `before` of the state `a`, which has made the records of `v` and then
evaluates from NORMAL. -/
def evaluatedEvent (a : State) (before : FireRecord) (v : State) : State :=
  queueAlarmIfChanged a (settleFire before (evaluateFire (moveFire .normal v)))

section
variable (a v : State) (before : FireRecord)

theorem beyondEvent_evaluatedEvent : beyondEvent (evaluatedEvent a before v) = beyondEvent v := by
  simp [evaluatedEvent]

@[simp] theorem evaluatedEvent_sup : (evaluatedEvent a before v).sup = v.sup := by simp [evaluatedEvent]
@[simp] theorem evaluatedEvent_out : (evaluatedEvent a before v).out = v.out := by simp [evaluatedEvent]
@[simp] theorem evaluatedEvent_cfg : (evaluatedEvent a before v).cfg = v.cfg := by simp [evaluatedEvent]
@[simp] theorem evaluatedEvent_latches : (evaluatedEvent a before v).fire.latches = v.fire.latches := by
  simp [evaluatedEvent]
@[simp] theorem evaluatedEvent_ownAbort : (evaluatedEvent a before v).fire.ownAbort = v.fire.ownAbort := by
  simp [evaluatedEvent]
@[simp] theorem evaluatedEvent_isolated : (evaluatedEvent a before v).fire.isolated = v.fire.isolated := by
  simp [evaluatedEvent]
@[simp] theorem evaluatedEvent_testTimer : (evaluatedEvent a before v).fire.testTimer = v.fire.testTimer := by
  simp [evaluatedEvent]
@[simp] theorem evaluatedEvent_testPulse : (evaluatedEvent a before v).fire.testPulse = v.fire.testPulse := by
  simp [evaluatedEvent]
@[simp] theorem evaluatedEvent_peers : (evaluatedEvent a before v).line.peers = v.line.peers := by
  simp [evaluatedEvent]

theorem evaluatedEvent_releasePulse : (evaluatedEvent a before v).fire.releasePulse = v.fire.releasePulse := by
  simp [evaluatedEvent, evaluateFire_releasePulse_of_normal]

theorem evaluatedEvent_manual (h : v.fire.manual = false) : (evaluatedEvent a before v).fire.manual = false := by
  simp [evaluatedEvent, evaluateFire_manual_of_normal, h]

theorem evaluatedEvent_silence (h : v.fire.silence = none) : (evaluatedEvent a before v).fire.silence = none := by
  simp [evaluatedEvent, settleFire_silence_none, h]

/-- The event's last state is the one that the evaluation gives, in the state it ends in. -/
theorem evaluatedEvent_state :
    (evaluatedEvent a before v).fire.state = evaluatedFromNormal (evaluatedEvent a before v) := by
  have unevaluated : evaluatedFromNormal (evaluatedEvent a before v) = evaluatedFromNormal (moveFire .normal v) :=
    evaluatedFromNormal_congr (by simp) (by simp) (by simp) (by simp) (by simp)
  rw [unevaluated]
  simp [evaluatedEvent, evaluateFire_state_of_normal]

theorem evaluatedEvent_episode :
    (evaluatedEvent a before v).climate.episode =
      if (evaluatedEvent a before v).fire.state.raised then openedEpisode
      else episodeAfterMove v.fire.state .normal v.climate.episode := by
  simp only [evaluatedEvent, queueAlarmIfChanged_climate, queueAlarmIfChanged_fire, settleFire_climate,
    settleFire_fireState]
  rw [evaluateFire_state_of_normal _ rfl, evaluateFire_episode_of_normal rfl]
  rfl

theorem evaluatedEvent_custody :
    (evaluatedEvent a before v).custody =
      custodyMoved before.state (evaluatedEvent a before v).fire.state v.custody := by
  simp [evaluatedEvent, settleFire_custody]

theorem evaluatedEvent_pauseCondition :
    pauseCondition (evaluatedEvent a before v) = pauseCondition (evaluateFire (moveFire .normal v)) :=
  pauseCondition_congr (by simp [evaluatedEvent]) (by simp [evaluatedEvent])

/-- The slots: a minute is taken from the holds where the pause ends and its expiry waits. -/
theorem evaluatedEvent_slots :
    (evaluatedEvent a before v).scanner.slots =
      if (evaluatedEvent a before v).fire.state ≠ before.state ∧ v.hold.paused = true ∧
          pauseCondition (evaluatedEvent a before v) = false ∧ v.hold.seconds = 0 then
        v.scanner.slots.map countSlotDown
      else v.scanner.slots := by
  rw [evaluatedEvent_pauseCondition]
  simp only [evaluatedEvent, queueAlarmIfChanged_scanner, queueAlarmIfChanged_fire, settleFire_scanner,
    settleFire_fireState, evaluateFire_hold, evaluateFire_scanner, moveFire_hold, moveFire_scanner]
  split <;> rfl

end

/-! ### FIRE_RESET (R36, R63, R158) -/

/-- What an accepted FIRE_RESET has made of the records when it evaluates. -/
def clearedByReset (s : State) : State :=
  let t := reverifyAll allInputs (clearForReset s)
  let t := if s.fire.state.raised then closeEpisode t else t
  if s.fire.state = .discharged then applyPostFireHolds t else t

section
variable (s : State)

theorem acceptReset_eq : acceptReset s = evaluateFire (moveFire .normal (clearedByReset s)) := rfl

@[simp] theorem clearedByReset_sup : (clearedByReset s).sup = (reverifyAll allInputs (clearForReset s)).sup := by
  unfold clearedByReset; dsimp only; repeat' split
  all_goals rfl

@[simp] theorem clearedByReset_fire :
    (clearedByReset s).fire =
      { s.fire with releasePulse := none, latches := s.fire.latches.map Latch.afterReset, manual := false,
                    silence := none } := by
  unfold clearedByReset applyPostFireHolds clearForReset; dsimp only; repeat' split
  all_goals simp

@[simp] theorem clearedByReset_out : (clearedByReset s).out = s.out := by
  unfold clearedByReset applyPostFireHolds clearForReset; dsimp only; repeat' split
  all_goals simp

@[simp] theorem clearedByReset_custody : (clearedByReset s).custody = s.custody := by
  unfold clearedByReset applyPostFireHolds clearForReset; dsimp only; repeat' split
  all_goals simp

@[simp] theorem clearedByReset_hold : (clearedByReset s).hold = s.hold := by
  unfold clearedByReset applyPostFireHolds clearForReset; dsimp only; repeat' split
  all_goals simp

theorem clearedByReset_episode :
    (clearedByReset s).climate.episode =
      if s.fire.state.raised then { s.climate.episode with status := .closed } else s.climate.episode := by
  unfold clearedByReset applyPostFireHolds clearForReset; dsimp only; repeat' split
  all_goals simp

theorem clearedByReset_slots :
    (clearedByReset s).scanner.slots =
      if s.fire.state = .discharged then
        s.scanner.slots.map (holdAfterFire
          (computeHold s.cfg (episodeHoldClimate { s.climate.episode with status := .closed })))
      else s.scanner.slots := by
  unfold clearedByReset
  by_cases h : s.fire.state = .discharged
  · simp [h, FireState.raised, applyPostFireHolds, postFireHold, clearForReset]
  · simp only [h, if_false]
    split <;> simp [clearForReset]

theorem beyondEvent_clearedByReset : beyondEvent (clearedByReset s) = beyondEvent s := by
  unfold clearedByReset; dsimp only; repeat' split
  all_goals simp

end

theorem resettable_iff (f : FireState) :
    f.resettable = true ↔ f = .normal ∨ f = .alert ∨ f = .confirmed ∨ f = .held ∨ f = .discharged := by
  cases f <;> simp [FireState.resettable]

/-- An accepted FIRE_RESET is one event that ends with the evaluation from NORMAL. -/
theorem exec_fireReset_accepted (s : State) (f : Frame) (h : AcceptedCommand codeFireReset f s)
    (hs : s.fire.state.resettable = true) :
    exec (.fireReset f) s = .next (evaluatedEvent s s.fire (clearedByReset (heard f s))) := by
  refine (runCommand_accepted s _ f _ h).trans ?_
  have reset : fireReset (heard f s) = settleFire s.fire (acceptReset (heard f s)) := if_pos hs
  rw [reset, acceptReset_eq]
  rfl

theorem afterReset_ne_fire (l : Latch) : l.afterReset ≠ .fire := by cases l <;> simp [Latch.afterReset]

/-- Without a FIRE latch there is no own alarm. -/
theorem ownAlarmCount_eq_zero {s : State} (h : ∀ l ∈ s.fire.latches, l ≠ .fire) : ownAlarmCount s = 0 := by
  have none : ∀ i, latchOf i s ≠ .fire := fun i => by
    unfold latchOf
    rw [List.getD_eq_getElem?_getD]
    cases hl : s.fire.latches[i.val]? with
    | none => simp
    | some l => exact h l (List.mem_of_getElem? hl)
  simp [ownAlarmCount, countsAsAlarm, none]

/-- The episode of a raised state at its FIRE_RESET, and of a state that is not raised at any. -/
theorem episodeAfterMove_normal (f : FireState) (e : Episode) : episodeAfterMove f .normal e = e := by
  simp [episodeAfterMove, FireState.raised]

theorem holdAfterFire_eq (h : Nat) :
    holdAfterFire h = fun sl =>
      if sl.state = .occupied ∨ sl.state = .hold then
        (if max (sl.hold.getD 0) h = 0 then { sl with state := .occupied, hold := none }
         else { sl with state := .hold, hold := some (max (sl.hold.getD 0) h) })
      else sl := rfl

/-- The record that a reset gives an input. -/
theorem inputRecord_clearedByReset (s : State) (f : Frame) (h : s.sup.inputs.length = 6) (i : InputNo) :
    inputRecord i (clearedByReset (heard f s)) = noticedRecord i s := by
  rw [inputRecord_congr i (congrArg Supervisor.inputs (clearedByReset_sup (heard f s))),
    inputRecord_reverifyAll (clearForReset (heard f s)) allInputs allInputs_nodup h i, if_pos (mem_allInputs i)]
  exact noticedRecord_congr i rfl rfl

/-- The slots after a reset in which the pause follows its conditions: `evaluatedEvent_slots` with the case in which the
reset ends in the state it began in, where the pause cannot end. -/
theorem slots_of_reset (s : State) (f : Frame) (hp : PauseFollows s) (t : State)
    (ht : t = evaluatedEvent s s.fire (clearedByReset (heard f s))) :
    t.scanner.slots =
      if s.hold.seconds = 0 ∧ s.hold.paused = true ∧ pauseCondition t = false then
        (clearedByReset (heard f s)).scanner.slots.map countSlotDown
      else (clearedByReset (heard f s)).scanner.slots := by
  have hb : beyondEvent t = beyondEvent (heard f s) := by
    rw [ht, beyondEvent_evaluatedEvent, beyondEvent_clearedByReset]
  have same : t.fire.state = s.fire.state → pauseCondition t = s.hold.paused := fun e => by
    rw [hp, pauseCondition, pauseCondition, e, climate_of_beyondEvent hb]
    rfl
  have slots := evaluatedEvent_slots s (clearedByReset (heard f s)) s.fire
  rw [← ht, clearedByReset_hold] at slots
  rw [slots]
  refine if_congr ?_ rfl rfl
  constructor
  · rintro ⟨-, h1, h2, h3⟩; exact ⟨h3, h1, h2⟩
  · rintro ⟨h3, h1, h2⟩
    exact ⟨fun e => by have := same e; simp_all, h1, h2, h3⟩

/-- Settles O28: the reset is `evaluatedEvent` after `clearedByReset`. -/
theorem acceptedFireResetClearsRecordAndSetsHolds : Obligations.AcceptedFireResetClearsRecordAndSetsHolds := by
  unfold Obligations.AcceptedFireResetClearsRecordAndSetsHolds
  refine ⟨fun s f h hsize hs => ?_, fun s f h hs hp => ?_⟩
  · obtain ⟨hinputs, -, -, -⟩ := hsize
    refine ⟨_, exec_fireReset_accepted s f h ((resettable_iff _).2 hs), ?_⟩
    generalize ht : evaluatedEvent s s.fire (clearedByReset (heard f s)) = t
    have hlatches : ∀ l ∈ t.fire.latches, l ≠ .fire := by
      rw [← ht]
      simp [afterReset_ne_fire]
    have hb : beyondEvent t = beyondEvent (heard f s) := by
      rw [← ht, beyondEvent_evaluatedEvent, beyondEvent_clearedByReset]
    have hout : t.out = s.out := by rw [← ht]; simp [heard]
    have hepisode : t.climate.episode = if t.fire.state.raised then openedEpisode else
        if s.fire.state.raised then { s.climate.episode with status := .closed } else s.climate.episode := by
      rw [← ht, evaluatedEvent_episode, episodeAfterMove_normal, clearedByReset_episode]
      rfl
    refine ⟨hlatches, ownAlarmCount_eq_zero hlatches, ?_, ?_, ?_, ?_, (isolated_of_beyondEvent hb).trans rfl, ?_,
      fun i => ?_, fun hr hn => ?_, fun hr => ?_, (sup_of_beyondEvent hb).trans rfl,
      (climate_of_beyondEvent hb).trans rfl, ?_, ?_⟩
    · rw [← ht, evaluatedEvent_releasePulse, clearedByReset_fire]
    · rw [← ht, evaluatedEvent_manual]
      rw [clearedByReset_fire]
    · rw [← ht, evaluatedEvent_silence]
      rw [clearedByReset_fire]
    · rw [← ht, evaluatedEvent_ownAbort, clearedByReset_fire]
      rfl
    · rw [← ht]
      exact evaluatedEvent_state ..
    · rw [← ht, inputRecord_congr i (congrArg Supervisor.inputs (evaluatedEvent_sup ..)),
        inputRecord_clearedByReset s f hinputs]
      exact noticedRecord_eq s i
    · rw [hepisode, hn, hr]
      rfl
    · rw [hepisode, hr]
      rfl
    · exact (eq_of_beyondEvent hb).trans (by rw [hout]; rfl)
    · rw [← ht]
      simp [evaluatedEvent_custody, heard]
  · refine ⟨_, exec_fireReset_accepted s f h ((resettable_iff _).2 hs), ?_⟩
    have slots := slots_of_reset s f hp _ rfl
    rw [clearedByReset_slots, holdAfterFire_eq] at slots
    split
    case isTrue hc => rw [slots, if_pos hc]; rfl
    case isFalse hc => rw [slots, if_neg hc]; rfl

end Sys2Proof.Machine
end

section
/-! ## TEST: its beginning, its end and the clear timer of a TEST latch -/

namespace Sys2Proof.Machine

/-! ### TEST latches -/

/-- The latches of several inputs removed. -/
def clearLatches (is : List InputNo) (s : State) : State := is.foldl (fun s i => setLatch i Latch.none s) s

/-- The inputs that hold a TEST latch. -/
def testLatched (s : State) : List InputNo := allInputs.filter fun i => (latchTimer (latchOf i s)).isSome

section
variable (s : State)

theorem clearLatches_frame (is : List InputNo) :
    clearLatches is s = { s with fire := { s.fire with latches := (clearLatches is s).fire.latches } } := by
  induction is generalizing s with
  | nil => rfl
  | cons i is ih => exact ih (setLatch i Latch.none s)

theorem latchOf_clearLatches (is : List InputNo) (h : s.fire.latches.length = 6) (j : InputNo) :
    latchOf j (clearLatches is s) = if j ∈ is then .none else latchOf j s := by
  induction is generalizing s with
  | nil => rfl
  | cons i is ih =>
    rw [show clearLatches (i :: is) s = clearLatches is (setLatch i Latch.none s) from rfl, ih _ (by simp [h]),
      latchOf_setLatch s i j _ h]
    by_cases e : j = i <;> simp [e]

theorem testLatched_nodup : (testLatched s).Nodup := allInputs_nodup.filter _

theorem mem_testLatched (i : InputNo) : i ∈ testLatched s ↔ (latchTimer (latchOf i s)).isSome = true := by
  simp [testLatched, mem_allInputs]

/-! ### The end of TEST (R40) -/

/-- What the end of TEST has made of the records when it evaluates. -/
def clearedByTestEnd (s : State) : State :=
  let t := reverifyAll (testLatched s) (clearLatches (testLatched s) s)
  { t with fire := { t.fire with testTimer := none, testPulse := none } }

theorem endTest_eq : endTest s = evaluateFire (moveFire .normal (clearedByTestEnd s)) := by
  have test : (fun i => (latchTimer (latchOf i s)).isSome) =
      fun i => match latchOf i s with
        | .test _ => true
        | _ => false := by
    funext i
    cases latchOf i s <;> rfl
  unfold clearedByTestEnd testLatched
  rw [test]
  rfl

theorem clearedByTestEnd_fire :
    (clearedByTestEnd s).fire =
      { s.fire with
        latches := (clearLatches (testLatched s) s).fire.latches, testTimer := none, testPulse := none } := by
  simp only [clearedByTestEnd, reverifyAll_fire]
  rw [clearLatches_frame]

@[simp] theorem clearedByTestEnd_out : (clearedByTestEnd s).out = s.out := by
  simp only [clearedByTestEnd, reverifyAll_out]
  rw [clearLatches_frame]

@[simp] theorem clearedByTestEnd_custody : (clearedByTestEnd s).custody = s.custody := by
  simp only [clearedByTestEnd, reverifyAll_custody]
  rw [clearLatches_frame]

theorem beyondEvent_clearedByTestEnd : beyondEvent (clearedByTestEnd s) = beyondEvent s := by
  have h : beyondEvent (reverifyAll (testLatched s) (clearLatches (testLatched s) s)) = beyondEvent s := by
    rw [beyondEvent_reverifyAll, clearLatches_frame]
    rfl
  exact h

theorem latchOf_clearedByTestEnd (h : s.fire.latches.length = 6) (i : InputNo) :
    latchOf i (clearedByTestEnd s) = if (latchTimer (latchOf i s)).isSome then .none else latchOf i s := by
  rw [latchOf_congr (s := clearLatches (testLatched s) s) i (by rw [clearedByTestEnd_fire]),
    latchOf_clearLatches s _ h]
  exact if_congr (mem_testLatched s i) rfl rfl

theorem inputRecord_clearedByTestEnd (h : s.sup.inputs.length = 6) (i : InputNo) :
    inputRecord i (clearedByTestEnd s) =
      if (latchTimer (latchOf i s)).isSome then noticedRecord i s else inputRecord i s := by
  have hsup : (clearLatches (testLatched s) s).sup = s.sup := by rw [clearLatches_frame]
  have hcfg : (clearLatches (testLatched s) s).cfg = s.cfg := by rw [clearLatches_frame]
  have hrecord : inputRecord i (clearLatches (testLatched s) s) = inputRecord i s :=
    inputRecord_congr i (by rw [hsup])
  change inputRecord i (reverifyAll (testLatched s) (clearLatches (testLatched s) s)) = _
  rw [inputRecord_reverifyAll _ _ (testLatched_nodup s) (by rw [hsup, h]), noticedRecord_congr i hrecord hcfg, hrecord]
  exact if_congr (mem_testLatched s i) rfl rfl

end

/-- What TEST_END and the test timer leave, from the state `s` in TEST, once `u` has heard the command: the two events
are the same `evaluatedEvent`. -/
theorem testEnded (s u : State) (hu : u = { s with line := u.line }) (hsize : FixedSizes s)
    (t : State) (ht : t = evaluatedEvent s s.fire (clearedByTestEnd u)) :
    t.fire.testTimer = none ∧ t.fire.testPulse = none ∧ t.fire.state = evaluatedFromNormal t ∧
    (∀ i : InputNo, latchOf i t = (if (latchTimer (latchOf i s)).isSome then .none else latchOf i s) ∧
      inputRecord i t = if (latchTimer (latchOf i s)).isSome then noticedRecord i s else inputRecord i s) ∧
    t.fire.ownAbort = s.fire.ownAbort ∧ t.fire.isolated = s.fire.isolated ∧
    t.sup = { s.sup with inputs := t.sup.inputs } ∧
    t = { s with
          sup := t.sup, fire := t.fire, climate := t.climate, allot := t.allot, scanner := t.scanner,
          custody := t.custody, hold := t.hold, line := t.line } ∧
    t.custody = custodyMoved s.fire.state t.fire.state s.custody := by
  obtain ⟨hinputs, -, hlatches, -⟩ := hsize
  have hb : beyondEvent t = beyondEvent u := by
    rw [ht, beyondEvent_evaluatedEvent, beyondEvent_clearedByTestEnd]
  have hfire : u.fire = s.fire := by rw [hu]
  have hsup : u.sup = s.sup := by rw [hu]
  have hlatch : ∀ i, latchOf i u = latchOf i s := fun i => latchOf_congr i (by rw [hfire])
  have hnotice : ∀ i, noticedRecord i u = noticedRecord i s := fun i =>
    noticedRecord_congr i (inputRecord_congr i (by rw [hsup])) (by rw [hu])
  have hinput : ∀ i, inputRecord i u = inputRecord i s := fun i => inputRecord_congr i (by rw [hsup])
  have hout : t.out = s.out := by
    rw [ht, evaluatedEvent_out, clearedByTestEnd_out, hu]
  refine ⟨?_, ?_, ?_, fun i => ⟨?_, ?_⟩, ?_, ?_, ?_, ?_, ?_⟩
  · rw [ht, evaluatedEvent_testTimer, clearedByTestEnd_fire]
  · rw [ht, evaluatedEvent_testPulse, clearedByTestEnd_fire]
  · rw [ht]
    exact evaluatedEvent_state ..
  · rw [ht, latchOf_congr i (evaluatedEvent_latches ..), latchOf_clearedByTestEnd u (by rw [hfire, hlatches]), hlatch]
  · rw [ht, inputRecord_congr i (congrArg Supervisor.inputs (evaluatedEvent_sup ..)),
      inputRecord_clearedByTestEnd u (by rw [hsup, hinputs]), hlatch, hnotice, hinput]
  · rw [ht, evaluatedEvent_ownAbort, clearedByTestEnd_fire, hfire]
  · rw [isolated_of_beyondEvent hb, hfire]
  · rw [← hsup]
    exact sup_of_beyondEvent hb
  · refine (eq_of_beyondEvent hb).trans ?_
    rw [hout, hu]
  · rw [ht, evaluatedEvent_custody, clearedByTestEnd_custody]
    rw [hu]

/-- An accepted TEST_END in TEST is one event that ends with the evaluation from NORMAL. -/
theorem exec_testEnd_accepted (s : State) (f : Frame) (h : AcceptedCommand codeTestEnd f s)
    (hs : s.fire.state = .test) :
    exec (.testEnd f) s = .next (evaluatedEvent s s.fire (clearedByTestEnd (heard f s))) := by
  refine (runCommand_accepted s _ f _ h).trans ?_
  have ended : testEnd (heard f s) = settleFire s.fire (endTest (heard f s)) := if_pos hs
  rw [ended, endTest_eq]
  rfl

theorem exec_testTimerExpiry (s : State) (h : s.phase = .running) (hs : s.fire.state = .test)
    (ht : s.fire.testTimer.isSome = true) :
    exec .testTimerExpiry s = .next (evaluatedEvent s s.fire (clearedByTestEnd s)) := by
  refine (runEvent_running testTimerOver s h).trans ?_
  have ended : testTimerOver s = settleFire s.fire (endTest s) := if_pos (by simp [hs, ht])
  rw [ended, endTest_eq]
  rfl

/-- Without the timer, or outside TEST, the test timer's expiry finds nothing. -/
theorem exec_testTimerExpiry_idle (s : State) (h : s.phase = .running)
    (hs : s.fire.state ≠ .test ∨ s.fire.testTimer = none) : exec .testTimerExpiry s = .next s := by
  have idle : testTimerOver s = s := if_neg (by rcases hs with e | e <;> simp [e])
  exact (runEvent_unreported testTimerOver s h (by rw [idle])).trans (by rw [idle])

/-! ### TEST_START (R38) -/

/-- TEST entered with its timer. -/
def enteredTest (s : State) : State := moveFire .test { s with fire := { s.fire with testTimer := some 3600 } }

theorem exec_testStart_accepted (s : State) (f : Frame) (h : AcceptedCommand codeTestStart f s)
    (hs : s.fire.state = .normal) :
    exec (.testStart f) s = .next (queueAlarmIfChanged s (settleFire s.fire (enteredTest (heard f s)))) := by
  refine (runCommand_accepted s _ f _ h).trans ?_
  have started : testStart (heard f s) = settleFire s.fire (enteredTest (heard f s)) := if_pos hs
  rw [started]

/-- A move of the fire state queues an ALARM (R43). -/
theorem queueAlarmIfChanged_of_state_ne {a b : State} (h : b.fire.state ≠ a.fire.state) :
    queueAlarmIfChanged a b = queueAlarm b :=
  if_neg fun e => h (congrArg ReportedFire.state e)

/-- What TEST_START leaves. -/
theorem testStarted (s : State) (f : Frame) (hs : s.fire.state = .normal) (t : State)
    (ht : t = queueAlarmIfChanged s (settleFire s.fire (enteredTest (heard f s)))) :
    t.fire.state = .test ∧ t.fire.testTimer = some 3600 ∧ t.fire.latches = s.fire.latches ∧
      t.fire.ownAbort = s.fire.ownAbort ∧ t.fire.manual = s.fire.manual ∧ t.fire.isolated = s.fire.isolated ∧
      t.sup = s.sup ∧ t.climate = s.climate ∧ t.custody = s.custody ∧ t.out = s.out ∧
      t.line.alarmQueued = true ∧ t.reader = s.reader ∧ t.consignments = s.consignments := by
  have hb : beyondEvent t = beyondEvent (heard f s) := by
    rw [ht, beyondEvent_queueAlarmIfChanged, beyondEvent_settleFire]
    rfl
  have hepisode : episodeAfterMove s.fire.state .test s.climate.episode = s.climate.episode := by
    simp [episodeAfterMove, FireState.raised]
  have hstate : (settleFire s.fire (enteredTest (heard f s))).fire.state ≠ s.fire.state := by simp [enteredTest, hs]
  refine ⟨?_, ?_, ?_, ?_, ?_, ?_, ?_, ?_, ?_, ?_, ?_, (reader_of_beyondEvent hb).trans rfl,
    (consignments_of_beyondEvent hb).trans rfl⟩
  case refine_8 => simp [ht, enteredTest, heard, hepisode]
  case refine_9 => simp [ht, settleFire_custody, enteredTest, heard, hs, custodyMoved]
  case refine_11 =>
    rw [ht, queueAlarmIfChanged_of_state_ne hstate]
    rfl
  all_goals simp [ht, enteredTest, heard]

/-! ### The clear timer (R39) -/

/-- A TEST latch is no own alarm, so its removal keeps the count. -/
theorem ownAlarmCount_clearTest {s : State} {i : InputNo} {n : Nat} (hsize : s.fire.latches.length = 6)
    (h : latchOf i s = .test n) : ownAlarmCount (setLatch i .none s) = ownAlarmCount s := by
  have counts : countsAsAlarm (setLatch i .none s) = countsAsAlarm s := by
    funext j
    rw [countsAsAlarm, countsAsAlarm, latchOf_setLatch s i j _ hsize]
    by_cases e : j = i
    · subst e
      rw [h, if_pos rfl]
      change (_ && false) = (_ && false)
      rw [Bool.and_false, Bool.and_false]
    · rw [if_neg e]
      rfl
  rw [ownAlarmCount, ownAlarmCount, counts]

theorem exec_testLatchClearExpiry (s : State) (i : InputNo) (n : Nat) (hr : s.phase = .running)
    (hsize : s.fire.latches.length = 6) (h : latchOf i s = .test n) :
    exec (.testLatchClearExpiry i) s = .next (reverify i (setLatch i .none s)) := by
  have effect : testLatchOver i s = reverify i (setLatch i .none s) := by simp only [testLatchOver, h]
  have kept : reportedFire (testLatchOver i s) = reportedFire s := by
    have count : ownAlarmCount (reverify i (setLatch i .none s)) = ownAlarmCount s := ownAlarmCount_clearTest hsize h
    rw [effect, reportedFire, reportedFire, count]
    rfl
  exact (runEvent_unreported (testLatchOver i) s hr kept).trans (by rw [effect])

theorem exec_testLatchClearExpiry_idle (s : State) (i : InputNo) (hr : s.phase = .running)
    (h : latchTimer (latchOf i s) = none) : exec (.testLatchClearExpiry i) s = .next s := by
  have idle : testLatchOver i s = s := by
    unfold testLatchOver
    split
    case h_1 n hn => rw [hn] at h; cases h
    case h_2 => rfl
  exact (runEvent_unreported (testLatchOver i) s hr (by rw [idle])).trans (by rw [idle])

/-- Settles O30: the two ends of TEST by `testEnded`, the notices by `noticedRecord_eq`. -/
theorem testModeBeginsAndEndsWithItsNotices : Obligations.TestModeBeginsAndEndsWithItsNotices := by
  unfold Obligations.TestModeBeginsAndEndsWithItsNotices
  refine ⟨fun s f h hs => ⟨_, exec_testStart_accepted s f h hs, ?_⟩,
    fun s f _ hsize hs h => ⟨_, exec_testEnd_accepted s f h hs, ?_⟩,
    fun s hr hsize hs ht => ⟨_, exec_testTimerExpiry s hr hs ht, ?_⟩, exec_testTimerExpiry_idle,
    fun s i n hr hsize h => ⟨_, exec_testLatchClearExpiry s i n hr hsize.2.2.1 h, ?_⟩, exec_testLatchClearExpiry_idle⟩
  · exact testStarted s f hs _ rfl
  · obtain ⟨h1, h2, h3, h4, h5⟩ := testEnded s (heard f s) (heard_frame f s) hsize _ rfl
    exact ⟨h1, h2, h3, fun i => ⟨(h4 i).1, (h4 i).2.trans (if_congr Iff.rfl (noticedRecord_eq s i) rfl)⟩, h5⟩
  · obtain ⟨h1, h2, h3, h4, h5⟩ := testEnded s s rfl hsize _ rfl
    exact ⟨h1, h2, h3, fun i => ⟨(h4 i).1, (h4 i).2.trans (if_congr Iff.rfl (noticedRecord_eq s i) rfl)⟩, h5⟩
  · obtain ⟨hinputs, -, hlatches, -⟩ := hsize
    have latch := latchOf_setLatch s i (l := .none) (h := hlatches)
    have record := inputRecord_setInput (setLatch i .none s) i (h := hinputs)
    refine ⟨?_, ?_, fun j hj => ⟨?_, ?_⟩, rfl⟩
    · exact (latch i).trans (if_pos rfl)
    · exact ((record i _).trans (if_pos rfl)).trans (noticedRecord_eq s i)
    · exact (latch j).trans (if_neg hj)
    · exact (record j _).trans (if_neg hj)

end Sys2Proof.Machine
end

section
/-! ## The converter arbiter and the judgement of a code -/

namespace Sys2Proof.Machine

variable (s : State)

/-! ### The arbiter (R3, R14) -/

theorem usedFrom_congr {s t : State} (k : Nat) (h : t.cfg = s.cfg) : usedFrom k t = usedFrom k s := by
  simp only [usedFrom, inputType, h]

/-- What the converter converts next where no scan is in progress: a pending scan, else a sequence, else nothing. -/
def nextConversion (s : State) : Converting :=
  if s.sup.scanPending = true then
    ((usedFrom 0 s).map Converting.input).getD (if s.sup.seq.isSome then .probe else .idle)
  else (if s.sup.seq.isSome then .probe else .idle)

theorem beginNext_eq :
    beginNext s = { s with sup := { s.sup with conv := nextConversion s, scanPending := false } } := by
  by_cases h : s.sup.scanPending = true
  · simp only [beginNext, nextConversion, h, if_true]
    cases usedFrom 0 s <;> rfl
  · have idle : beginNext s = probeOrIdle s := if_neg h
    have next : nextConversion s = if s.sup.seq.isSome then .probe else .idle := if_neg h
    rw [idle, next, probeOrIdle, setConv, ← (Bool.not_eq_true _).mp h]

theorem continueScan_of_some {i j : InputNo} {s : State} (h : usedFrom (i.val + 1) s = some j) :
    continueScan i s = setConv (.input j) s := by
  unfold continueScan; rw [h]

theorem continueScan_of_none {i : InputNo} {s : State} (h : usedFrom (i.val + 1) s = none) :
    continueScan i s = beginNext s := by
  unfold continueScan; rw [h]

theorem continueScan_frame (i : InputNo) :
    continueScan i s =
      { s with sup := { s.sup with conv := (continueScan i s).sup.conv,
                                   scanPending := (continueScan i s).sup.scanPending } } := by
  cases h : usedFrom (i.val + 1) s with
  | some j => rw [continueScan_of_some h]; rfl
  | none => rw [continueScan_of_none h, beginNext_eq]

theorem continueScan_eq_sup (i : InputNo) : continueScan i s = { s with sup := (continueScan i s).sup } := by
  rw [continueScan_frame]

@[simp] theorem continueScan_inputs (i : InputNo) : (continueScan i s).sup.inputs = s.sup.inputs := by
  rw [continueScan_frame]
@[simp] theorem continueScan_seq (i : InputNo) : (continueScan i s).sup.seq = s.sup.seq := by rw [continueScan_frame]
@[simp] theorem continueScan_owed (i : InputNo) : (continueScan i s).sup.owed = s.sup.owed := by rw [continueScan_frame]
@[simp] theorem continueScan_cfg (i : InputNo) : (continueScan i s).cfg = s.cfg := by rw [continueScan_frame]
@[simp] theorem continueScan_fire (i : InputNo) : (continueScan i s).fire = s.fire := by rw [continueScan_frame]
@[simp] theorem continueScan_climate (i : InputNo) : (continueScan i s).climate = s.climate := by
  rw [continueScan_frame]
@[simp] theorem continueScan_scanner (i : InputNo) : (continueScan i s).scanner = s.scanner := by
  rw [continueScan_frame]
@[simp] theorem continueScan_custody (i : InputNo) : (continueScan i s).custody = s.custody := by
  rw [continueScan_frame]
@[simp] theorem continueScan_line (i : InputNo) : (continueScan i s).line = s.line := by rw [continueScan_frame]
@[simp] theorem continueScan_out (i : InputNo) : (continueScan i s).out = s.out := by rw [continueScan_frame]
@[simp] theorem continueScan_reader (i : InputNo) : (continueScan i s).reader = s.reader := by rw [continueScan_frame]
@[simp] theorem continueScan_consignments (i : InputNo) : (continueScan i s).consignments = s.consignments := by
  rw [continueScan_frame]
@[simp] theorem continueScan_uptime (i : InputNo) : (continueScan i s).uptime = s.uptime := by rw [continueScan_frame]

/-- A conversion of an input ends: its code is judged, and the arbiter goes on. -/
theorem exec_inputConversionEnd (i : InputNo) (c : Code) (hr : s.phase = .running) (hc : s.sup.conv = .input i) :
    exec (.inputConversionEnd c) s = .next (queueAlarmIfChanged s (continueScan i (judgeCode i c s))) := by
  refine (runEvent_running (inputConverted c) s hr).trans ?_
  simp only [inputConverted, hc]

/-- The comparison of R43 adds nothing where the fire record and the configured values stand. -/
theorem queueAlarmIfChanged_of_fire_eq {a b : State} (hf : b.fire = a.fire) (hc : b.cfg = a.cfg) :
    queueAlarmIfChanged a b = b := by
  have h : reportedFire b = reportedFire a := by
    rw [reportedFire, reportedFire, ownAlarmCount_congr hc (congrArg FireRecord.latches hf), ownAbortActive,
      ownAbortActive, hf]
  exact if_pos h

/-! ### Troubles and reports -/

@[simp] theorem beyondEvent_setTrouble (x : Trouble) (b : Bool) : beyondEvent (setTrouble x b s) = beyondEvent s := by
  unfold setTrouble tellTrouble queueReport pushReport; repeat' split
  all_goals rfl

@[simp] theorem beyondEvent_queueReport (r : Report) : beyondEvent (queueReport r s) = beyondEvent s :=
  beyondEvent_of_beyondSettling (beyondSettling_queueReport s r)

@[simp] theorem beyondEvent_settleTroubles : beyondEvent (settleTroubles s) = beyondEvent s := by
  unfold settleTroubles
  generalize allTroubles = l
  induction l generalizing s with
  | nil => rfl
  | cons x l ih =>
    rw [List.foldl_cons, ih]
    unfold settleTrouble tellTrouble
    split
    · rfl
    · exact beyondEvent_queueReport s _

theorem bandTroubles_frame (i : InputNo) (b : Band) :
    bandTroubles i b s = { s with line := (bandTroubles i b s).line, out := (bandTroubles i b s).out } := by
  unfold bandTroubles
  rw [setTrouble_frame, setTrouble_frame]

@[simp] theorem bandTroubles_sup (i : InputNo) (b : Band) : (bandTroubles i b s).sup = s.sup := by simp [bandTroubles]
@[simp] theorem bandTroubles_cfg (i : InputNo) (b : Band) : (bandTroubles i b s).cfg = s.cfg := by simp [bandTroubles]
@[simp] theorem bandTroubles_fire (i : InputNo) (b : Band) : (bandTroubles i b s).fire = s.fire := by
  simp [bandTroubles]
@[simp] theorem bandTroubles_climate (i : InputNo) (b : Band) : (bandTroubles i b s).climate = s.climate := by
  simp [bandTroubles]
@[simp] theorem bandTroubles_scanner (i : InputNo) (b : Band) : (bandTroubles i b s).scanner = s.scanner := by
  simp [bandTroubles]
@[simp] theorem bandTroubles_custody (i : InputNo) (b : Band) : (bandTroubles i b s).custody = s.custody := by
  simp [bandTroubles]
@[simp] theorem bandTroubles_hold (i : InputNo) (b : Band) : (bandTroubles i b s).hold = s.hold := by
  simp [bandTroubles]

@[simp] theorem beyondEvent_bandTroubles (i : InputNo) (b : Band) :
    beyondEvent (bandTroubles i b s) = beyondEvent s := by simp [bandTroubles]

theorem onlyReports_bandTroubles (i : InputNo) (b : Band) : OnlyReports s.line (bandTroubles i b s).line :=
  (onlyReports_setTrouble (.inputOpen i) _ s).trans' (onlyReports_setTrouble (.inputShort i) _ _)

theorem troubleActive_bandTroubles (i : InputNo) (b : Band) (x : Trouble) :
    troubleActive x (bandTroubles i b s) =
      if x = .inputShort i then b == .short else if x = .inputOpen i then b == .openBand else troubleActive x s := by
  simp only [bandTroubles, troubleActive_setTrouble]

/-! ### What each act of an input event leaves -/

@[simp] theorem beyondEvent_withAborts (l : List InputNo) : beyondEvent (withAborts l s) = beyondEvent s := rfl

@[simp] theorem beyondEvent_testAlarm (i : InputNo) : beyondEvent (testAlarm i s) = beyondEvent s :=
  (beyondEvent_queueReport _ _).trans rfl

@[simp] theorem beyondEvent_endWithholding : beyondEvent (endWithholding s) = beyondEvent s := by
  rw [show endWithholding s = writeInputs releasedRecord allInputs s from rfl, writeInputs_frame]
  rfl

@[simp] theorem beyondEvent_endStabilization : beyondEvent (endStabilization s) = beyondEvent s := by
  unfold endStabilization
  rw [beyondEvent_settleTroubles, beyondEvent_endWithholding]
  rfl

/-- What the manual rule makes of the fire state in STABILIZING, before the period ends. -/
theorem manualRule_stabilizing {s : State} (h : s.fire.state = .stabilizing) :
    manualRule s = endStabilization (if armed s then manualEntry s else moveFire .confirmed s) := by
  simp only [manualRule, h]

theorem beyondMove_manualEntry_or (f : FireState) :
    beyondMove (if armed s then manualEntry s else moveFire f s) = beyondMove s := by
  split <;> simp

@[simp] theorem beyondEvent_manualRule : beyondEvent (manualRule s) = beyondEvent s := by
  by_cases h : s.fire.state = .stabilizing
  · rw [manualRule_stabilizing h, beyondEvent_endStabilization]
    exact beyondEvent_of_beyondMove (beyondMove_manualEntry_or s _)
  · exact beyondEvent_of_beyondMove (beyondMove_manualRule s h)

@[simp] theorem beyondEvent_enterDischarged : beyondEvent (enterDischarged s) = beyondEvent s :=
  beyondEvent_of_beyondMove (beyondMove_enterDischarged s)

@[simp] theorem beyondEvent_actOnAlarm (i : InputNo) : beyondEvent (actOnAlarm i s) = beyondEvent s := by
  unfold actOnAlarm; repeat' split
  all_goals simp

@[simp] theorem beyondEvent_alarmVerified (i : InputNo) : beyondEvent (alarmVerified i s) = beyondEvent s := by
  unfold alarmVerified fireEvent; rw [beyondEvent_settleFire]; dsimp only; split <;> simp

@[simp] theorem beyondEvent_abortOn (i : InputNo) : beyondEvent (abortOn i s) = beyondEvent s := by
  unfold abortOn fireEvent; rw [beyondEvent_settleFire]; dsimp only; split <;> simp

@[simp] theorem beyondEvent_abortOff (i : InputNo) : beyondEvent (abortOff i s) = beyondEvent s := by
  simp [abortOff, fireEvent]

@[simp] theorem beyondEvent_settleBand (i : InputNo) (b : Band) : beyondEvent (settleBand i b s) = beyondEvent s := by
  unfold settleBand; dsimp only; split <;> simp

@[simp] theorem beyondEvent_judgeSettled (i : InputNo) (c : Code) :
    beyondEvent (judgeSettled i c s) = beyondEvent s := by
  unfold judgeSettled; dsimp only; repeat' split
  all_goals simp

@[simp] theorem beyondEvent_verified (i : InputNo) : beyondEvent (verified i s) = beyondEvent s := by
  unfold verified; dsimp only; split <;> simp

@[simp] theorem beyondEvent_judgeCode (i : InputNo) (c : Code) : beyondEvent (judgeCode i c s) = beyondEvent s := by
  unfold judgeCode continueVerification unverified; dsimp only; repeat' split
  all_goals simp

/-! ### Bands (R4) -/

/-- A settled band is left exactly by the codes of its row; the scan band is then the plain band. -/
theorem scanBand_of_leaves {b : Band} {c : Code} (h : leavesBand b c = true) : scanBand b c = plainBand c := if_pos h

theorem scanBand_of_stays {b : Band} {c : Code} (h : leavesBand b c = false) : scanBand b c = b :=
  if_neg (by simp [h])

/-- A code that leaves a settled band lies in another plain band, and so does every code within 63 of it. -/
theorem plainBand_ne_of_leaves {b : Band} {c c' : Code} (hb : b ≠ .unsettled) (h : leavesBand b c = true)
    (hlo : c'.toNat ≤ c.toNat + 63) (hhi : c.toNat ≤ c'.toNat + 63) : plainBand c' ≠ b := by
  unfold plainBand
  cases b with
  | unsettled => exact absurd rfl hb
  | openBand =>
    have : 464 ≤ c.toNat := by simpa [leavesBand] using h
    repeat' split
    all_goals simp
    omega
  | normal =>
    have : c.toNat ≤ 336 ∨ 1664 ≤ c.toNat := by simpa [leavesBand] using h
    repeat' split
    all_goals simp
    omega
  | alarm =>
    have : c.toNat ≤ 1536 ∨ 3464 ≤ c.toNat := by simpa [leavesBand] using h
    repeat' split
    all_goals simp
    omega
  | short =>
    have : c.toNat ≤ 3336 := by simpa [leavesBand] using h
    repeat' split
    all_goals simp
    omega

theorem scanBand_ne_iff {b : Band} (hb : b ≠ .unsettled) (c : Code) : scanBand b c ≠ b ↔ leavesBand b c = true := by
  cases h : leavesBand b c with
  | false => simp [scanBand_of_stays h]
  | true =>
    rw [scanBand_of_leaves h]
    simpa using plainBand_ne_of_leaves hb h (by omega) (by omega)

/-! ### A code judged outside verification (R5) -/

/-- The record that a code gives an input outside verification. -/
def judgedRecord (i : InputNo) (c : Code) (s : State) : InputRecord :=
  if scanBand (inputRecord i s).settled c = (inputRecord i s).settled then { inputRecord i s with candidate := none }
  else if scanBand (inputRecord i s).settled c = .alarm ∧ (inputRecord i s).stage = .ready then
    { inputRecord i s with candidate := none, stage := .verifying (scanVerification i s) }
  else if (inputRecord i s).candidate = some (scanBand (inputRecord i s).settled c) then
    { inputRecord i s with settled := scanBand (inputRecord i s).settled c, candidate := none }
  else { inputRecord i s with candidate := some (scanBand (inputRecord i s).settled c) }

/-- A code settles an input in its band: the band is not the settled one, begins no verification and is the
candidate. -/
def Settles (i : InputNo) (c : Code) (s : State) : Prop :=
  scanBand (inputRecord i s).settled c ≠ (inputRecord i s).settled ∧
    ¬ (scanBand (inputRecord i s).settled c = .alarm ∧ (inputRecord i s).stage = .ready) ∧
    (inputRecord i s).candidate = some (scanBand (inputRecord i s).settled c)

theorem judgeSettled_of_settles {i : InputNo} {c : Code} {s : State} (h : Settles i c s) :
    judgeSettled i c s = settleBand i (scanBand (inputRecord i s).settled c) s := by
  obtain ⟨hleaves, hbegins, hagrees⟩ := h
  simp only [judgeSettled, if_neg hleaves, if_neg hbegins, if_pos hagrees]

/-- A code that does not settle the input writes its record alone. -/
theorem judgeSettled_of_not_settles {i : InputNo} {c : Code} {s : State} (h : ¬ Settles i c s) :
    judgeSettled i c s = setInput i (judgedRecord i c s) s := by
  unfold judgeSettled judgedRecord
  dsimp only
  repeat' split
  case isFalse.isFalse.isTrue hleaves hbegins hagrees => exact absurd ⟨hleaves, hbegins, hagrees⟩ h
  all_goals rfl

@[simp] theorem abortOff_sup (i : InputNo) : (abortOff i s).sup = s.sup := by simp [abortOff, fireEvent, withAborts]
@[simp] theorem abortOff_out (i : InputNo) : (abortOff i s).out = s.out := by simp [abortOff, fireEvent, withAborts]

theorem abortOff_ownAbort (i : InputNo) :
    (abortOff i s).fire.ownAbort = s.fire.ownAbort.filter fun j => j != i := by
  simp [abortOff, fireEvent, withAborts]

theorem settleBand_sup (i : InputNo) (b : Band) :
    (settleBand i b s).sup = (setInput i { inputRecord i s with settled := b, candidate := none } s).sup := by
  unfold settleBand; dsimp only; split <;> simp

theorem settleBand_out (i : InputNo) (b : Band) :
    (settleBand i b s).out =
      (bandTroubles i b (setInput i { inputRecord i s with settled := b, candidate := none } s)).out := by
  unfold settleBand; dsimp only; split <;> simp

/-- Where the input that settles is no ABORT input that leaves ALARM, only its record and its troubles are written. -/
theorem settleBand_of_not_abort {i : InputNo} {b : Band} {s : State}
    (h : ¬ (inputType i s = .abort ∧ (inputRecord i s).settled = .alarm ∧ b ≠ .alarm)) :
    settleBand i b s = bandTroubles i b (setInput i { inputRecord i s with settled := b, candidate := none } s) :=
  if_neg h

theorem settleBand_ownAbort {i : InputNo} {b : Band} {s : State}
    (h : inputType i s = .abort ∧ (inputRecord i s).settled = .alarm ∧ b ≠ .alarm) :
    (settleBand i b s).fire.ownAbort = s.fire.ownAbort.filter fun j => j != i := by
  have off : settleBand i b s =
      abortOff i (bandTroubles i b (setInput i { inputRecord i s with settled := b, candidate := none } s)) := if_pos h
  rw [off, abortOff_ownAbort, bandTroubles_fire, setInput_fire]

theorem inputRecord_judgeSettled (i j : InputNo) (c : Code) (h : s.sup.inputs.length = 6) :
    inputRecord j (judgeSettled i c s) = if j = i then judgedRecord i c s else inputRecord j s := by
  by_cases hs : Settles i c s
  · rw [judgeSettled_of_settles hs, inputRecord_congr j (congrArg Supervisor.inputs (settleBand_sup s i _)),
      inputRecord_setInput s i j _ h]
    obtain ⟨hleaves, hbegins, hagrees⟩ := hs
    rw [judgedRecord, if_neg hleaves, if_neg hbegins, if_pos hagrees]
  · rw [judgeSettled_of_not_settles hs, inputRecord_setInput s i j _ h]

/-- The troubles after a code judged outside verification. -/
theorem judgeSettled_troubles {i : InputNo} {c : Code} {s : State} (h : Settles i c s) :
    troubleActive (.inputOpen i) (judgeSettled i c s) = (scanBand (inputRecord i s).settled c == .openBand) ∧
      troubleActive (.inputShort i) (judgeSettled i c s) = (scanBand (inputRecord i s).settled c == .short) := by
  have hout : ∀ x, troubleActive x (judgeSettled i c s) = troubleActive x (bandTroubles i _ _) := fun x => by
    rw [judgeSettled_of_settles h, troubleActive, settleBand_out]
    rfl
  rw [hout, hout, troubleActive_bandTroubles, troubleActive_bandTroubles]
  simp

/-- Unless an ABORT input leaves ALARM, a code judged outside verification reaches the input records, the troubles and
the report queue alone. -/
theorem judgeSettled_quiet {i : InputNo} {c : Code} {s : State}
    (h : ¬ (inputType i s = .abort ∧ (inputRecord i s).settled = .alarm ∧ Settles i c s)) :
    judgeSettled i c s = { s with sup := (judgeSettled i c s).sup, line := (judgeSettled i c s).line,
                                  out := (judgeSettled i c s).out } ∧
      OnlyReports s.line (judgeSettled i c s).line := by
  by_cases hs : Settles i c s
  · have quiet : ¬ (inputType i s = .abort ∧ (inputRecord i s).settled = .alarm ∧
        scanBand (inputRecord i s).settled c ≠ .alarm) := fun k => h ⟨k.1, k.2.1, hs⟩
    rw [judgeSettled_of_settles hs, settleBand_of_not_abort quiet]
    generalize hu : setInput i _ s = u
    refine ⟨?_, ?_⟩
    · rw [bandTroubles_sup, bandTroubles_frame u, ← hu]
      rfl
    · have reports := onlyReports_bandTroubles u i (scanBand (inputRecord i s).settled c)
      rwa [← hu, setInput_line, hu] at reports
  · rw [judgeSettled_of_not_settles hs]
    exact ⟨rfl, rfl⟩

theorem judgeCode_of_not_verifying {i : InputNo} {s : State} (c : Code)
    (h : (inputRecord i s).stage = .ready ∨ (inputRecord i s).stage = .latched ∨ (inputRecord i s).stage = .withheld) :
    judgeCode i c s = judgeSettled i c s := by
  rcases h with e | e | e <;> simp only [judgeCode, e]

/-- The arbiter after a conversion of an input, whatever its code did: it finds the scan, the sequence and the input
types as they were. -/
theorem nextConversion_judgeCode (i : InputNo) (c : Code) : nextConversion (judgeCode i c s) = nextConversion s := by
  have hb := beyondEvent_judgeCode s i c
  have hsup := sup_of_beyondEvent hb
  rw [nextConversion, nextConversion, usedFrom_congr 0 (cfg_of_beyondEvent hb), hsup]

theorem exec_inputConversionEnd_arbiter (i : InputNo) (c : Code) (t : State)
    (ht : t = queueAlarmIfChanged s (continueScan i (judgeCode i c s))) :
    (∀ j ∈ usedFrom (i.val + 1) s, t.sup.conv = .input j ∧ t.sup.scanPending = s.sup.scanPending) ∧
      (usedFrom (i.val + 1) s = none → t.sup.scanPending = false ∧ t.sup.conv = nextConversion s) ∧
      t.sup.seq = s.sup.seq ∧ t.sup.owed = s.sup.owed := by
  have hb := beyondEvent_judgeCode s i c
  have hsup := sup_of_beyondEvent hb
  have hused := usedFrom_congr (i.val + 1) (cfg_of_beyondEvent hb)
  rw [ht, queueAlarmIfChanged_sup, continueScan_seq, continueScan_owed]
  refine ⟨fun j hj => ?_, fun hn => ?_, by rw [hsup], by rw [hsup]⟩
  · rw [continueScan_of_some (hused.trans hj)]
    exact ⟨rfl, by rw [setConv_sup, hsup]⟩
  · rw [continueScan_of_none (hused.trans hn), beginNext_eq]
    exact ⟨rfl, nextConversion_judgeCode s i c⟩

/-- Settles O21: the bands by `plainBand_ne_of_leaves`, the judged record by `inputRecord_judgeSettled`, the converter
by `exec_inputConversionEnd_arbiter`. -/
theorem bandsSettleByTwoScansBeyondTheirMargins : Obligations.BandsSettleByTwoScansBeyondTheirMargins := by
  unfold Obligations.BandsSettleByTwoScansBeyondTheirMargins
  refine ⟨fun b c => ⟨fun hb => ?_, fun hb hne => ?_⟩, fun c => ⟨rfl, ?_, ?_, ?_, ?_⟩,
    fun s i c hr hsize hc hstage => ?_,
    fun s i c hr hc => ⟨_, exec_inputConversionEnd s i c hr hc, exec_inputConversionEnd_arbiter s i c _ rfl⟩⟩
  · rw [hb]
    exact scanBand_of_leaves rfl
  · have leaves := (scanBand_ne_iff hb c).1 hne
    exact ⟨scanBand_of_leaves leaves, fun c' hlo hhi => plainBand_ne_of_leaves hb leaves hlo hhi⟩
  · simpa [leavesBand] using scanBand_ne_iff (b := .openBand) (by simp) c
  · simpa [leavesBand] using scanBand_ne_iff (b := .normal) (by simp) c
  · simpa [leavesBand] using scanBand_ne_iff (b := .alarm) (by simp) c
  · simpa [leavesBand] using scanBand_ne_iff (b := .short) (by simp) c
  · have arbiter := exec_inputConversionEnd_arbiter s i c _ rfl
    rw [judgeCode_of_not_verifying c hstage] at arbiter
    have run := exec_inputConversionEnd s i c hr hc
    rw [judgeCode_of_not_verifying c hstage] at run
    generalize ht : queueAlarmIfChanged s (continueScan i (judgeSettled i c s)) = t at arbiter run
    have record : ∀ j, inputRecord j t = if j = i then judgedRecord i c s else inputRecord j s := fun j => by
      rw [← inputRecord_judgeSettled s i j c hsize.1, ← ht]
      exact inputRecord_congr j (by simp)
    have hout : t.out = (judgeSettled i c s).out := by rw [← ht]; simp
    refine ⟨t, run, (record i).trans (if_pos rfl), fun j hj => (record j).trans (if_neg hj),
      fun j hj => (arbiter.1 j hj).1,
      ?_, ?_⟩
    · split
      case isTrue hs =>
        rw [troubleActive, hout, troubleActive, hout]
        exact judgeSettled_troubles hs
      case isFalse hs =>
        rw [hout, judgeSettled_of_not_settles hs]
        rfl
    · split
      case isTrue hs =>
        obtain ⟨habort, halarm, hsettles⟩ := hs
        have leaves : scanBand (inputRecord i s).settled c ≠ .alarm := halarm ▸ hsettles.1
        rw [← ht, queueAlarmIfChanged_fire, continueScan_fire, judgeSettled_of_settles hsettles]
        exact settleBand_ownAbort ⟨habort, halarm, leaves⟩
      case isFalse hs =>
        obtain ⟨frame, reports⟩ := judgeSettled_quiet hs
        have same : t = continueScan i (judgeSettled i c s) := by
          rw [← ht]
          refine queueAlarmIfChanged_of_fire_eq ?_ ?_
          · rw [continueScan_fire, frame]
          · rw [continueScan_cfg, frame]
        have hline : t.line = (judgeSettled i c s).line := by rw [same, continueScan_line]
        have hkept : (judgeSettled i c s).out = _ := out_of_beyondEvent (beyondEvent_judgeSettled s i c)
        refine ⟨?_, hline ▸ reports⟩
        calc
          t = { judgeSettled i c s with sup := t.sup } := by rw [same]; exact continueScan_eq_sup _ i
          _ = { s with sup := t.sup, line := (judgeSettled i c s).line, out := (judgeSettled i c s).out } :=
            congrArg (fun u => { u with sup := t.sup }) frame
          _ = _ := by rw [hline, hout, ← hkept]

end Sys2Proof.Machine
end

section
/-! ## A verified alarm -/

namespace Sys2Proof.Machine

variable (s : State)

/-! ### Reports and the troubles told at the end of STABILIZING (R179, R187) -/

/-- Several reports enter the queue one after another, or are all dropped as they arise. -/
theorem queueReports_line (rs : List Report) :
    (queueReports rs s).line = if reportsGoOut s then rs.foldl (fun l r => pushReport r l) s.line else s.line := by
  induction rs generalizing s with
  | nil => simp [queueReports]
  | cons r rs ih =>
    rw [show queueReports (r :: rs) s = queueReports rs (queueReport r s) from rfl, ih, queueReport_line]
    have out : reportsGoOut (queueReport r s) = reportsGoOut s := by rw [queueReport_frame]; rfl
    rw [out]
    split <;> rfl

@[simp] theorem reportsGoOut_queueReports (rs : List Report) : reportsGoOut (queueReports rs s) = reportsGoOut s := by
  rw [queueReports_frame]
  rfl

theorem settleTrouble_frame (x : Trouble) :
    settleTrouble s x = { s with line := (settleTrouble s x).line,
                                 out := { s.out with reported := (settleTrouble s x).out.reported } } := by
  unfold settleTrouble tellTrouble
  split
  · rfl
  · rw [queueReport_frame]
    rfl

theorem reportsGoOut_settleTrouble (x : Trouble) : reportsGoOut (settleTrouble s x) = reportsGoOut s := by
  rw [settleTrouble_frame]
  rfl

theorem settleTroubles_frame :
    settleTroubles s = { s with line := (settleTroubles s).line,
                                out := { s.out with reported := (settleTroubles s).out.reported } } := by
  unfold settleTroubles
  generalize allTroubles = l
  induction l generalizing s with
  | nil => rfl
  | cons x l ih =>
    rw [List.foldl_cons, ih, settleTrouble_frame]

@[simp] theorem settleTroubles_sup : (settleTroubles s).sup = s.sup := by rw [settleTroubles_frame]
@[simp] theorem settleTroubles_fire : (settleTroubles s).fire = s.fire := by rw [settleTroubles_frame]
@[simp] theorem settleTroubles_climate : (settleTroubles s).climate = s.climate := by rw [settleTroubles_frame]
@[simp] theorem settleTroubles_scanner : (settleTroubles s).scanner = s.scanner := by rw [settleTroubles_frame]
@[simp] theorem settleTroubles_custody : (settleTroubles s).custody = s.custody := by rw [settleTroubles_frame]
@[simp] theorem settleTroubles_hold : (settleTroubles s).hold = s.hold := by rw [settleTroubles_frame]
@[simp] theorem settleTroubles_active : (settleTroubles s).out.active = s.out.active := by rw [settleTroubles_frame]

/-- The reports that tell the console, of some troubles, those whose value differs from the value it was last told. -/
def tellings (l : List Trouble) (s : State) : List Report :=
  (l.filter fun x => s.out.active.getLsbD x.code != s.out.reported.getLsbD x.code).map fun x =>
    troubleReport x (s.out.active.getLsbD x.code)

/-- One trouble settled has its active value told, the others keep the values told. -/
theorem settleTrouble_reported (x y : Trouble) :
    (settleTrouble s x).out.reported.getLsbD y.code =
      if y = x then s.out.active.getLsbD y.code else s.out.reported.getLsbD y.code := by
  have ne : y ≠ x → y.code ≠ x.code := fun e k => e (Trouble.code_inj k)
  unfold settleTrouble
  split
  case isTrue h =>
    by_cases e : y = x
    · subst e
      rw [if_pos rfl, ← h, troubleActive]
    · rw [if_neg e]
  case isFalse h =>
    rw [tellTrouble, setReported_out, queueReport_out]
    dsimp only
    rw [setTroubleBit_getLsbD _ _ _ _ x.code_lt]
    by_cases e : y = x
    · subst e
      simp [troubleActive]
    · simp [e, ne e]

theorem settleTrouble_line (x : Trouble) : (settleTrouble s x).line = (queueReports (tellings [x] s) s).line := by
  unfold settleTrouble tellings
  by_cases h : troubleActive x s = s.out.reported.getLsbD x.code
  · rw [if_pos h, List.filter_cons_of_neg (by simp [← h, troubleActive])]
    rfl
  · rw [if_neg h, List.filter_cons_of_pos (by simpa [troubleActive] using h)]
    rfl

/-- Troubles settled one after another are told their active values. -/
theorem foldl_settleTrouble_reported (l : List Trouble) (y : Trouble) :
    (l.foldl settleTrouble s).out.reported.getLsbD y.code =
      if y ∈ l then s.out.active.getLsbD y.code else s.out.reported.getLsbD y.code := by
  induction l generalizing s with
  | nil => rfl
  | cons x l ih =>
    have hactive : (settleTrouble s x).out.active = s.out.active := by rw [settleTrouble_frame]
    rw [List.foldl_cons, ih, hactive, settleTrouble_reported]
    by_cases e : y = x <;> simp [e]

/-- Their reports are those of the troubles that differ, in their order. -/
theorem foldl_settleTrouble_line (l : List Trouble) (hd : l.Nodup) :
    (l.foldl settleTrouble s).line = (queueReports (tellings l s) s).line := by
  induction l generalizing s with
  | nil => rfl
  | cons x l ih =>
    obtain ⟨hx, hd⟩ := List.nodup_cons.1 hd
    have hactive : (settleTrouble s x).out.active = s.out.active := by rw [settleTrouble_frame]
    have rest : tellings l (settleTrouble s x) = tellings l s := by
      rw [tellings, tellings, hactive]
      congr 1
      refine List.filter_congr fun y hy => ?_
      have e : y ≠ x := fun e => hx (e ▸ hy)
      rw [settleTrouble_reported, if_neg e]
    have first : tellings (x :: l) s = tellings [x] s ++ tellings l s := by
      rw [tellings, tellings, tellings, ← List.map_append, ← List.filter_append]
      rfl
    rw [List.foldl_cons, ih _ hd, rest, first, queueReports_append, queueReports_line, settleTrouble_line,
      queueReports_line (queueReports (tellings [x] s) s), reportsGoOut_settleTrouble, reportsGoOut_queueReports]

theorem allTroubles_nodup : allTroubles.Nodup := by decide

/-- Every bit of the trouble set is the code of a trouble. -/
theorem exists_trouble_code : ∀ k < 25, ∃ x ∈ allTroubles, x.code = k := by decide

/-- At the end of STABILIZING the console is told each trouble that differs from the value it was last told. -/
theorem settleTroubles_line :
    (settleTroubles s).line = (queueReports (heldBackReports s.out.reported s.out.active) s).line :=
  foldl_settleTrouble_line s allTroubles allTroubles_nodup

theorem settleTroubles_reported : (settleTroubles s).out.reported = s.out.active := by
  refine BitVec.eq_of_getLsbD_eq fun k hk => ?_
  obtain ⟨x, hx, rfl⟩ := exists_trouble_code k hk
  exact (foldl_settleTrouble_reported s allTroubles x).trans (if_pos hx)

/-! ### The end of STABILIZING (R12, R25) -/

theorem endWithholding_frame :
    endWithholding s = { s with sup := { s.sup with inputs := (endWithholding s).sup.inputs } } :=
  writeInputs_frame s releasedRecord allInputs

theorem releasedRecord_congr {s t : State} (i : InputNo) (hi : inputRecord i t = inputRecord i s) (hc : t.cfg = s.cfg) :
    releasedRecord i t = releasedRecord i s := by
  simp only [releasedRecord, reverified, noticeVerification, hi, hc, inputType_congr i hc]

theorem inputRecord_endWithholding (h : s.sup.inputs.length = 6) (j : InputNo) :
    inputRecord j (endWithholding s) = releasedRecord j s :=
  (inputRecord_writeInputs s (fun _ _ _ => releasedRecord_congr _) allInputs allInputs_nodup h j).trans
    (if_pos (mem_allInputs j))

@[simp] theorem endStabilization_fire : (endStabilization s).fire = { s.fire with stabTimer := none } := by
  rw [endStabilization, settleTroubles_fire, endWithholding_frame]

@[simp] theorem endStabilization_climate : (endStabilization s).climate = s.climate := by
  rw [endStabilization, settleTroubles_climate, endWithholding_frame]

@[simp] theorem endStabilization_scanner : (endStabilization s).scanner = s.scanner := by
  rw [endStabilization, settleTroubles_scanner, endWithholding_frame]

@[simp] theorem endStabilization_custody : (endStabilization s).custody = s.custody := by
  rw [endStabilization, settleTroubles_custody, endWithholding_frame]

@[simp] theorem endStabilization_hold : (endStabilization s).hold = s.hold := by
  rw [endStabilization, settleTroubles_hold, endWithholding_frame]

theorem inputRecord_endStabilization (h : s.sup.inputs.length = 6) (j : InputNo) :
    inputRecord j (endStabilization s) = releasedRecord j s := by
  rw [endStabilization, inputRecord_congr j (congrArg Supervisor.inputs (settleTroubles_sup _)),
    inputRecord_endWithholding { s with fire := { s.fire with stabTimer := none } } h]
  exact releasedRecord_congr j rfl rfl

theorem endStabilization_active : (endStabilization s).out.active = s.out.active := by
  rw [endStabilization, settleTroubles_active, endWithholding_frame]

theorem endStabilization_reported : (endStabilization s).out.reported = s.out.active := by
  rw [endStabilization, settleTroubles_reported, endWithholding_frame]

theorem endStabilization_line :
    (endStabilization s).line = (queueReports (heldBackReports s.out.reported s.out.active) s).line := by
  rw [endStabilization, settleTroubles_line, queueReports_line, queueReports_line, endWithholding_frame]
  rfl

/-! ### The manual rule (R28) -/

/-- The manual rule's move of the fire state. -/
def manualMove (s : State) : State :=
  if s.fire.state = .discharged ∨ s.fire.state = .test then s
  else if armed s then (if s.fire.state = .preDischarge then manualShorten s else manualEntry s)
  else if s.fire.state = .preDischarge ∨ s.fire.state = .confirmed then s
  else moveFire .confirmed s

/-- The manual rule is its move, after which STABILIZING ends (R25). -/
theorem manualRule_eq :
    manualRule s = if s.fire.state = .stabilizing then endStabilization (manualMove s) else manualMove s := by
  cases h : s.fire.state <;> simp [manualRule, manualMove, h]

@[simp] theorem beyondMove_manualMove : beyondMove (manualMove s) = beyondMove s := by
  unfold manualMove; repeat' split
  all_goals simp

@[simp] theorem armed_moveFire (f : FireState) : armed (moveFire f s) = armed s := rfl

/-- At an armed station the manual rule ends in PRE_DISCHARGE with the delay, or in DISCHARGED where it is 0. -/
theorem manualMove_armed {s : State} (ha : armed s = true) (hd : s.fire.state ≠ .discharged)
    (ht : s.fire.state ≠ .test) :
    (manualMove s).fire =
      if s.cfg.manualDelay = 0 then
        { s.fire with state := .discharged, countdown := none, manual := true,
                      releasePulse := some s.cfg.releasePulse }
      else
        { s.fire with
          state := .preDischarge, manual := true,
          countdown := some (if s.fire.state = .preDischarge then
            min (s.fire.countdown.getD s.cfg.manualDelay) s.cfg.manualDelay else s.cfg.manualDelay) } := by
  have discharged : (setManual true (enterDischarged s)).fire =
      { s.fire with state := .discharged, countdown := none, manual := true,
                    releasePulse := some s.cfg.releasePulse } := by
    simp [enterDischarged, startRelease, ha]
  rw [manualMove, if_neg (by simp [hd, ht]), if_pos ha]
  by_cases hz : s.cfg.manualDelay = 0
  · rw [if_pos hz]
    split
    · rw [manualShorten, if_pos hz, discharged]
    · rw [manualEntry, if_pos hz, discharged]
  · rw [if_neg hz]
    split
    case isTrue hp => simp [manualShorten, hz, ← hp]
    case isFalse hp => simp [manualEntry, hz, enterPreDischarge]

/-- At a station that is not armed it ends in CONFIRMED, or leaves PRE_DISCHARGE, CONFIRMED and DISCHARGED as they
are. -/
theorem manualMove_unarmed {s : State} (ha : armed s = false) (ht : s.fire.state ≠ .test) :
    (manualMove s).fire =
      if s.fire.state = .discharged ∨ s.fire.state = .preDischarge ∨ s.fire.state = .confirmed then s.fire
      else { s.fire with state := .confirmed, countdown := none } := by
  unfold manualMove
  cases h : s.fire.state <;> simp_all

@[simp] theorem manualRule_latches : (manualRule s).fire.latches = s.fire.latches := by
  have h := latches_of_beyondMove (beyondMove_manualMove s)
  rw [manualRule_eq]; split <;> simp [h]

@[simp] theorem manualRule_ownAbort : (manualRule s).fire.ownAbort = s.fire.ownAbort := by
  have h := ownAbort_of_beyondMove (beyondMove_manualMove s)
  rw [manualRule_eq]; split <;> simp [h]

@[simp] theorem manualRule_scanner : (manualRule s).scanner = s.scanner := by
  have h := scanner_of_beyondMove (beyondMove_manualMove s)
  rw [manualRule_eq]; split <;> simp [h]

@[simp] theorem manualRule_custody : (manualRule s).custody = s.custody := by
  have h := custody_of_beyondMove (beyondMove_manualMove s)
  rw [manualRule_eq]; split <;> simp [h]

@[simp] theorem manualRule_hold : (manualRule s).hold = s.hold := by
  have h := hold_of_beyondMove (beyondMove_manualMove s)
  rw [manualRule_eq]; split <;> simp [h]

/-! ### What a FIRE latch does (R20) -/

section
variable (i : InputNo)

@[simp] theorem actOnAlarm_latches : (actOnAlarm i s).fire.latches = s.fire.latches := by
  have h := latches_of_beyondMove (beyondMove_enterDischarged s)
  unfold actOnAlarm; repeat' split
  all_goals simp [h]

@[simp] theorem actOnAlarm_ownAbort : (actOnAlarm i s).fire.ownAbort = s.fire.ownAbort := by
  have h := ownAbort_of_beyondMove (beyondMove_enterDischarged s)
  unfold actOnAlarm; repeat' split
  all_goals simp [h]

@[simp] theorem actOnAlarm_scanner : (actOnAlarm i s).scanner = s.scanner := by
  have h := scanner_of_beyondMove (beyondMove_enterDischarged s)
  unfold actOnAlarm; repeat' split
  all_goals simp [h]

@[simp] theorem actOnAlarm_custody : (actOnAlarm i s).custody = s.custody := by
  have h := custody_of_beyondMove (beyondMove_enterDischarged s)
  unfold actOnAlarm; repeat' split
  all_goals simp [h]

@[simp] theorem actOnAlarm_hold : (actOnAlarm i s).hold = s.hold := by
  have h := hold_of_beyondMove (beyondMove_enterDischarged s)
  unfold actOnAlarm; repeat' split
  all_goals simp [h]

/-- Only the manual rule in STABILIZING reaches the input records. -/
theorem actOnAlarm_sup (h : ¬ (inputType i s = .manualRelease ∧ s.fire.state = .stabilizing)) :
    (actOnAlarm i s).sup = s.sup := by
  unfold actOnAlarm
  split
  case h_2 hm => exact sup_of_beyondMove (beyondMove_manualRule s fun hs => h ⟨hm, hs⟩)
  case h_3 =>
    split
    · exact sup_of_beyondMove (beyondMove_enterDischarged s)
    · rfl
  all_goals simp

theorem inputRecord_manualRule_stabilizing (h : s.fire.state = .stabilizing) (hsize : s.sup.inputs.length = 6)
    (j : InputNo) : inputRecord j (manualRule s) = releasedRecord j s := by
  have hb := beyondMove_manualMove s
  have hsup := sup_of_beyondMove hb
  rw [manualRule_eq, if_pos h, inputRecord_endStabilization _ (by rw [hsup, hsize])]
  exact releasedRecord_congr j (inputRecord_congr j (by rw [hsup])) (cfg_of_beyondMove hb)

/-! ### A raised state stays raised -/

theorem raised_evaluateFire (h : s.fire.state.raised = true) : (evaluateFire s).fire.state.raised = true := by
  have entry : (confirmationEntry s).fire.state.raised = true := by
    unfold confirmationEntry enterPreDischarge; repeat' split
    all_goals rfl
  have manual : (manualEntry s).fire.state.raised = true := by
    unfold manualEntry enterDischarged startRelease enterPreDischarge; repeat' split
    all_goals rfl
  unfold evaluateFire
  cases hs : s.fire.state with
  | confirmed =>
    simp only [manualRule, hs]
    repeat' split
    · exact manual
    · exact h
    · exact entry
    · exact h
  | alert =>
    dsimp only
    split
    · exact entry
    · exact h
  | preDischarge | held =>
    dsimp only
    split
    · rfl
    · exact h
  | normal | stabilizing | discharged | test => simp_all [FireState.raised]

theorem raised_manualRule (h : s.fire.state.raised = true) : (manualRule s).fire.state.raised = true := by
  have hs : s.fire.state ≠ .stabilizing := fun e => by rw [e] at h; cases h
  have ht : s.fire.state ≠ .test := fun e => by rw [e] at h; cases h
  rw [manualRule_eq, if_neg hs]
  by_cases hd : s.fire.state = .discharged
  · rw [manualMove, if_pos (.inl hd)]
    exact h
  · cases ha : armed s with
    | true =>
      rw [manualMove_armed ha hd ht]
      split <;> rfl
    | false =>
      rw [manualMove_unarmed ha ht]
      split
      · exact h
      · rfl

theorem raised_actOnAlarm (h : s.fire.state.raised = true) : (actOnAlarm i s).fire.state.raised = true := by
  unfold actOnAlarm
  split
  case h_1 => exact raised_evaluateFire s h
  case h_2 => exact raised_manualRule s h
  case h_3 =>
    split
    · unfold enterDischarged startRelease
      split <;> rfl
    · exact h
  all_goals exact h

end

end Sys2Proof.Machine
end

section
/-! ## The end of a verification -/

namespace Sys2Proof.Machine

variable (s : State) (i : InputNo)

/-! ### The input settled in ALARM, and what its alarm does -/

/-- An input settled in ALARM by its verification, its troubles with it (R7, R9, R10). -/
def alarmSettled (i : InputNo) (s : State) : State :=
  bandTroubles i .alarm
    (setInput i
      { settled := .alarm, candidate := none, stage := if inputType i s = .abort then .ready else .latched } s)

/-- What the verified alarm does at the fire controller, before the event's end (R20, R21, R39). -/
def alarmActed (i : InputNo) (s : State) : State :=
  let w := alarmSettled i s
  if inputType i s = .abort then
    let t := withAborts (insertAbort i s.fire.ownAbort) w
    evaluateFire (if s.fire.state = .test then testAlarm i t else t)
  else if s.fire.state = .test then testAlarm i (setLatch i (.test 5) w)
  else actOnAlarm i (setLatch i .fire w)

@[simp] theorem alarmSettled_fire : (alarmSettled i s).fire = s.fire := by simp [alarmSettled]
@[simp] theorem alarmSettled_cfg : (alarmSettled i s).cfg = s.cfg := by simp [alarmSettled]
@[simp] theorem alarmSettled_climate : (alarmSettled i s).climate = s.climate := by simp [alarmSettled]
@[simp] theorem alarmSettled_scanner : (alarmSettled i s).scanner = s.scanner := by simp [alarmSettled]
@[simp] theorem alarmSettled_custody : (alarmSettled i s).custody = s.custody := by simp [alarmSettled]
@[simp] theorem alarmSettled_hold : (alarmSettled i s).hold = s.hold := by simp [alarmSettled]

theorem inputRecord_alarmSettled (h : s.sup.inputs.length = 6) (j : InputNo) :
    inputRecord j (alarmSettled i s) =
      if j = i then
        { settled := .alarm, candidate := none, stage := if inputType i s = .abort then .ready else .latched }
      else inputRecord j s := by
  rw [← inputRecord_setInput s i j _ h]
  exact inputRecord_congr j (congrArg Supervisor.inputs (bandTroubles_sup _ i _))

theorem alarmSettled_inputs_length (h : s.sup.inputs.length = 6) : (alarmSettled i s).sup.inputs.length = 6 := by
  simp [alarmSettled, h]

theorem verified_eq : verified i s = settleFire s.fire (alarmActed i s) := by
  have hfire : (alarmSettled i s).fire = s.fire := alarmSettled_fire s i
  have htype : inputType i s = .abort → verified i s = abortOn i (alarmSettled i s) := fun h => if_pos h
  have htype' : inputType i s ≠ .abort → verified i s = alarmVerified i (alarmSettled i s) := fun h => if_neg h
  by_cases h : inputType i s = .abort
  · rw [htype h, abortOn, fireEvent, alarmActed, if_pos h, hfire]
  · rw [htype' h, alarmVerified, fireEvent, alarmActed, if_neg h, hfire]
    rfl

/-! ### What the alarm leaves -/

@[simp] theorem testAlarm_sup : (testAlarm i s).sup = s.sup := by simp [testAlarm]
@[simp] theorem testAlarm_climate : (testAlarm i s).climate = s.climate := by simp [testAlarm]
@[simp] theorem testAlarm_scanner : (testAlarm i s).scanner = s.scanner := by simp [testAlarm]
@[simp] theorem testAlarm_custody : (testAlarm i s).custody = s.custody := by simp [testAlarm]
@[simp] theorem testAlarm_hold : (testAlarm i s).hold = s.hold := by simp [testAlarm]
@[simp] theorem testAlarm_fire : (testAlarm i s).fire = { s.fire with testPulse := some 1 } := by
  simp [testAlarm, Config.testPulseSeconds]

theorem alarmActed_hold : (alarmActed i s).hold = s.hold := by
  unfold alarmActed; dsimp only; repeat' split
  all_goals simp

theorem alarmActed_scanner : (alarmActed i s).scanner = s.scanner := by
  unfold alarmActed; dsimp only; repeat' split
  all_goals simp

theorem alarmActed_custody : (alarmActed i s).custody = s.custody := by
  unfold alarmActed; dsimp only; repeat' split
  all_goals simp

theorem beyondEvent_alarmActed : beyondEvent (alarmActed i s) = beyondEvent s := by
  unfold alarmActed alarmSettled; dsimp only; repeat' split
  all_goals simp

theorem raised_alarmActed (h : s.fire.state.raised = true) : (alarmActed i s).fire.state.raised = true := by
  have ht : s.fire.state ≠ .test := fun e => by rw [e] at h; cases h
  unfold alarmActed
  dsimp only
  rw [if_neg ht, if_neg ht]
  split
  · exact raised_evaluateFire _ (by simpa [withAborts] using h)
  · exact raised_actOnAlarm _ i (by simpa using h)

/-- Of an ABORT input: the latches stand, and it is an own abort (R21). -/
theorem alarmActed_abort (h : inputType i s = .abort) :
    (alarmActed i s).fire.ownAbort = insertAbort i s.fire.ownAbort ∧
      (alarmActed i s).fire.latches = s.fire.latches ∧ (alarmActed i s).sup = (alarmSettled i s).sup := by
  rw [alarmActed, if_pos h]
  by_cases ht : s.fire.state = .test <;> simp [ht, withAborts]

@[simp] theorem beyondEvent_alarmSettled : beyondEvent (alarmSettled i s) = beyondEvent s := by simp [alarmSettled]

/-- Of another input: the own aborts stand. -/
theorem alarmActed_ownAbort (h : inputType i s ≠ .abort) : (alarmActed i s).fire.ownAbort = s.fire.ownAbort := by
  rw [alarmActed, if_neg h]
  split <;> simp

/-- Only the end of STABILIZING tells troubles. -/
theorem alarmActed_out (h : inputType i s ≠ .manualRelease) : (alarmActed i s).out = (alarmSettled i s).out := by
  have htype : inputType i (setLatch i .fire (alarmSettled i s)) ≠ .manualRelease := fun e =>
    h ((inputType_congr i (by simp)).symm.trans e)
  have discharged := fun u : State => out_of_beyondMove (beyondMove_enterDischarged u)
  unfold alarmActed actOnAlarm
  dsimp only
  repeat' split
  case h_2 hm => exact absurd hm htype
  all_goals simp [testAlarm, withAborts, discharged]

/-- Of another input in TEST: a TEST latch and a test pulse (R39). -/
theorem alarmActed_test (h : inputType i s ≠ .abort) (ht : s.fire.state = .test) :
    alarmActed i s = testAlarm i (setLatch i (.test 5) (alarmSettled i s)) := by
  rw [alarmActed, if_neg h, if_pos ht]

/-- Of another input outside TEST: a FIRE latch, and what it does by the input's type (R20). -/
theorem alarmActed_fire (h : inputType i s ≠ .abort) (ht : s.fire.state ≠ .test) :
    alarmActed i s = actOnAlarm i (setLatch i .fire (alarmSettled i s)) := by
  rw [alarmActed, if_neg h, if_neg ht]

theorem latchOf_alarmActed_test (h : inputType i s ≠ .abort) (ht : s.fire.state = .test)
    (hsize : s.fire.latches.length = 6) (j : InputNo) :
    latchOf j (alarmActed i s) = if j = i then .test 5 else latchOf j s := by
  rw [alarmActed_test s i h ht, latchOf_congr (s := setLatch i (.test 5) (alarmSettled i s)) j (by simp),
    latchOf_setLatch _ i j _ (by simp [hsize]), latchOf_congr (s := s) j (by simp)]

theorem latchOf_alarmActed_fire (h : inputType i s ≠ .abort) (ht : s.fire.state ≠ .test)
    (hsize : s.fire.latches.length = 6) (j : InputNo) :
    latchOf j (alarmActed i s) = if j = i then .fire else latchOf j s := by
  rw [alarmActed_fire s i h ht, latchOf_congr (s := setLatch i .fire (alarmSettled i s)) j (by simp),
    latchOf_setLatch _ i j _ (by simp [hsize]), latchOf_congr (s := s) j (by simp)]

/-- Unless a MANUAL_RELEASE alarm ends STABILIZING, the alarm reaches no input record but the input's own. -/
theorem alarmActed_sup (h : ¬ (inputType i s = .manualRelease ∧ s.fire.state = .stabilizing)) :
    (alarmActed i s).sup = (alarmSettled i s).sup := by
  by_cases ha : inputType i s = .abort
  · exact (alarmActed_abort s i ha).2.2
  · by_cases ht : s.fire.state = .test
    · rw [alarmActed_test s i ha ht, testAlarm_sup, setLatch_sup]
    · rw [alarmActed_fire s i ha ht, actOnAlarm_sup, setLatch_sup]
      intro ⟨hm, hs⟩
      exact h ⟨(inputType_congr i (by simp)).symm.trans hm, by simpa using hs⟩

/-- A DETECTOR's alarm is evaluated (R20). -/
theorem alarmActed_detector (h : inputType i s = .detector) (ht : s.fire.state ≠ .test) :
    alarmActed i s = evaluateFire (setLatch i .fire (alarmSettled i s)) := by
  have htype : inputType i (setLatch i .fire (alarmSettled i s)) = .detector :=
    (inputType_congr i (by simp)).trans h
  rw [alarmActed_fire s i (by simp [h]) ht]
  simp only [actOnAlarm, htype]

/-- A MANUAL_RELEASE alarm is the manual rule's. -/
theorem alarmActed_manual (h : inputType i s = .manualRelease) (ht : s.fire.state ≠ .test) :
    alarmActed i s = manualRule (setLatch i .fire (alarmSettled i s)) := by
  have htype : inputType i (setLatch i .fire (alarmSettled i s)) = .manualRelease :=
    (inputType_congr i (by simp)).trans h
  rw [alarmActed_fire s i (by simp [h]) ht]
  simp only [actOnAlarm, htype]

/-- The records after a verified alarm: the input's own, and the others as the end of STABILIZING leaves them where a
MANUAL_RELEASE alarm ends it. -/
theorem inputRecord_alarmActed (hsize : s.sup.inputs.length = 6) (j : InputNo) :
    inputRecord j (alarmActed i s) =
      if j = i then
        { settled := .alarm, candidate := none, stage := if inputType i s = .abort then .ready else .latched }
      else if inputType i s = .manualRelease ∧ s.fire.state = .stabilizing then releasedRecord j s
      else inputRecord j s := by
  have own := inputRecord_alarmSettled s i hsize j
  by_cases h : inputType i s = .manualRelease ∧ s.fire.state = .stabilizing
  · obtain ⟨hm, hs⟩ := h
    generalize hw : setLatch i .fire (alarmSettled i s) = w
    have hstate : w.fire.state = .stabilizing := by rw [← hw]; simp [hs]
    have hlen : w.sup.inputs.length = 6 := by rw [← hw]; exact alarmSettled_inputs_length s i hsize
    have hrecord : inputRecord j w = inputRecord j (alarmSettled i s) := by rw [← hw]; rfl
    have hcfg : w.cfg = s.cfg := by rw [← hw]; simp
    rw [alarmActed_manual s i hm (by simp [hs]), hw, inputRecord_manualRule_stabilizing w hstate hlen]
    by_cases e : j = i
    · rw [if_pos e] at own ⊢
      rw [releasedRecord, hrecord, own]
      simp [hm]
    · rw [if_neg e] at own ⊢
      rw [if_pos ⟨hm, hs⟩]
      exact releasedRecord_congr j (hrecord.trans own) hcfg
  · rw [inputRecord_congr j (congrArg Supervisor.inputs (alarmActed_sup s i h)), own, if_neg h]

/-! ### The slots -/

/-- In a raised state, or with the climate's own conditions, the hold countdown pauses. -/
theorem pauseCondition_mono {s t : State} (hc : t.climate = { s.climate with episode := t.climate.episode })
    (hraised : s.fire.state.raised = true → t.fire.state.raised = true) (h : pauseCondition s = true) :
    pauseCondition t = true := by
  have he : t.climate.excursion = s.climate.excursion := by rw [hc]
  have hst : t.climate.state = s.climate.state := by rw [hc]
  simp only [pauseCondition, Bool.or_eq_true, he, hst] at h ⊢
  exact h.imp_right hraised

/-- A verified alarm ends no pause, and so takes no minute from a hold. -/
theorem verified_scanner (hp : PauseFollows s) : (verified i s).scanner = s.scanner := by
  have mono := pauseCondition_mono (climate_of_beyondEvent (beyondEvent_alarmActed s i)) (raised_alarmActed s i)
  rw [verified_eq, settleFire_scanner, if_neg, alarmActed_scanner]
  rintro ⟨-, hpaused, hends, -⟩
  rw [alarmActed_hold, hp] at hpaused
  rw [mono hpaused] at hends
  cases hends

/-! ### The two ends of a verification -/

/-- The last state of an input's second ALARM scan. -/
theorem exec_second_alarm {s : State} {i : InputNo} {c : Code} {n : Nat} (hr : s.phase = .running)
    (hc : s.sup.conv = .input i) (hs : (inputRecord i s).stage = .verifying (.count (n + 1)))
    (ha : scanBand .alarm c = .alarm) :
    exec (.inputConversionEnd c) s = .next (queueAlarmIfChanged s (continueScan i (verified i s))) := by
  rw [exec_inputConversionEnd s i c hr hc]
  simp only [judgeCode, hs, ha, if_true, continueVerification, Nat.add_eq_zero_iff, one_ne_zero, and_false, if_false]

theorem exec_verifyTimerExpiry {s : State} {i : InputNo} {n : Nat} (hr : s.phase = .running)
    (hs : (inputRecord i s).stage = .verifying (.timer n)) :
    exec (.verifyTimerExpiry i) s = .next (queueAlarmIfChanged s (verified i s)) := by
  refine (runEvent_running (verifyOver i) s hr).trans ?_
  simp only [verifyOver, hs]

theorem exec_verifyTimerExpiry_idle (s : State) (i : InputNo) (hr : s.phase = .running)
    (h : verifyTimer (inputRecord i s) = none) : exec (.verifyTimerExpiry i) s = .next s := by
  have idle : verifyOver i s = s := by
    unfold verifyOver
    split
    case h_1 hs => simp [verifyTimer, hs] at h
    case h_2 => rfl
  exact (runEvent_unreported (verifyOver i) s hr (by rw [idle])).trans (by rw [idle])

theorem mem_insertAbort (l : List InputNo) : i ∈ insertAbort i l := by
  unfold insertAbort
  split
  case isTrue h => simpa using h
  case isFalse => simp

/-- What a second ALARM scan leaves. -/
theorem second_alarm (hsize : FixedSizes s) (t : State)
    (ht : t = queueAlarmIfChanged s (continueScan i (verified i s))) :
    inputRecord i t = { settled := .alarm, candidate := none,
                        stage := if inputType i s = .abort then .ready else .latched } ∧
    (if inputType i s = .abort then i ∈ t.fire.ownAbort ∧ t.fire.latches = s.fire.latches
     else if s.fire.state = .test then
       latchOf i t = .test 5 ∧ t.fire.testPulse = some 1 ∧ t.fire.state = .test ∧ t.fire.ownAbort = s.fire.ownAbort
     else latchOf i t = .fire ∧ t.fire.ownAbort = s.fire.ownAbort) ∧
    (∀ j : InputNo, j ≠ i → latchOf j t = latchOf j s ∧
      (s.fire.state ≠ .stabilizing → inputRecord j t = inputRecord j s)) ∧
    t.reader = s.reader ∧ t.consignments = s.consignments ∧ t.uptime = s.uptime ∧ t.cfg = s.cfg ∧
    t.fire.isolated = s.fire.isolated ∧ t.climate.bay = s.climate.bay ∧ t.climate.state = s.climate.state ∧
    (PauseFollows s → t.scanner = s.scanner) := by
  obtain ⟨hinputs, -, hlatches, -⟩ := hsize
  have hb : beyondEvent (verified i s) = beyondEvent s := beyondEvent_verified s i
  have hfire : t.fire = (verified i s).fire := by rw [ht]; simp
  have record : ∀ j, inputRecord j t = inputRecord j (alarmActed i s) := fun j =>
    inputRecord_congr j (by rw [ht, verified_eq]; simp)
  have latch : ∀ j, latchOf j t = latchOf j (alarmActed i s) := fun j =>
    latchOf_congr j (by rw [hfire, verified_eq]; simp)
  have haborts : t.fire.ownAbort = (alarmActed i s).fire.ownAbort := by rw [hfire, verified_eq]; simp
  refine ⟨?_, ?_, fun j hj => ⟨?_, fun hs => ?_⟩, ?_⟩
  · rw [record, inputRecord_alarmActed s i hinputs, if_pos rfl]
  · by_cases ha : inputType i s = .abort
    · obtain ⟨hown, hlatch, -⟩ := alarmActed_abort s i ha
      rw [if_pos ha, haborts, hown]
      exact ⟨mem_insertAbort i _, by rw [hfire, verified_eq]; simp [hlatch]⟩
    · rw [if_neg ha]
      split
      case isTrue htest =>
        rw [latch, latchOf_alarmActed_test s i ha htest hlatches, if_pos rfl, haborts, hfire, verified_eq,
          settleFire_testPulse, settleFire_fireState, alarmActed_test s i ha htest]
        simp [htest]
      case isFalse htest =>
        rw [latch, latchOf_alarmActed_fire s i ha htest hlatches, if_pos rfl, haborts, alarmActed_fire s i ha htest]
        simp
  · by_cases ha : inputType i s = .abort
    · rw [latch]
      exact latchOf_congr j (alarmActed_abort s i ha).2.1
    · by_cases htest : s.fire.state = .test
      · rw [latch, latchOf_alarmActed_test s i ha htest hlatches, if_neg hj]
      · rw [latch, latchOf_alarmActed_fire s i ha htest hlatches, if_neg hj]
  · rw [record, inputRecord_alarmActed s i hinputs, if_neg hj, if_neg fun k => hs k.2]
  · refine ⟨?_, ?_, ?_, ?_, ?_, ?_, ?_, fun hp => ?_⟩
    · rw [ht, queueAlarmIfChanged_reader, continueScan_reader, reader_of_beyondEvent hb]
    · rw [ht, queueAlarmIfChanged_consignments, continueScan_consignments, consignments_of_beyondEvent hb]
    · rw [ht, queueAlarmIfChanged_uptime, continueScan_uptime, uptime_of_beyondEvent hb]
    · rw [ht, queueAlarmIfChanged_cfg, continueScan_cfg, cfg_of_beyondEvent hb]
    · rw [hfire, isolated_of_beyondEvent hb]
    · rw [ht, queueAlarmIfChanged_climate, continueScan_climate, bay_of_beyondEvent hb]
    · rw [ht, queueAlarmIfChanged_climate, continueScan_climate, climateState_of_beyondEvent hb]
    · rw [ht, queueAlarmIfChanged_scanner, continueScan_scanner, verified_scanner s i hp]

/-- An input of type DETECTOR with a FIRE latch is an own alarm. -/
theorem one_le_ownAlarmCount {s : State} {i : InputNo} (htype : inputType i s = .detector) (h : latchOf i s = .fire) :
    1 ≤ ownAlarmCount s := by
  have counts : countsAsAlarm s i = true := by simp [countsAsAlarm, htype, h]
  exact List.length_pos_of_mem (List.mem_filter.2 ⟨mem_allInputs i, counts⟩)

/-- With an own alarm the evaluation from NORMAL raises the fire state. -/
theorem raised_evaluatedFromNormal {s : State} (h : 1 ≤ ownAlarmCount s) : (evaluatedFromNormal s).raised = true := by
  have alert : alertCondition s = true := by
    have : 1 ≤ spaceAlarmCount s := le_trans h (Nat.le_add_right _ _)
    simp [alertCondition, this]
  unfold evaluatedFromNormal
  rw [if_pos alert]
  repeat' split
  all_goals rfl

/-- What the verify timer of a DETECTOR leaves. -/
theorem detector_verified (hsize : FixedSizes s) (htype : inputType i s = .detector) (t : State)
    (ht : t = queueAlarmIfChanged s (verified i s)) :
    inputRecord i t = { settled := .alarm, candidate := none, stage := .latched } ∧
    troubleActive (.inputOpen i) t = false ∧ troubleActive (.inputShort i) t = false ∧
    (if s.fire.state = .test then latchOf i t = .test 5 ∧ t.fire.testPulse = some 1 ∧ t.fire.state = .test
     else latchOf i t = .fire ∧ 1 ≤ ownAlarmCount t) ∧
    (s.fire.state = .normal → t.fire.state = evaluatedFromNormal t ∧ t.fire.state.raised = true) ∧
    (∀ j : InputNo, j ≠ i → latchOf j t = latchOf j s ∧ inputRecord j t = inputRecord j s) ∧
    t.sup = { s.sup with inputs := t.sup.inputs } ∧ t.fire.isolated = s.fire.isolated ∧
    t.fire.ownAbort = s.fire.ownAbort ∧
    t.reader = s.reader ∧ t.consignments = s.consignments ∧ t.uptime = s.uptime ∧ t.cfg = s.cfg := by
  obtain ⟨hinputs, -, hlatches, -⟩ := hsize
  have ha : inputType i s ≠ .abort := by simp [htype]
  have hm : inputType i s ≠ .manualRelease := by simp [htype]
  have hb : beyondEvent t = beyondEvent s := by rw [ht, beyondEvent_queueAlarmIfChanged, beyondEvent_verified]
  have hfire : t.fire = (settleFire s.fire (alarmActed i s)).fire := by rw [ht, queueAlarmIfChanged_fire, verified_eq]
  have record : ∀ j, inputRecord j t = inputRecord j (alarmActed i s) := fun j =>
    inputRecord_congr j (by rw [ht, verified_eq]; simp)
  have latch : ∀ j, latchOf j t = latchOf j (alarmActed i s) := fun j => latchOf_congr j (by rw [hfire]; simp)
  have haborts : t.fire.ownAbort = (alarmActed i s).fire.ownAbort := by rw [hfire]; simp
  have hout : t.out = (alarmSettled i s).out := by
    rw [ht, queueAlarmIfChanged_out, verified_eq, settleFire_out, alarmActed_out s i hm]
  refine ⟨?_, ?_, ?_, ?_, fun hn => ?_, fun j hj => ⟨?_, ?_⟩, sup_of_beyondEvent hb, isolated_of_beyondEvent hb, ?_,
    reader_of_beyondEvent hb, consignments_of_beyondEvent hb, uptime_of_beyondEvent hb, cfg_of_beyondEvent hb⟩
  · rw [record, inputRecord_alarmActed s i hinputs, if_pos rfl, if_neg ha]
  · rw [troubleActive, hout]
    exact (troubleActive_bandTroubles _ i _ _).trans (by simp)
  · rw [troubleActive, hout]
    exact (troubleActive_bandTroubles _ i _ _).trans (by simp)
  · split
    case isTrue htest =>
      rw [latch, latchOf_alarmActed_test s i ha htest hlatches, if_pos rfl, hfire, settleFire_testPulse,
        settleFire_fireState, alarmActed_test s i ha htest]
      simp [htest]
    case isFalse htest =>
      have hlatch : latchOf i t = .fire := by
        rw [latch, latchOf_alarmActed_fire s i ha htest hlatches, if_pos rfl]
      exact ⟨hlatch, one_le_ownAlarmCount ((inputType_congr i (cfg_of_beyondEvent hb)).trans htype) hlatch⟩
  · have htest : s.fire.state ≠ .test := by simp [hn]
    have hlatch : latchOf i t = .fire := by
      rw [latch, latchOf_alarmActed_fire s i ha htest hlatches, if_pos rfl]
    have count := one_le_ownAlarmCount ((inputType_congr i (cfg_of_beyondEvent hb)).trans htype) hlatch
    have evaluated : t.fire.state = evaluatedFromNormal t := by
      rw [hfire, settleFire_fireState, alarmActed_detector s i htype htest,
        evaluateFire_state_of_normal _ (by simp [hn])]
      have hlatches' : t.fire.latches = (alarmActed i s).fire.latches := by rw [hfire]; simp
      rw [alarmActed_detector s i htype htest, evaluateFire_latches] at hlatches'
      refine (evaluatedFromNormal_congr ?_ hlatches' ?_ ?_ ?_).symm
      · simp [cfg_of_beyondEvent hb]
      · rw [haborts, alarmActed_detector s i htype htest, evaluateFire_ownAbort]
      · simp [isolated_of_beyondEvent hb]
      · rw [peers_of_beyondEvent hb]
        exact (peers_of_beyondEvent ((beyondEvent_setLatch _ i .fire).trans (beyondEvent_alarmSettled s i))).symm
    exact ⟨evaluated, by rw [evaluated]; exact raised_evaluatedFromNormal count⟩
  · by_cases htest : s.fire.state = .test
    · rw [latch, latchOf_alarmActed_test s i ha htest hlatches, if_neg hj]
    · rw [latch, latchOf_alarmActed_fire s i ha htest hlatches, if_neg hj]
  · rw [record, inputRecord_alarmActed s i hinputs, if_neg hj, if_neg fun k => hm k.1]
  · rw [haborts, alarmActed_ownAbort s i ha]

/-! ### A conversion that gives no indication -/

/-- A conversion that leaves the fire record as it is ends as the arbiter leaves it. -/
theorem exec_quiet_conversion {s u : State} {i : InputNo} {c : Code} (hr : s.phase = .running)
    (hc : s.sup.conv = .input i) (hu : judgeCode i c s = u) (hfire : u.fire = s.fire) :
    exec (.inputConversionEnd c) s = .next (continueScan i u) := by
  have hcfg : u.cfg = s.cfg := hu ▸ cfg_of_beyondEvent (beyondEvent_judgeCode s i c)
  rw [exec_inputConversionEnd s i c hr hc, hu, queueAlarmIfChanged_of_fire_eq]
  · rw [continueScan_fire, hfire]
  · rw [continueScan_cfg, hcfg]

/-- A code that leaves ALARM by its row, and leaves a settled band, is no ALARM code by that band's row. -/
theorem scanBand_ne_alarm {b : Band} {c : Code} (ha : scanBand .alarm c ≠ .alarm) (hb : scanBand b c ≠ b) :
    scanBand b c ≠ .alarm := by
  have leaves : leavesBand b c = true := by
    cases h : leavesBand b c with
    | true => rfl
    | false => exact absurd (scanBand_of_stays h) hb
  rw [scanBand_of_leaves leaves]
  exact plainBand_ne_of_leaves (by simp) ((scanBand_ne_iff (by simp) c).1 ha) (by omega) (by omega)

/-- The state in which an unverified input is judged again: in stage READY, the report queued for a DETECTOR. -/
def unverifiedState (i : InputNo) (s : State) : State :=
  let t := setInput i { inputRecord i s with stage := .ready } s
  if inputType i s = .detector then queueReport (unverifiedReport i) t else t

theorem unverifiedState_eq :
    unverifiedState i s =
      { s with
        sup := (setInput i { inputRecord i s with stage := .ready } s).sup,
        line := if inputType i s = .detector ∧ reportsGoOut s = true then pushReport (unverifiedReport i) s.line
          else s.line } := by
  have out : reportsGoOut (setInput i { inputRecord i s with stage := .ready } s) = reportsGoOut s := rfl
  unfold unverifiedState queueReport
  dsimp only
  rw [out]
  split <;> split <;> simp_all <;> rfl

/-- What an unverified end leaves: the record judged again from stage READY. -/
theorem judgeCode_unverified {c : Code} {v : Verification} (hs : (inputRecord i s).stage = .verifying v)
    (hn : (inputRecord i s).candidate = none) (ha : scanBand .alarm c ≠ .alarm) (hsize : s.sup.inputs.length = 6) :
    judgeCode i c s =
      setInput i
        { settled := (inputRecord i s).settled, stage := .ready,
          candidate := if scanBand (inputRecord i s).settled c = (inputRecord i s).settled then none
            else some (scanBand (inputRecord i s).settled c) } (unverifiedState i s) := by
  have again : judgeCode i c s = judgeSettled i c (unverifiedState i s) := by
    simp only [judgeCode, hs, if_neg ha]
    rfl
  have record : inputRecord i (unverifiedState i s) = { inputRecord i s with stage := .ready } := by
    rw [← (inputRecord_setInput s i i { inputRecord i s with stage := .ready } hsize).trans (if_pos rfl)]
    exact inputRecord_congr i (by rw [unverifiedState_eq])
  have stays : ¬ Settles i c (unverifiedState i s) := fun k => by
    have := k.2.2
    rw [record] at this
    simp [hn] at this
  rw [again, judgeSettled_of_not_settles stays, judgedRecord, record]
  by_cases hb : scanBand (inputRecord i s).settled c = (inputRecord i s).settled
  · simp [hb]
  · simp [hb, hn, scanBand_ne_alarm ha hb]

/-- A code that gives ALARM while the verify timer runs, or at a count of 0. -/
theorem judgeCode_goes_on {c : Code}
    (hs : (inputRecord i s).stage = .verifying (.count 0) ∨ (verifyTimer (inputRecord i s)).isSome = true)
    (ha : scanBand .alarm c = .alarm) :
    judgeCode i c s = if (inputRecord i s).stage = .verifying (.count 0) then
      setInput i { inputRecord i s with stage := .verifying (.count 1) } s else s := by
  by_cases h0 : (inputRecord i s).stage = .verifying (.count 0)
  · rw [if_pos h0]
    simp only [judgeCode, h0, ha, if_true, continueVerification]
  · rw [if_neg h0]
    have timer : ∃ n, (inputRecord i s).stage = .verifying (.timer n) := by
      have running := hs.resolve_left h0
      unfold verifyTimer at running
      split at running
      case h_1 n hn => exact ⟨n, hn⟩
      case h_2 => cases running
    obtain ⟨n, hn⟩ := timer
    simp only [judgeCode, hn, ha, if_true, continueVerification]

/-- Settles O22: the two verified ends by `second_alarm` and `detector_verified`, the codes that verify nothing by
`judgeCode_unverified` and `judgeCode_goes_on`. -/
theorem verificationsEndInAnAlarmOrUnverified : Obligations.VerificationsEndInAnAlarmOrUnverified := by
  unfold Obligations.VerificationsEndInAnAlarmOrUnverified
  refine ⟨fun s i c n hr hsize hc hs ha => ⟨_, exec_second_alarm hr hc hs ha, second_alarm s i hsize _ rfl⟩,
    fun s i n hr hsize hs htype => ⟨_, exec_verifyTimerExpiry hr hs, detector_verified s i hsize htype _ rfl⟩,
    exec_verifyTimerExpiry_idle, fun s i c v hr hsize hc hs hn ha => ?_, fun s i c hr hsize hc hs ha => ?_⟩
  · have judged := judgeCode_unverified s i hs hn ha hsize.1
    generalize hu : setInput i _ (unverifiedState i s) = u at judged
    have hstate := unverifiedState_eq s i
    have hinputs : (unverifiedState i s).sup.inputs.length = 6 := by rw [hstate]; simp [hsize.1]
    have record := fun j =>
      (congrArg (inputRecord j) hu).symm.trans (inputRecord_setInput (unverifiedState i s) i j _ hinputs)
    have others : ∀ j, j ≠ i → inputRecord j (unverifiedState i s) = inputRecord j s := fun j hj => by
      rw [← (inputRecord_setInput s i j { inputRecord i s with stage := .ready } hsize.1).trans (if_neg hj)]
      exact inputRecord_congr j (by rw [hstate])
    refine ⟨_, exec_quiet_conversion hr hc judged (by rw [← hu, setInput_fire, hstate]), ?_, fun j hj => ?_, ?_⟩
    · exact (inputRecord_congr i (by simp)).trans ((record i).trans (if_pos rfl))
    · exact (inputRecord_congr j (by simp)).trans (((record j).trans (if_neg hj)).trans (others j hj))
    · rw [continueScan_eq_sup, ← hu, hstate]
      rfl
  · have judged := judgeCode_goes_on s i hs ha
    have run := exec_quiet_conversion hr hc judged (by split <;> rfl)
    refine ⟨_, run, ?_, fun j hj => ?_, ?_⟩
    · rw [inputRecord_congr i (continueScan_inputs _ i)]
      split
      · exact (inputRecord_setInput s i i _ hsize.1).trans (if_pos rfl)
      · rfl
    · rw [inputRecord_congr j (continueScan_inputs _ i)]
      split
      · exact (inputRecord_setInput s i j _ hsize.1).trans (if_neg hj)
      · rfl
    · rw [continueScan_eq_sup]
      split <;> rfl

end Sys2Proof.Machine
end

section
/-! ## MANUAL_RELEASE, PRESSURE and ABORT alarms -/

namespace Sys2Proof.Machine

variable (s : State)

/-! ### The report queue at the end of the event -/

/-- Before the pause is judged, a move of the fire state gives the line no more than a STATE to queue. -/
theorem beforePause_line : (beforePause s).line = { s.line with stateQueued := (beforePause s).line.stateQueued } := by
  unfold beforePause custodyAfterMove reevaluateForced beginForcing endForcing evaluateGrant startDehumidifier
    stopDehumidifier
  dsimp only
  repeat' split
  all_goals rfl

/-- Where the pause goes on, judging it reports nothing. -/
theorem judgePause_line_of_pause (h : pauseCondition s = true) : (judgePause s).line = s.line := by
  unfold judgePause
  rw [h]
  simp

/-- An event that ends in a raised state leaves the report queue as its effect made it. -/
theorem settleFire_line_of_raised (before : FireRecord) (h : s.fire.state.raised = true) :
    (settleFire before s).line = { s.line with stateQueued := (settleFire before s).line.stateQueued } := by
  unfold settleFire
  by_cases e : s.fire.state = before.state
  · rw [if_pos e]
    split <;> rfl
  · have hb := beyondSettling_beforePause s
    have pauses : pauseCondition (beforePause s) = true := by
      rw [pauseCondition_congr (climate_of_beyondSettling hb) (fireState_of_beyondSettling hb)]
      simp [pauseCondition, h]
    rw [if_neg e]
    change (judgePause (beforePause s)).line =
      { s.line with stateQueued := (judgePause (beforePause s)).line.stateQueued }
    rw [judgePause_line_of_pause _ pauses]
    exact beforePause_line s

/-- In STABILIZING a trouble is held back from the console. -/
theorem setTrouble_of_stabilizing (x : Trouble) (b : Bool) (h : s.fire.state = .stabilizing) :
    (setTrouble x b s).line = s.line ∧ (setTrouble x b s).out.reported = s.out.reported := by
  unfold setTrouble
  rw [if_pos h]
  split <;> exact ⟨rfl, rfl⟩

theorem bandTroubles_of_stabilizing (i : InputNo) (b : Band) (h : s.fire.state = .stabilizing) :
    (bandTroubles i b s).line = s.line ∧ (bandTroubles i b s).out.reported = s.out.reported := by
  obtain ⟨hline, hreported⟩ := setTrouble_of_stabilizing s (.inputOpen i) (b == .openBand) h
  obtain ⟨hline', hreported'⟩ := setTrouble_of_stabilizing (setTrouble (.inputOpen i) (b == .openBand) s)
    (.inputShort i) (b == .short) (by simp [h])
  exact ⟨hline'.trans hline, hreported'.trans hreported⟩

/-! ### The manual rule (R28) -/

theorem manualRule_fire :
    (manualRule s).fire =
      { (manualMove s).fire with stabTimer := if s.fire.state = .stabilizing then none else s.fire.stabTimer } := by
  have h := stabTimer_of_beyondMove (beyondMove_manualMove s)
  rw [manualRule_eq]
  split
  · rw [endStabilization_fire]
  · rw [← h]

/-- What the manual rule leaves, by the state and the arming it finds. -/
theorem manualRule_outcome (hp : CountdownPlaced s) (ht : s.fire.state ≠ .test) :
    if s.fire.state = .discharged then
      (manualRule s).fire.state = .discharged ∧ (manualRule s).fire.manual = s.fire.manual ∧
        (manualRule s).fire.releasePulse = s.fire.releasePulse
    else if armed s = true then
      (manualRule s).fire.manual = true ∧
        (if s.cfg.manualDelay = 0 then
           (manualRule s).fire.state = .discharged ∧ (manualRule s).fire.countdown = none ∧
             (manualRule s).fire.releasePulse = some s.cfg.releasePulse
         else
           (manualRule s).fire.state = .preDischarge ∧ (manualRule s).fire.releasePulse = s.fire.releasePulse ∧
             (manualRule s).fire.countdown =
               some (if s.fire.state = .preDischarge then min (s.fire.countdown.getD 0) s.cfg.manualDelay
                 else s.cfg.manualDelay))
    else if s.fire.state = .preDischarge then
      (manualRule s).fire.state = .preDischarge ∧ (manualRule s).fire.manual = s.fire.manual ∧
        (manualRule s).fire.countdown = s.fire.countdown
    else
      (manualRule s).fire.state = .confirmed ∧ (manualRule s).fire.manual = s.fire.manual ∧
        (manualRule s).fire.countdown = none ∧ (manualRule s).fire.releasePulse = s.fire.releasePulse := by
  rw [manualRule_fire]
  by_cases hd : s.fire.state = .discharged
  · rw [if_pos hd, manualMove, if_pos (.inl hd)]
    exact ⟨hd, rfl, rfl⟩
  rw [if_neg hd]
  by_cases ha : armed s = true
  · rw [if_pos ha, manualMove_armed ha hd ht]
    split
    · exact ⟨rfl, rfl, rfl, rfl⟩
    · refine ⟨rfl, rfl, rfl, congrArg some ?_⟩
      split
      case isTrue hs =>
        obtain ⟨n, hn⟩ := Option.isSome_iff_exists.1 (hp.2 hs)
        simp [hn]
      case isFalse => rfl
  rw [if_neg ha, manualMove_unarmed (by simpa using ha) ht]
  by_cases hs : s.fire.state = .preDischarge
  · rw [if_pos hs, if_pos (.inr (.inl hs))]
    exact ⟨hs, rfl, rfl⟩
  rw [if_neg hs]
  have none : s.fire.countdown = none := by
    have := mt hp.1 hs
    simpa using this
  split
  case isTrue hc => exact ⟨hc.resolve_left hd |>.resolve_left hs, rfl, none, rfl⟩
  case isFalse => exact ⟨rfl, rfl, rfl, rfl⟩

/-- Out of STABILIZING the manual rule ends in a raised state. -/
theorem raised_manualRule_stabilizing (h : s.fire.state = .stabilizing) : (manualRule s).fire.state.raised = true := by
  rw [manualRule_fire]
  cases ha : armed s with
  | true =>
    rw [manualMove_armed ha (by simp [h]) (by simp [h])]
    split <;> rfl
  | false =>
    rw [manualMove_unarmed ha (by simp [h]), if_neg (by simp [h])]
    rfl

/-- At the end of STABILIZING by the manual rule, the console is told the troubles held back. -/
theorem manualRule_told (h : s.fire.state = .stabilizing) :
    (manualRule s).out.active = s.out.active ∧ (manualRule s).out.reported = s.out.active ∧
      (manualRule s).line = (queueReports (heldBackReports s.out.reported s.out.active) s).line := by
  have hb := beyondMove_manualMove s
  have hout := out_of_beyondMove hb
  rw [manualRule_eq, if_pos h, endStabilization_active, endStabilization_reported, endStabilization_line, hout]
  refine ⟨rfl, rfl, ?_⟩
  have out : reportsGoOut (manualMove s) = reportsGoOut s := by
    have := congrArg reportsGoOut hb
    exact this
  rw [queueReports_line, queueReports_line, line_of_beyondMove hb, out]

/-! ### The verified alarms -/

section
variable (i : InputNo)

/-- An input settled in ALARM that holds a FIRE latch (R20). -/
def alarmLatched (i : InputNo) (s : State) : State := setLatch i .fire (alarmSettled i s)

theorem alarmLatched_fire : ∃ l, (alarmLatched i s).fire = { s.fire with latches := l } :=
  ⟨s.fire.latches.set i.val .fire, by simp [alarmLatched, setLatch]⟩

@[simp] theorem alarmLatched_state : (alarmLatched i s).fire.state = s.fire.state := by simp [alarmLatched]

@[simp] theorem alarmLatched_cfg : (alarmLatched i s).cfg = s.cfg := by simp [alarmLatched]

/-- What every second ALARM scan leaves of the fire record and of the custody list. -/
theorem second_alarm_fire (t : State) (ht : t = queueAlarmIfChanged s (continueScan i (verified i s))) :
    t.fire.state = (alarmActed i s).fire.state ∧ t.fire.countdown = (alarmActed i s).fire.countdown ∧
      t.fire.manual = (alarmActed i s).fire.manual ∧ t.fire.releasePulse = (alarmActed i s).fire.releasePulse ∧
      t.fire.stabTimer = (alarmActed i s).fire.stabTimer ∧ t.fire.ownAbort = (alarmActed i s).fire.ownAbort ∧
      t.fire.latches = (alarmActed i s).fire.latches ∧ t.fire.isolated = s.fire.isolated ∧
      t.custody = custodyMoved s.fire.state t.fire.state s.custody := by
  have isolated := isolated_of_beyondEvent (beyondEvent_verified s i)
  rw [verified_eq] at isolated
  subst ht
  rw [verified_eq]
  simp only [queueAlarmIfChanged_fire, continueScan_fire, settleFire_fireState, settleFire_countdown, settleFire_manual,
    settleFire_releasePulse, settleFire_stabTimer, settleFire_ownAbort, settleFire_latches, true_and, isolated,
    queueAlarmIfChanged_custody, continueScan_custody, settleFire_custody, alarmActed_custody]

/-- A PRESSURE alarm discharges in the states that R28 names. -/
theorem pressureActed (hp : inputType i s = .pressure) (ht : s.fire.state ≠ .test) :
    alarmActed i s =
      if s.fire.state.pressureDischarges then enterDischarged (alarmLatched i s) else alarmLatched i s := by
  have htype : inputType i (alarmLatched i s) = .pressure := (inputType_congr i (alarmLatched_cfg s i)).trans hp
  rw [alarmActed_fire s i (by simp [hp]) ht]
  change actOnAlarm i (alarmLatched i s) = _
  simp only [actOnAlarm, htype, alarmLatched_state]

theorem enterDischarged_fire :
    (enterDischarged s).fire =
      { s.fire with state := .discharged, countdown := none,
                    releasePulse := if armed s then some s.cfg.releasePulse else s.fire.releasePulse } := by
  unfold enterDischarged startRelease
  rw [armed_moveFire]
  split <;> rfl

/-- The fire record after an own abort in PRE_DISCHARGE: HELD unless the countdown is manual (R31, R33). -/
theorem abortActed_preDischarge (ha : inputType i s = .abort) (hpre : s.fire.state = .preDischarge) :
    (alarmActed i s).fire =
      if s.fire.manual then { s.fire with ownAbort := insertAbort i s.fire.ownAbort }
      else { s.fire with ownAbort := insertAbort i s.fire.ownAbort, state := .held, countdown := none } := by
  have acted : alarmActed i s = evaluateFire (withAborts (insertAbort i s.fire.ownAbort) (alarmSettled i s)) := by
    simp only [alarmActed, ha, hpre, if_true, reduceCtorEq, if_false]
  generalize hw : withAborts (insertAbort i s.fire.ownAbort) (alarmSettled i s) = w at acted
  have hfire : w.fire = { s.fire with ownAbort := insertAbort i s.fire.ownAbort } := by
    rw [← hw, withAborts, alarmSettled_fire]
  have active : abortActive w = true := by
    have : (insertAbort i s.fire.ownAbort).isEmpty = false := by
      cases hl : insertAbort i s.fire.ownAbort with
      | nil => exact absurd (hl ▸ mem_insertAbort i s.fire.ownAbort) List.not_mem_nil
      | cons => rfl
    simp [abortActive, ownAbortActive, hfire, this]
  have hstate : w.fire.state = .preDischarge := by rw [hfire, hpre]
  have hmanual : w.fire.manual = s.fire.manual := by rw [hfire]
  rw [acted]
  simp only [evaluateFire, hstate, active, hmanual, Bool.true_and]
  by_cases hm : s.fire.manual = true
  · rw [if_pos hm, if_neg (by simp [hm]), hfire]
  · rw [if_neg hm, if_pos (by simp [hm]), moveFire, hfire]
    rfl

/-- What a MANUAL_RELEASE alarm tells the console when it ends STABILIZING (R25, R187). -/
theorem manual_alarm_told (hm : inputType i s = .manualRelease) (hs : s.fire.state = .stabilizing) (t : State)
    (ht : t = queueAlarmIfChanged s (continueScan i (verified i s))) :
    t.out.reported = t.out.active ∧
      (∀ x ∈ allTroubles, x ≠ .inputOpen i → x ≠ .inputShort i → troubleActive x t = troubleActive x s) ∧
      t.line.reports = (queueReports (heldBackReports s.out.reported t.out.active) s).line.reports ∧
      t.line.reportsLost = (queueReports (heldBackReports s.out.reported t.out.active) s).line.reportsLost := by
  have hstate : (alarmLatched i s).fire.state = .stabilizing := by rw [alarmLatched_state, hs]
  obtain ⟨hline, hreported⟩ := bandTroubles_of_stabilizing
    (setInput i
      { settled := .alarm, candidate := none, stage := if inputType i s = .abort then .ready else .latched } s)
    i .alarm hs
  have hline : (alarmLatched i s).line = s.line := hline
  have hreported : (alarmLatched i s).out.reported = s.out.reported := hreported
  obtain ⟨told, reported, line⟩ := manualRule_told (alarmLatched i s) hstate
  have acted : alarmActed i s = manualRule (alarmLatched i s) := alarmActed_manual s i hm (by simp [hs])
  have raised := raised_manualRule_stabilizing (alarmLatched i s) hstate
  have hout : t.out = (manualRule (alarmLatched i s)).out := by
    rw [ht, queueAlarmIfChanged_out, continueScan_out, verified_eq, settleFire_out, acted]
  have hreports : t.line.reports = (manualRule (alarmLatched i s)).line.reports ∧
      t.line.reportsLost = (manualRule (alarmLatched i s)).line.reportsLost := by
    rw [ht, queueAlarmIfChanged_reports, queueAlarmIfChanged_reportsLost, continueScan_line, verified_eq, acted,
      settleFire_line_of_raised _ _ raised]
    exact ⟨rfl, rfl⟩
  have out : reportsGoOut (alarmLatched i s) = reportsGoOut s := by
    have own : ownNumber (alarmLatched i s) = ownNumber s := by
      have := congrArg ownNumber
        ((beyondEvent_setLatch (alarmSettled i s) i .fire).trans (beyondEvent_alarmSettled s i))
      exact this
    have strap : troubleActive .strapInvalid (alarmLatched i s) = troubleActive .strapInvalid s :=
      (troubleActive_bandTroubles _ i .alarm .strapInvalid).trans rfl
    simp only [reportsGoOut, own, strap, alarmLatched_cfg]
  have lines : (manualRule (alarmLatched i s)).line =
      (queueReports (heldBackReports s.out.reported t.out.active) s).line := by
    rw [line, hout, told, hreported, queueReports_line, queueReports_line, out, hline]
  refine ⟨by rw [hout, reported, told], fun x _ ho hsh => ?_, by rw [hreports.1, lines], by rw [hreports.2, lines]⟩
  have active : troubleActive x t = troubleActive x (alarmLatched i s) := by
    rw [troubleActive, hout, told, troubleActive]
  rw [active]
  exact (troubleActive_bandTroubles _ i .alarm x).trans (by rw [if_neg hsh, if_neg ho]; rfl)

end

/-- Settles O25: the alarm's effect on the fire record by the manual rule, by the entry into DISCHARGED and by the
evaluation, with what the event's end makes of it. -/
theorem manualReleaseAndAbortActOnTheFireState : Obligations.ManualReleaseAndAbortActOnTheFireState := by
  unfold Obligations.ManualReleaseAndAbortActOnTheFireState
  refine ⟨fun s i c n hr hsize hp hc hs ha htype htest => ⟨_, exec_second_alarm hr hc hs ha, ?_⟩,
    fun s i c n hr hsize hc hs ha htype htest => ⟨_, exec_second_alarm hr hc hs ha, ?_⟩,
    fun s i c n hr hsize hc hs ha htype hpre => ⟨_, exec_second_alarm hr hc hs ha, ?_⟩⟩
  all_goals
    generalize ht : queueAlarmIfChanged s (continueScan i (verified i s)) = t
    obtain ⟨state, countdown, manual, pulse, stab, aborts, latches, isolated, custody⟩ :=
      second_alarm_fire s i t ht.symm
    obtain ⟨-, own, others, -⟩ := second_alarm s i hsize t ht.symm
    have record : ∀ j, inputRecord j t = inputRecord j (alarmActed i s) := fun j =>
      inputRecord_congr j (by rw [← ht, verified_eq]; simp)
  · rw [if_neg (by simp [htype]), if_neg htest] at own
    have acted : alarmActed i s = manualRule (alarmLatched i s) := alarmActed_manual s i htype htest
    obtain ⟨l, hfire⟩ := alarmLatched_fire s i
    have outcome := manualRule_outcome (alarmLatched i s) (by rw [CountdownPlaced, hfire]; exact hp)
      (by rw [hfire]; exact htest)
    have harmed : armed (alarmLatched i s) = armed s := by rw [armed, hfire, alarmLatched_cfg]; rfl
    rw [harmed, alarmLatched_cfg, ← acted, ← state, ← countdown, ← manual, ← pulse, hfire] at outcome
    have stab' : t.fire.stabTimer = if s.fire.state = .stabilizing then none else s.fire.stabTimer := by
      rw [stab, acted, manualRule_fire, hfire]
    refine ⟨own.1, isolated, outcome, fun hst => ⟨?_, fun j hj => ?_, manual_alarm_told s i htype hst t ht.symm⟩,
      fun hst => ⟨?_, fun j hj => (others j hj).2 hst⟩, custody⟩
    · rw [stab', if_pos hst]
    · rw [record, inputRecord_alarmActed s i hsize.1, if_neg hj, if_pos ⟨htype, hst⟩]
      rfl
    · rw [stab', if_neg hst]
  · rw [if_neg (by simp [htype]), if_neg htest] at own
    obtain ⟨l, hfire⟩ := alarmLatched_fire s i
    have harmed : armed (alarmLatched i s) = armed s := by rw [armed, hfire, alarmLatched_cfg]; rfl
    rw [pressureActed s i htype htest] at state countdown manual pulse
    by_cases hd : s.fire.state = .stabilizing ∨ s.fire.state = .discharged
    · have stays : s.fire.state.pressureDischarges = false := by rcases hd with h | h <;> rw [h] <;> rfl
      simp only [stays, Bool.false_eq_true, if_false, hfire] at state countdown manual pulse
      exact ⟨own.1, manual, isolated, by rw [if_pos hd]; exact ⟨state, pulse⟩, custody⟩
    · have discharges : s.fire.state.pressureDischarges = true := by
        cases h : s.fire.state <;> simp_all [FireState.pressureDischarges]
      simp only [discharges, if_true, enterDischarged_fire, harmed, hfire, alarmLatched_cfg]
        at state countdown manual pulse
      exact ⟨own.1, manual, isolated, by rw [if_neg hd]; exact ⟨state, countdown, pulse⟩, custody⟩
  · rw [if_pos htype] at own
    have active : ownAbortActive t = true := by
      cases hl : t.fire.ownAbort with
      | nil => rw [hl] at own; exact absurd own.1 List.not_mem_nil
      | cons j l => simp [ownAbortActive, hl]
    rw [abortActed_preDischarge s i htype hpre] at state countdown manual pulse
    by_cases hm : s.fire.manual = true
    · rw [if_pos hm] at state countdown manual pulse
      exact ⟨by rw [if_pos hm]; exact ⟨state.trans hpre, countdown⟩, manual, active, own.2, isolated, pulse, custody⟩
    · rw [if_neg hm] at state countdown manual pulse
      exact ⟨by rw [if_neg hm]; exact ⟨state, countdown⟩, manual, active, own.2, isolated, pulse, custody⟩

end Sys2Proof.Machine
end

section
/-! ## The scan and climate timers -/

namespace Sys2Proof.Machine

variable (s : State)

/-! ### An operation that changes one trouble (R187) -/

/-- From `s` to `t` no more changes than one trouble, what the console was told of it, and the report queue. -/
structure OneTrouble (x : Trouble) (s t : State) : Prop where
  frame : t = { s with line := t.line, out := { s.out with active := t.out.active, reported := t.out.reported } }
  reports : OnlyReports s.line t.line
  others : ∀ y, y ≠ x → troubleActive y t = troubleActive y s ∧
    t.out.reported.getLsbD y.code = s.out.reported.getLsbD y.code

theorem oneTrouble_refl (x : Trouble) : OneTrouble x s s := ⟨rfl, .rfl' _, fun _ _ => ⟨rfl, rfl⟩⟩

theorem setTrouble_reported_other {x y : Trouble} (b : Bool) (h : y ≠ x) :
    (setTrouble x b s).out.reported.getLsbD y.code = s.out.reported.getLsbD y.code := by
  have ne : y.code ≠ x.code := fun e => h (Trouble.code_inj e)
  unfold setTrouble
  repeat' split
  · rfl
  · rfl
  · rw [tellTrouble, setReported_out, queueReport_out]
    exact (setTroubleBit_getLsbD _ _ _ _ x.code_lt).trans (if_neg ne)

theorem setTrouble_out (x : Trouble) (b : Bool) :
    (setTrouble x b s).out =
      { s.out with active := (setTrouble x b s).out.active, reported := (setTrouble x b s).out.reported } := by
  unfold setTrouble tellTrouble
  repeat' split
  · rfl
  · rfl
  · rw [setReported_out, queueReport_out]
    rfl

theorem oneTrouble_setTrouble (x : Trouble) (b : Bool) : OneTrouble x s (setTrouble x b s) where
  frame := by rw [← setTrouble_out]; exact setTrouble_frame x b s
  reports := onlyReports_setTrouble x b s
  others _ hy := ⟨by rw [troubleActive_setTrouble, if_neg hy], setTrouble_reported_other s b hy⟩

theorem OneTrouble.sup {x : Trouble} {s t : State} (h : OneTrouble x s t) : t.sup = s.sup := by rw [h.frame]

/-! ### The release circuit check (R13) -/

/-- The two counts after a check taken, and as they were where it is not. -/
def counted (c : CircuitCheck) (s : State) : State :=
  if releaseOn s = false ∧ s.cfg.releaseEnabled = true then
    (if c = .good then { s with sup := { s.sup with goodChecks := min 2 (s.sup.goodChecks + 1), badChecks := 0 } }
     else { s with sup := { s.sup with badChecks := min 2 (s.sup.badChecks + 1), goodChecks := 0 } })
  else s

theorem counted_frame (c : CircuitCheck) :
    counted c s =
      { s with sup := { s.sup with goodChecks := (counted c s).sup.goodChecks,
                                   badChecks := (counted c s).sup.badChecks } } := by
  unfold counted
  repeat' split
  all_goals rfl

/-- The count that a check raises. -/
def countOf (c : CircuitCheck) (u : Supervisor) : Nat := if c = .good then u.goodChecks else u.badChecks

/-- The check counts, and then sets or clears its trouble at a full count. -/
theorem releaseCheck_eq (c : CircuitCheck) :
    releaseCheck c s =
      if releaseOn s = false ∧ s.cfg.releaseEnabled = true ∧ countOf c (counted c s).sup = 2 then
        setTrouble .releaseCircuit (decide (c ≠ .good)) (counted c s)
      else counted c s := by
  unfold releaseCheck counted countCheck countOf
  cases releaseOn s <;> cases s.cfg.releaseEnabled <;> cases c <;> simp

theorem oneTrouble_releaseCheck (c : CircuitCheck) : OneTrouble .releaseCircuit (counted c s) (releaseCheck c s) := by
  rw [releaseCheck_eq]
  split
  · exact oneTrouble_setTrouble _ _ _
  · exact oneTrouble_refl _ _

/-- The counts and the trouble after a check. -/
theorem releaseCheck_outcome (c : CircuitCheck) (t : State) (ht : t = releaseCheck c s) :
    if releaseOn s = false ∧ s.cfg.releaseEnabled = true then
      (if c = .good then
         t.sup.goodChecks = min 2 (s.sup.goodChecks + 1) ∧ t.sup.badChecks = 0 ∧
           troubleActive .releaseCircuit t = if t.sup.goodChecks = 2 then false else troubleActive .releaseCircuit s
       else
         t.sup.badChecks = min 2 (s.sup.badChecks + 1) ∧ t.sup.goodChecks = 0 ∧
           troubleActive .releaseCircuit t = if t.sup.badChecks = 2 then true else troubleActive .releaseCircuit s)
    else t.sup.goodChecks = s.sup.goodChecks ∧ t.sup.badChecks = s.sup.badChecks ∧ t.out = s.out := by
  have sup : t.sup = (counted c s).sup := by rw [ht]; exact (oneTrouble_releaseCheck s c).sup
  have stays : troubleActive .releaseCircuit (counted c s) = troubleActive .releaseCircuit s := by
    rw [counted_frame]; rfl
  rw [releaseCheck_eq] at ht
  split
  case isTrue taken =>
    have active : troubleActive .releaseCircuit t =
        if countOf c (counted c s).sup = 2 then decide (c ≠ .good) else troubleActive .releaseCircuit s := by
      by_cases full : countOf c (counted c s).sup = 2
      · rw [if_pos full, ht, if_pos ⟨taken.1, taken.2, full⟩, troubleActive_setTrouble, if_pos rfl]
      · rw [if_neg full, ht, if_neg fun h => full h.2.2, stays]
    rw [active, sup]
    split
    case isTrue good => simp [counted, countOf, taken, good]
    case isFalse bad => simp [counted, countOf, taken, bad]
  case isFalse idle =>
    have same : counted c s = s := if_neg idle
    rw [sup, ht, if_neg fun h => idle ⟨h.1, h.2.1⟩, same]
    exact ⟨rfl, rfl, rfl⟩

/-! ### The arbiter woken -/

theorem wakeArbiter_eq :
    wakeArbiter s =
      { s with sup := { s.sup with conv := if s.sup.conv = .idle then nextConversion s else s.sup.conv,
                                   scanPending := if s.sup.conv = .idle then false else s.sup.scanPending } } := by
  unfold wakeArbiter
  split
  · exact beginNext_eq s
  · rfl

@[simp] theorem wakeArbiter_fire : (wakeArbiter s).fire = s.fire := by rw [wakeArbiter_eq]
@[simp] theorem wakeArbiter_cfg : (wakeArbiter s).cfg = s.cfg := by rw [wakeArbiter_eq]

/-- A command that leaves the fire record and the configured values as they are queues no ALARM (R43). -/
theorem runEvent_of_fire_eq {effect : State → State} {s : State} (hr : s.phase = .running)
    (hf : (effect s).fire = s.fire) (hc : (effect s).cfg = s.cfg) : runEvent effect s = .next (effect s) := by
  rw [runEvent_running effect s hr, queueAlarmIfChanged_of_fire_eq hf hc]

/-! ### The two expiries (R3, R13, R14, R16) -/

/-- With the scan pending and the check made, and before the arbiter is woken. -/
def scanRequested (c : CircuitCheck) (s : State) : State :=
  releaseCheck c { s with sup := { s.sup with scanPending := true } }

theorem scanRequested_frame (c : CircuitCheck) :
    scanRequested c s =
      { s with
        sup := { s.sup with scanPending := true, goodChecks := (scanRequested c s).sup.goodChecks,
                            badChecks := (scanRequested c s).sup.badChecks },
        line := (scanRequested c s).line,
        out := { s.out with active := (scanRequested c s).out.active,
                            reported := (scanRequested c s).out.reported } } := by
  have one := oneTrouble_releaseCheck { s with sup := { s.sup with scanPending := true } } c
  have frame := one.frame
  rw [counted_frame] at frame
  rw [scanRequested, one.sup]
  exact frame

theorem exec_scanTimerExpiry (c : CircuitCheck) (hr : s.phase = .running) :
    exec (.scanTimerExpiry c) s = .next (wakeArbiter (scanRequested c s)) := by
  refine runEvent_of_fire_eq (effect := scanTimerOver c) hr ?_ ?_
  · exact (wakeArbiter_fire (scanRequested c s)).trans (by rw [scanRequested_frame])
  · exact (wakeArbiter_cfg (scanRequested c s)).trans (by rw [scanRequested_frame])

/-- The climate timer reloaded (R16). -/
def climateReloaded (s : State) : State := { s with sup := { s.sup with climateTimer := some s.cfg.climateInterval } }

/-- What a request of a sequence does where one is in progress: one owed more, or the request lost (R16). -/
theorem climateTimerOver_busy (h : s.sup.seq ≠ none) :
    climateTimerOver s =
      if s.sup.owed < 4 then
        { s with sup := { s.sup with climateTimer := some s.cfg.climateInterval, owed := s.sup.owed + 1 } }
      else setTrouble .climateStarved true (climateReloaded s) := by
  have busy : ¬ s.sup.seq.isNone = true := by simpa using h
  exact if_neg busy

/-- With no sequence in progress one starts, and the arbiter is woken. -/
theorem climateTimerOver_idle (h : s.sup.seq = none) :
    climateTimerOver s =
      wakeArbiter
        { s with sup := { s.sup with climateTimer := some s.cfg.climateInterval, seq := some Sequence.fresh } } := by
  simp only [climateTimerOver, requestSequence, startSequence, h, Option.isNone_none, if_true]

/-- Settles O20: the check counts and the scan is pending before the arbiter is woken; the climate timer's request is
taken, owed or lost. -/
theorem scanAndClimateTimersRequestTheirConversions : Obligations.ScanAndClimateTimersRequestTheirConversions := by
  unfold Obligations.ScanAndClimateTimersRequestTheirConversions
  refine ⟨fun s check hr => ⟨_, exec_scanTimerExpiry s check hr, ?_⟩, fun s hr => ?_⟩
  · have frame := scanRequested_frame s check
    have outcome := releaseCheck_outcome { s with sup := { s.sup with scanPending := true } } check
      (scanRequested check s) rfl
    have one := oneTrouble_releaseCheck { s with sup := { s.sup with scanPending := true } } check
    rw [counted_frame] at one
    change OneTrouble _ _ (scanRequested check s) at one
    rw [wakeArbiter_eq]
    generalize scanRequested check s = u at *
    have hsup : u.sup =
        { s.sup with scanPending := true, goodChecks := u.sup.goodChecks, badChecks := u.sup.badChecks } :=
      congrArg State.sup frame
    have next : nextConversion u =
        ((usedFrom 0 s).map Converting.input).getD (if s.sup.seq.isSome then .probe else .idle) := by
      rw [nextConversion, usedFrom_congr (s := s) 0 (by rw [frame]), hsup, if_pos rfl]
    refine ⟨?_, one.reports, outcome, fun x _ hx => one.others x hx, ?_⟩
    · rw [frame]
    · rw [next, hsup]
      refine ⟨rfl, rfl, rfl, rfl, ?_⟩
      split
      · exact ⟨rfl, rfl⟩
      · exact ⟨rfl, rfl⟩
  · by_cases idle : s.sup.seq = none
    · have request := climateTimerOver_idle s idle
      rw [wakeArbiter_eq] at request
      refine ⟨_, runEvent_of_fire_eq (effect := climateTimerOver) hr (by rw [request]) (by rw [request]), ?_⟩
      rw [request, if_pos idle]
      refine ⟨rfl, rfl, ⟨rfl, rfl, fun h => if_neg h, fun h hp => ?_, rfl, rfl⟩, rfl, fun _ _ _ => ⟨rfl, rfl⟩⟩
      dsimp only
      rw [if_pos h, nextConversion, if_neg (by simp [hp])]
      rfl
    · have request := climateTimerOver_busy s idle
      by_cases room : s.sup.owed < 4
      · rw [if_pos room] at request
        refine ⟨_, runEvent_of_fire_eq (effect := climateTimerOver) hr (by rw [request]) (by rw [request]), ?_⟩
        rw [request, if_neg idle, if_pos room]
        exact ⟨rfl, rfl, ⟨rfl, rfl, rfl, rfl, rfl⟩, rfl, fun _ _ _ => ⟨rfl, rfl⟩⟩
      · rw [if_neg room] at request
        have one := oneTrouble_setTrouble (climateReloaded s) .climateStarved true
        have active := troubleActive_setTrouble .climateStarved .climateStarved true (climateReloaded s)
        rw [← request] at one active
        have frame := one.frame
        have hsup : (climateTimerOver s).sup = (climateReloaded s).sup := one.sup
        refine ⟨_, runEvent_of_fire_eq (effect := climateTimerOver) hr (by rw [frame]; rfl) (by rw [frame]; rfl), ?_⟩
        rw [if_neg idle, if_neg room, hsup]
        exact ⟨rfl, rfl, ⟨rfl, rfl, rfl, active, one.reports⟩, frame, fun x _ hx => one.others x hx⟩

end Sys2Proof.Machine
end

section
/-! ## The conversions of a sequence -/

namespace Sys2Proof.Machine

variable (s : State)

/-! ### What a climate sample reaches -/

/-- The blocks that a sample does not reach. -/
def beyondSampling (s : State) : State :=
  { s with climate := State.reset.climate, allot := State.reset.allot, scanner := State.reset.scanner,
           hold := State.reset.hold, line := State.reset.line, out := { s.out with active := 0, reported := 0 } }

/-- The parts of the climate record that a sample's combination and its episode make. -/
def combinedParts (c : ClimateRecord) : ClimateState × Option Bay × Option Nat × Episode :=
  (c.state, c.bay, c.holdTimer, c.episode)

section
variable {s t : State} (h : beyondSampling t = beyondSampling s)
include h

theorem eq_of_beyondSampling :
    t = { s with climate := t.climate, allot := t.allot, scanner := t.scanner, hold := t.hold, line := t.line,
                 out := { s.out with active := t.out.active, reported := t.out.reported } } :=
  congrArg (fun u => { u with
    climate := t.climate, allot := t.allot, scanner := t.scanner, hold := t.hold, line := t.line,
    out := { u.out with active := t.out.active, reported := t.out.reported } }) h

end

@[simp] theorem beyondSampling_queueReport (r : Report) : beyondSampling (queueReport r s) = beyondSampling s := by
  rw [queueReport_frame]; rfl

@[simp] theorem beyondSampling_queueReports (rs : List Report) :
    beyondSampling (queueReports rs s) = beyondSampling s := by rw [queueReports_frame]; rfl

@[simp] theorem beyondSampling_setTrouble (x : Trouble) (b : Bool) :
    beyondSampling (setTrouble x b s) = beyondSampling s := by
  rw [(oneTrouble_setTrouble s x b).frame]; rfl

theorem judgePause_frame :
    judgePause s = { s with scanner := (judgePause s).scanner, hold := (judgePause s).hold,
                            line := (judgePause s).line } := by
  unfold judgePause countHoldsDown
  dsimp only
  split
  · rw [queueReports_frame]
  · rfl

/-- The allotter's part of a sample keeps the other blocks. -/
theorem reevaluateForced_frame :
    reevaluateForced s =
      { s with allot := (reevaluateForced s).allot,
               line := { s.line with stateQueued := (reevaluateForced s).line.stateQueued } } := by
  unfold reevaluateForced beginForcing endForcing evaluateGrant startDehumidifier stopDehumidifier
  dsimp only
  repeat' split
  all_goals rfl

theorem stopOrGrant_frame :
    stopOrGrant s =
      { s with allot := (stopOrGrant s).allot,
               line := { s.line with stateQueued := (stopOrGrant s).line.stateQueued } } := by
  unfold stopOrGrant evaluateGrant startDehumidifier stopDehumidifier
  dsimp only
  repeat' split
  all_goals rfl

theorem allotSampleTaken_frame :
    allotSampleTaken s =
      { s with allot := (allotSampleTaken s).allot,
               line := { s.line with stateQueued := (allotSampleTaken s).line.stateQueued } } := by
  unfold allotSampleTaken
  dsimp only
  split
  · exact reevaluateForced_frame s
  · rw [stopOrGrant_frame, reevaluateForced_frame]

/-- The excursion written, and what is told of it. -/
theorem queueReport_setExcursion (r : Report) (e : ExcursionState) (n : Option Nat) :
    queueReport r (setExcursion e n s) =
      { s with climate := { s.climate with excursion := e, excursionTimer := n },
               line := (queueReport r (setExcursion e n s)).line } :=
  queueReport_frame r (setExcursion e n s)

/-- The excursion part keeps all but the excursion, its timer and the report queue. -/
theorem sampleExcursion_frame (before : ClimateState) :
    sampleExcursion before s =
      { s with climate := { s.climate with excursion := (sampleExcursion before s).climate.excursion,
                                           excursionTimer := (sampleExcursion before s).climate.excursionTimer },
               line := (sampleExcursion before s).line } := by
  have delay : ∀ b, beginDelay b s =
      { s with climate := { s.climate with excursion := (beginDelay b s).climate.excursion,
                                           excursionTimer := (beginDelay b s).climate.excursionTimer },
               line := (beginDelay b s).line } := fun b => by
    unfold beginDelay
    split
    · rw [queueReport_setExcursion]
    · rfl
  unfold sampleExcursion
  split
  case h_1 => rfl
  case h_3 => rfl
  case h_2 b _ _ =>
    unfold judgeExcursion
    split
    case h_1 =>
      split
      · exact delay b
      · rfl
    case h_2 =>
      split
      · split
        · exact delay b
        · rfl
      · rfl
    case h_3 =>
      split
      · rw [queueReport_setExcursion]
      · rfl

/-- The history part keeps all but the history. -/
theorem sampleHistory_frame (before : ExcursionState) :
    sampleHistory before s =
      { s with climate := { s.climate with
          history := (sampleHistory before s).climate.history,
          storedSinceStart := (sampleHistory before s).climate.storedSinceStart } } := by
  unfold sampleHistory
  dsimp only
  split <;> rfl

/-! ### What a climate sample leaves (R50 to R54, R62) -/

/-- The sample combined and its troubles told. -/
def sampleCombined (a b : Option Bay) (s : State) : State :=
  sampleTroubles a b { s with climate := combined s.cfg a b s.climate }

@[simp] theorem sampleCombined_climate (a b : Option Bay) :
    (sampleCombined a b s).climate = combined s.cfg a b s.climate := by
  simp [sampleCombined, sampleTroubles]

/-- The sample with its excursion and its history made, before the episode and the notices. -/
def sampleRecorded (a b : Option Bay) (s : State) : State :=
  sampleHistory s.climate.excursion (sampleExcursion s.climate.state (sampleCombined a b s))

theorem takeSample_eq (a b : Option Bay) : takeSample a b s = sampleNotices (sampleEpisode (sampleRecorded a b s)) :=
  rfl

theorem sampleNotices_climate : (sampleNotices s).climate = s.climate := by
  rw [sampleNotices, allotSampleTaken_frame, judgePause_frame]

theorem sampleNotices_out : (sampleNotices s).out = s.out := by
  rw [sampleNotices, allotSampleTaken_frame, judgePause_frame]

theorem beyondSampling_takeSample (a b : Option Bay) : beyondSampling (takeSample a b s) = beyondSampling s := by
  have troubles : beyondSampling (sampleCombined a b s) = beyondSampling s := by
    simp only [sampleCombined, sampleTroubles, beyondSampling_setTrouble]
    rfl
  have recorded : beyondSampling (sampleRecorded a b s) = beyondSampling s := by
    rw [sampleRecorded, sampleHistory_frame, sampleExcursion_frame]
    exact troubles
  rw [takeSample_eq, sampleNotices, allotSampleTaken_frame, judgePause_frame]
  exact recorded

theorem takeSample_combinedParts (a b : Option Bay) :
    combinedParts (takeSample a b s).climate =
      ((combined s.cfg a b s.climate).state, (combined s.cfg a b s.climate).bay,
        (combined s.cfg a b s.climate).holdTimer,
        countSample (combined s.cfg a b s.climate).bay (combined s.cfg a b s.climate).episode) := by
  have recorded : combinedParts (sampleRecorded a b s).climate = combinedParts (combined s.cfg a b s.climate) := by
    rw [sampleRecorded, sampleHistory_frame, sampleExcursion_frame]
    change combinedParts (sampleCombined a b s).climate = _
    rw [sampleCombined_climate]
  simp only [combinedParts, Prod.mk.injEq] at recorded
  obtain ⟨state, bay, hold, episode⟩ := recorded
  rw [takeSample_eq, sampleNotices_climate, combinedParts, sampleEpisode, state, bay, hold, episode]

theorem takeSample_out (a b : Option Bay) : (takeSample a b s).out = (sampleCombined a b s).out := by
  rw [takeSample_eq, sampleNotices_out]
  change (sampleRecorded a b s).out = _
  rw [sampleRecorded, sampleHistory_frame, sampleExcursion_frame]

/-! ### The combination (R50, R51) -/

theorem probesAgree_iff (cfg : Settings) (x y : Bay) :
    probesAgree cfg x y = true ↔ ((x.rh : Int) - y.rh).natAbs ≤ cfg.rhAgree ∧ (x.t - y.t).natAbs ≤ cfg.tAgree := by
  have distance : (x.rh - y.rh) + (y.rh - x.rh) = ((x.rh : Int) - y.rh).natAbs := by omega
  simp [probesAgree, distance]

theorem probesDisagree_iff (cfg : Settings) (a b : Option Bay) :
    probesDisagree cfg a b = true ↔ ∃ x ∈ a, ∃ y ∈ b,
      ¬ (((x.rh : Int) - y.rh).natAbs ≤ cfg.rhAgree ∧ (x.t - y.t).natAbs ≤ cfg.tAgree) := by
  cases a with
  | none => simp [probesDisagree]
  | some x =>
    cases b with
    | none => simp [probesDisagree]
    | some y =>
      have agree := probesAgree_iff cfg x y
      simp only [probesDisagree, Bool.not_eq_true', Option.mem_def, Option.some.injEq, exists_eq_left', ← agree,
        Bool.not_eq_true]

theorem combined_episode (cfg : Settings) (a b : Option Bay) (c : ClimateRecord) :
    (combined cfg a b c).episode = c.episode := by
  unfold combined bothFaulted
  repeat' split
  all_goals rfl

/-- Two good probes. -/
theorem combined_both (cfg : Settings) (x y : Bay) (c : ClimateRecord) :
    combined cfg (some x) (some y) c =
      { c with state := if probesAgree cfg x y then .active else .degraded,
               bay := some (if probesAgree cfg x y then meanBay x y else if x.rh < y.rh then y else x),
               holdTimer := none } := by
  unfold combined combine
  by_cases h : probesAgree cfg x y = true <;> simp [h]

/-- Both probes faulted. -/
theorem combined_none (cfg : Settings) (c : ClimateRecord) :
    (combined cfg none none c).bay = (if c.state = .starting then none else c.bay) ∧
    (combined cfg none none c).state = (if c.state = .starting ∨ c.state = .lost then .lost else .holding) ∧
    ((c.state = .active ∨ c.state = .degraded) →
      (combined cfg none none c).holdTimer = some cfg.climateHoldLimit) ∧
    (c.state = .holding → (combined cfg none none c).holdTimer = c.holdTimer) := by
  have faulted : combined cfg none none c = bothFaulted cfg c := rfl
  rw [faulted]
  cases h : c.state <;> simp [bothFaulted, h]

/-- A good probe ends the holding. -/
theorem combined_good (cfg : Settings) {a b : Option Bay} (c : ClimateRecord) (h : a.isSome = true ∨ b.isSome = true) :
    (combined cfg a b c).holdTimer = none := by
  unfold combined
  split
  case h_1 => rfl
  case h_2 hn =>
    cases a <;> cases b <;> simp [combine] at hn h
    split at hn <;> cases hn

theorem troubleActive_sampleCombined (a b : Option Bay) (x : Trouble) :
    troubleActive x (sampleCombined a b s) =
      if x = .climateLost then (combined s.cfg a b s.climate).state == .lost
      else if x = .probeDisagree then probesDisagree s.cfg a b
      else if x = .probeFault then a.isNone || b.isNone
      else troubleActive x s := by
  simp only [sampleCombined, sampleTroubles, troubleActive_setTrouble]
  rfl

/-! ### The sequence (R15, R16) -/

theorem add_eq (q : Sequence) (c : Code) :
    q.add c =
      { done := q.done + 1,
        rhA := if q.done % 4 = 0 then q.rhA.add c else q.rhA,
        tA := if q.done % 4 = 1 then q.tA.add c else q.tA,
        rhB := if q.done % 4 = 2 then q.rhB.add c else q.rhB,
        tB := if q.done % 4 = 3 then q.tB.add c else q.tB } := by
  have h : q.done % 4 < 4 := Nat.mod_lt _ (by omega)
  unfold Sequence.add Sequence.channel
  generalize q.done % 4 = k at h ⊢
  match k, h with
  | 0, _ => rfl
  | 1, _ => rfl
  | 2, _ => rfl
  | 3, _ => rfl

/-- The supervisor with the completed sequence gone and an owed one begun. -/
def owedBegun (u : Supervisor) : Supervisor :=
  { u with owed := u.owed - 1, seq := if u.owed = 0 then u.seq else some Sequence.fresh }

theorem afterSequence_eq :
    afterSequence s =
      if s.sup.owed = 1 then setTrouble .climateStarved false { s with sup := owedBegun s.sup }
      else { s with sup := owedBegun s.sup } := by
  unfold afterSequence owedBegun
  by_cases none : s.sup.owed = 0
  · simp only [none, if_true, zero_ne_one, if_false, Nat.zero_sub]
    rw [← none]
  · have last : s.sup.owed - 1 = 0 ↔ s.sup.owed = 1 := by omega
    simp only [none, if_false, startSequence, last]

theorem oneTrouble_afterSequence : OneTrouble .climateStarved { s with sup := owedBegun s.sup } (afterSequence s) := by
  rw [afterSequence_eq]
  split
  · exact oneTrouble_setTrouble _ _ _
  · exact oneTrouble_refl _ _

theorem troubleActive_afterSequence :
    troubleActive .climateStarved (afterSequence s) =
      if s.sup.owed = 1 then false else troubleActive .climateStarved s := by
  rw [afterSequence_eq]
  split
  · exact (troubleActive_setTrouble ..).trans (if_pos rfl)
  · rfl

/-- A conversion that does not complete its sequence. -/
theorem exec_probeConversionEnd_goesOn {c : Code} {q : Sequence} (hr : s.phase = .running) (hc : s.sup.conv = .probe)
    (hq : s.sup.seq = some q) (h : q.done + 1 < 4 * 2 ^ s.cfg.averaging) :
    exec (.probeConversionEnd c) s = .next (beginNext { s with sup := { s.sup with seq := some (q.add c) } }) := by
  have added : addProbeCode c q s = { s with sup := { s.sup with seq := some (q.add c) } } := by
    refine if_neg (Nat.not_le.2 ?_)
    rw [add_eq]
    exact h
  have run : probeConverted c s = beginNext { s with sup := { s.sup with seq := some (q.add c) } } := by
    rw [← added]
    simp only [probeConverted, hc, hq]
  refine (runEvent_of_fire_eq (effect := probeConverted c) hr ?_ ?_).trans (congrArg _ run) <;>
    rw [run, beginNext_eq]

/-- What the last conversion leaves before the arbiter goes on. -/
def sequenceEnded (a b : Option Bay) (s : State) : State :=
  afterSequence (takeSample a b { s with sup := { s.sup with seq := none } })

theorem sequenceEnded_frame (a b : Option Bay) :
    sequenceEnded a b s =
      { s with
        sup := { s.sup with owed := s.sup.owed - 1, seq := if s.sup.owed = 0 then none else some Sequence.fresh },
        climate := (sequenceEnded a b s).climate, allot := (sequenceEnded a b s).allot,
        scanner := (sequenceEnded a b s).scanner, hold := (sequenceEnded a b s).hold,
        line := (sequenceEnded a b s).line,
        out := { s.out with active := (sequenceEnded a b s).out.active,
                            reported := (sequenceEnded a b s).out.reported } } := by
  have sampled := eq_of_beyondSampling (beyondSampling_takeSample { s with sup := { s.sup with seq := none } } a b)
  have frame := (oneTrouble_afterSequence (takeSample a b { s with sup := { s.sup with seq := none } })).frame
  rw [sampled] at frame
  rw [sequenceEnded, sampled, frame]
  rfl

theorem sequenceEnded_climate (a b : Option Bay) :
    combinedParts (sequenceEnded a b s).climate =
      ((combined s.cfg a b s.climate).state, (combined s.cfg a b s.climate).bay,
        (combined s.cfg a b s.climate).holdTimer,
        countSample (combined s.cfg a b s.climate).bay s.climate.episode) := by
  have parts := takeSample_combinedParts { s with sup := { s.sup with seq := none } } a b
  rw [combined_episode] at parts
  rw [sequenceEnded, (oneTrouble_afterSequence _).frame]
  exact parts

theorem troubleActive_sequenceEnded (a b : Option Bay) (x : Trouble) (hx : x ≠ .climateStarved) :
    troubleActive x (sequenceEnded a b s) =
      if x = .climateLost then (combined s.cfg a b s.climate).state == .lost
      else if x = .probeDisagree then probesDisagree s.cfg a b
      else if x = .probeFault then a.isNone || b.isNone
      else troubleActive x s := by
  rw [sequenceEnded, ((oneTrouble_afterSequence _).others x hx).1]
  change troubleActive x (takeSample a b { s with sup := { s.sup with seq := none } }) = _
  rw [troubleActive, takeSample_out]
  exact troubleActive_sampleCombined { s with sup := { s.sup with seq := none } } a b x

theorem climateStarved_sequenceEnded (a b : Option Bay) :
    troubleActive .climateStarved (sequenceEnded a b s) =
      if s.sup.owed = 1 then false else troubleActive .climateStarved s := by
  have sampled := eq_of_beyondSampling (beyondSampling_takeSample { s with sup := { s.sup with seq := none } } a b)
  have stays : troubleActive .climateStarved (takeSample a b { s with sup := { s.sup with seq := none } }) =
      troubleActive .climateStarved s := by
    rw [troubleActive, takeSample_out]
    exact troubleActive_sampleCombined { s with sup := { s.sup with seq := none } } a b .climateStarved
  rw [sequenceEnded, troubleActive_afterSequence, stays, sampled]

theorem exec_probeConversionEnd_last {c : Code} {q : Sequence} (hr : s.phase = .running) (hc : s.sup.conv = .probe)
    (hq : s.sup.seq = some q) (h : 4 * 2 ^ s.cfg.averaging ≤ q.done + 1) :
    exec (.probeConversionEnd c) s =
      .next (beginNext (sequenceEnded (probeValue s.cfg.averaging (q.add c).rhA (q.add c).tA)
        (probeValue s.cfg.averaging (q.add c).rhB (q.add c).tB) s)) := by
  generalize ht : sequenceEnded _ _ s = t
  have frame := sequenceEnded_frame s (probeValue s.cfg.averaging (q.add c).rhA (q.add c).tA)
    (probeValue s.cfg.averaging (q.add c).rhB (q.add c).tB)
  rw [ht] at frame
  have added : addProbeCode c q s = t := by
    rw [← ht]
    refine if_pos ?_
    rw [add_eq]
    exact h
  have run : probeConverted c s = beginNext t := by
    rw [← added]
    simp only [probeConverted, hc, hq]
  refine (runEvent_of_fire_eq (effect := probeConverted c) hr ?_ ?_).trans (congrArg _ run) <;>
    rw [run, beginNext_eq, frame]

/-- Settles O23: a code is added and the arbiter goes on; the last conversion of a sequence has the sample combined,
told and recorded, and an owed sequence begun, before it does. -/
theorem probeConversionsMakeTheClimateSample : Obligations.ProbeConversionsMakeTheClimateSample := by
  unfold Obligations.ProbeConversionsMakeTheClimateSample
  refine ⟨fun s c q hr hc hq hdone => ⟨_, exec_probeConversionEnd_goesOn s hr hc hq hdone, ?_⟩,
    fun s c q a b hr hc hq hdone ha hb => ⟨_, ha ▸ hb ▸ exec_probeConversionEnd_last s hr hc hq hdone, ?_⟩⟩
  · rw [beginNext_eq, add_eq]
    refine ⟨rfl, ?_, rfl, rfl⟩
    rfl
  · have frame := sequenceEnded_frame s a b
    have parts := sequenceEnded_climate s a b
    have active := troubleActive_sequenceEnded s a b
    have starved := climateStarved_sequenceEnded s a b
    rw [beginNext_eq]
    generalize sequenceEnded a b s = t at *
    simp only [combinedParts, Prod.mk.injEq] at parts
    obtain ⟨state, bay, hold, episode⟩ := parts
    have next : nextConversion t =
        if s.sup.scanPending = true then
          ((usedFrom 0 s).map Converting.input).getD (if s.sup.owed = 0 then .idle else .probe)
        else (if s.sup.owed = 0 then .idle else .probe) := by
      have hsup := congrArg State.sup frame
      rw [nextConversion, usedFrom_congr (s := s) 0 (by rw [frame]), hsup]
      by_cases none : s.sup.owed = 0 <;> simp [none]
    dsimp only
    refine ⟨fun x hx y hy => ?_, fun nb x hx => ?_, fun na y hy => ?_, fun good => ?_,
      fun na nb => ?_, ?_, ?_, ?_, ?_, ?_,
      fun one => ?_, fun more => ?_, ?_, ?_, rfl, next⟩
    · rw [Option.mem_def.1 hx, Option.mem_def.1 hy, combined_both] at state bay
      rw [state, bay]
      by_cases agree : probesAgree s.cfg x y = true
      · rw [if_pos ((probesAgree_iff ..).1 agree)]
        simp [agree, meanBay]
      · rw [if_neg fun k => agree ((probesAgree_iff ..).2 k)]
        simp [agree]
    · rw [Option.mem_def.1 hx, nb] at state bay
      exact ⟨bay, state⟩
    · rw [Option.mem_def.1 hy, na] at state bay
      exact ⟨bay, state⟩
    · rw [hold, combined_good s.cfg s.climate good]
    · rw [na, nb] at state bay hold
      rw [state, bay, hold]
      exact combined_none s.cfg s.climate
    · exact active .probeFault (by simp)
    · exact (Bool.eq_iff_iff.1 (active .probeDisagree (by simp))).trans (probesDisagree_iff s.cfg a b)
    · rw [state]
      exact active .climateLost (by simp)
    · rw [frame]
    · rw [frame]
    · exact starved.trans (if_pos one)
    · exact starved.trans (if_neg more)
    · rw [episode, ← bay]
      cases t.climate.bay with
      | none => simp [countSample]
      | some x =>
        by_cases opened : s.climate.episode.status = .opened <;> simp [countSample, opened, Config.episodeCountMax]
    · rw [frame]

end Sys2Proof.Machine
end

section
/-! ## The start of every block -/

namespace Sys2Proof.Machine

variable (s : State)

/-- The station with its image judged and its blocks started, before the first check of the release circuit. -/
def blocksStarted (image : List Byte) (attention : Bool) (s : State) : State :=
  startBlocks attention (applyImage image s)

theorem startInput_eq (ty : InputType) :
    startInput ty =
      { settled := .unsettled, candidate := none,
        stage := if ty = .detector ∨ ty = .pressure then .withheld else .ready } := by
  cases ty <;> rfl

theorem startScanner_eq (n : Nat) (sc : Scanner) :
    (startScanner n sc).drive = 1 ∧
    if n = 0 then (startScanner n sc).slots = [] ∧ (startScanner n sc).inventory = none
    else if sc.slots.length = n then (startScanner n sc).slots = sc.slots ∧ (startScanner n sc).inventory = none
    else (startScanner n sc).slots = [] ∧
      (startScanner n sc).inventory = some { pass := 1, samples := List.replicate n false } := by
  unfold startScanner
  repeat' split
  all_goals exact ⟨rfl, rfl, rfl⟩

/-- A wait holds the first READ back as pending (R110). -/
theorem nextTransaction_startReader_waiting (fault attention : Bool) :
    nextTransaction fault (startReader true attention) = startReader true attention := by
  simp [nextTransaction, startReader]

/-- Without a wait the first READ starts at once if ATTENTION is active. -/
theorem nextTransaction_startReader (fault attention : Bool) :
    (nextTransaction fault (startReader false attention)).waiting = false ∧
    (nextTransaction fault (startReader false attention)).transaction =
      (if attention then some (.read false) else none) ∧
    (nextTransaction fault (startReader false attention)).readPending = false := by
  cases fault <;> cases attention <;> exact ⟨rfl, rfl, rfl⟩

/-- The first check of the release circuit made (R13). -/
def firstChecked (image : List Byte) (attention : Bool) (check : CircuitCheck) (s : State) : State :=
  releaseCheck check (blocksStarted image attention s)

theorem oneTrouble_firstChecked (image : List Byte) (attention : Bool) (check : CircuitCheck) :
    OneTrouble .releaseCircuit
      { blocksStarted image attention s with
        sup := { (blocksStarted image attention s).sup with
          goodChecks := (counted check (blocksStarted image attention s)).sup.goodChecks,
          badChecks := (counted check (blocksStarted image attention s)).sup.badChecks } }
      (firstChecked image attention check s) := by
  have one := oneTrouble_releaseCheck (blocksStarted image attention s) check
  rwa [counted_frame] at one

theorem startStation_eq (image : List Byte) (attention : Bool) (check : CircuitCheck) :
    startStation image attention check s =
      let u := firstChecked image attention check s
      { u with
        sup := { u.sup with conv := if u.sup.conv = .idle then nextConversion u else u.sup.conv,
                            scanPending := if u.sup.conv = .idle then false else u.sup.scanPending },
        reader := nextTransaction (troubleActive .readerFault u) u.reader } := by
  have h : startStation image attention check s = readerNext (wakeArbiter (firstChecked image attention check s)) := rfl
  rw [h, readerNext, wakeArbiter_eq]
  rfl

theorem exec_configImageRead (image : List Byte) (attention : Bool) (check : CircuitCheck)
    (h : s.phase = .readingImage ∨ s.phase = .restarting) :
    exec (.configImageRead image attention check) s = .next (startStation image attention check s) := by
  have run : exec (.configImageRead image attention check) s = execConfigImageRead image attention check s := rfl
  rw [run, execConfigImageRead]
  rcases h with h | h <;> rw [h]

/-- Settles O17: the blocks started, with what the first release circuit check, the arbiter and the reader port make of
them. -/
theorem configImageReadStartsEveryBlock : Obligations.ConfigImageReadStartsEveryBlock := by
  unfold Obligations.ConfigImageReadStartsEveryBlock
  intro s image attention check hphase _
  refine ⟨_, exec_configImageRead s image attention check hphase, ?_⟩
  rw [startStation_eq]
  have one := oneTrouble_firstChecked s image attention check
  have frame := one.frame
  have reports := one.reports
  have default := (one.others .configDefault (by simp)).1
  generalize firstChecked image attention check s = u at *
  have cfg : u.cfg = (judgeImage image).getD Settings.defaults := by rw [frame]; rfl
  have reader : u.reader = startReader (s.phase == .restarting) attention := by rw [frame]; rfl
  have scanner : u.scanner = startScanner (slotCount u) s.scanner := by rw [frame]; rfl
  dsimp only
  refine ⟨by rw [frame]; rfl, cfg, ?_, by rw [frame]; rfl, ?_, ?_, ?_, by rw [frame]; rfl, by rw [frame]; rfl,
    by rw [frame]; rfl, ?_, ?_, ?_, ?_, ?_, by rw [frame]; rfl, by rw [frame]; rfl, ?_, ?_⟩
  · rw [← (troubleActive_setActive .configDefault .configDefault (judgeImage image).isNone _).trans (if_pos rfl)]
    exact default
  · have hinputs : u.sup.inputs = u.cfg.inputTypes.map startInput := by rw [frame]; rfl
    rw [hinputs]
    exact List.map_congr_left fun ty _ => startInput_eq ty
  · have hsup : u.sup.conv = .idle ∧ u.sup.scanPending = true ∧ u.sup.seq = some Sequence.fresh := by
      rw [frame]; exact ⟨rfl, rfl, rfl⟩
    obtain ⟨idle, pending, hseq⟩ := hsup
    rw [if_pos idle, nextConversion, if_pos pending, hseq]
    rfl
  · exact if_pos (by rw [frame]; rfl)
  · rw [scanner]
    exact (startScanner_eq _ _).1
  · rw [scanner]
    exact (startScanner_eq _ _).2
  · rw [reader]
    rcases hphase with h | h <;> rw [h]
    · exact (nextTransaction_startReader _ attention).1
    · exact congrArg ReaderPort.waiting (nextTransaction_startReader_waiting _ attention)
  · intro h
    rw [reader, h]
    exact (nextTransaction_startReader _ attention).2
  · intro h
    rw [reader, h]
    exact ⟨congrArg ReaderPort.transaction (nextTransaction_startReader_waiting _ attention),
      congrArg ReaderPort.readPending (nextTransaction_startReader_waiting _ attention)⟩
  · rw [cfg]
    exact congrArg LineController.statusTimer reports
  · rw [frame]
    rfl

end Sys2Proof.Machine
end

section
/-! ## RESTART -/

namespace Sys2Proof.Machine

variable (s : State)

/-! ### Several reports into a queue (R179) -/

/-- Reports enter a queue one after another: the newest eight stay, and a loss sets the flags. -/
theorem foldl_pushReport (rs : List Report) (l : LineController) (h : l.reports.length ≤ 8) :
    rs.foldl (fun l r => pushReport r l) l =
      { l with reports := (l.reports ++ rs).drop ((l.reports ++ rs).length - 8),
               reportsLost := l.reportsLost || decide (8 < (l.reports ++ rs).length),
               droppedSinceTake := l.droppedSinceTake || decide (8 < (l.reports ++ rs).length) } := by
  induction rs generalizing l with
  | nil =>
    have none : l.reports.length - 8 = 0 := by omega
    simp [none, Nat.not_lt.2 h]
  | cons r rs ih =>
    rw [List.foldl_cons]
    by_cases room : l.reports.length < 8
    · have push : pushReport r l = { l with reports := l.reports ++ [r] } := if_pos room
      rw [push, ih _ (by simpa using room)]
      simp
    · have full : l.reports.length = 8 := by omega
      have push : pushReport r l =
          { l with reports := l.reports.tail ++ [r], reportsLost := true, droppedSinceTake := true } := if_neg room
      have lost : 8 < (l.reports ++ r :: rs).length := by simp [full]
      obtain ⟨x, xs, hx⟩ := List.exists_cons_of_length_pos (l := l.reports) (by omega)
      have length : xs.length = 7 := by rw [hx] at full; simpa using full
      have dropped : ((l.reports.tail ++ [r]) ++ rs).drop (((l.reports.tail ++ [r]) ++ rs).length - 8) =
          (l.reports ++ r :: rs).drop ((l.reports ++ r :: rs).length - 8) := by
        have one : (x :: xs ++ r :: rs).length - 8 = ((xs ++ [r]) ++ rs).length - 8 + 1 := by simp [length]; omega
        rw [hx, List.tail_cons, one, List.cons_append, List.drop_succ_cons, List.append_assoc, List.singleton_append]
      rw [push, ih _ (by simp [full])]
      simp only [dropped, lost, decide_true, Bool.or_true, Bool.true_or]

/-! ### The troubles that a RESTART clears (R18, R65, R110, R182, R186) -/

theorem foldl_setActive_frame (l : List Trouble) :
    l.foldl (fun s x => setActive x false s) s =
      { s with out := { s.out with active := (l.foldl (fun s x => setActive x false s) s).out.active } } := by
  induction l generalizing s with
  | nil => rfl
  | cons x l ih => rw [List.foldl_cons, ih]; rfl

theorem troubleActive_foldl_setActive (l : List Trouble) (y : Trouble) :
    troubleActive y (l.foldl (fun s x => setActive x false s) s) = (troubleActive y s && decide (y ∉ l)) := by
  induction l generalizing s with
  | nil => simp
  | cons x l ih =>
    rw [List.foldl_cons, ih, troubleActive_setActive]
    by_cases e : y = x <;> simp [e]

theorem clearRestartTroubles_frame :
    clearRestartTroubles s = { s with out := { s.out with active := (clearRestartTroubles s).out.active } } :=
  foldl_setActive_frame s restartTroubles

theorem mem_restartTroubles (x : Trouble) :
    x ∈ restartTroubles ↔ x ≠ .releaseIsolated ∧ x ≠ .configDefault ∧ x ≠ .mainsFail ∧ x ≠ .strapInvalid := by
  cases x <;> simp [restartTroubles, mem_allInputs]

/-! ### Slots and custody entries (R98, R151) -/

/-- A slot after a RESTART, field by field. -/
theorem restartSlot_eq (sl : Slot) :
    restartSlot sl =
      { sl with
        candidate := false, consignment := none,
        state := (if sl.state = .pullPending then .occupied
          else if sl.state = .pulled then .unexpectedRemoval
          else if sl.state = .returnPending then .out
          else if sl.state = .awaited then (if sl.tag.isSome then .out else .empty)
          else if sl.state = .unexpectedPresence .awaited then
            .unexpectedPresence (if sl.tag.isSome then .out else .empty)
          else sl.state),
        window := (if sl.state = .pulled ∨ sl.state = .returnPending then none else sl.window),
        expected := (if sl.state = .awaited ∨ sl.state = .unexpectedPresence .awaited then none
          else sl.expected) } := by
  cases h : sl.state with
  | unexpectedPresence p => cases p <;> simp [restartSlot, h, priorAfterAwaited]
  | _ => simp [restartSlot, h, afterAwaited]

/-- An entry that stays, field by field. -/
theorem restartEntry_eq (e : CustodyEntry) (h : staysAtRestart e = true) :
    restartEntry e =
      { e with
        consignment := none, wait := .none, timer := none, attempts := 0,
        state := (if e.state = .offered ∨ e.state = .suspended then .adrift
          else if e.state = .loaded then .held else e.state),
        peer := if e.state = .held ∨ e.state = .loaded then none else e.peer,
        owed := (if e.state = .offered ∨ e.state = .suspended then some .withdraw else none) } := by
  cases hs : e.state <;> simp [staysAtRestart, restartEntry, hs] at h ⊢

theorem staysAtRestart_eq (e : CustodyEntry) :
    staysAtRestart e = decide (e.state ≠ .expected ∧ e.state ≠ .taking ∧ e.state ≠ .released) := by
  cases h : e.state <;> simp [staysAtRestart, h]

theorem restartCustody_entries (c : CustodyRecord) :
    (restartCustody c).entries =
      (c.entries.filter fun e => decide (e.state ≠ .expected ∧ e.state ≠ .taking ∧ e.state ≠ .released)).map fun e =>
        { e with
          consignment := none, wait := .none, timer := none, attempts := 0,
          state := (if e.state = .offered ∨ e.state = .suspended then .adrift
            else if e.state = .loaded then .held else e.state),
          peer := if e.state = .held ∨ e.state = .loaded then none else e.peer,
          owed := (if e.state = .offered ∨ e.state = .suspended then some .withdraw else none) } := by
  have stays : staysAtRestart =
      fun e => decide (e.state ≠ .expected ∧ e.state ≠ .taking ∧ e.state ≠ .released) := funext staysAtRestart_eq
  rw [restartCustody, ← stays]
  exact List.map_congr_left fun e he => restartEntry_eq e (List.mem_filter.1 he).2

/-- The ADRIFT reports of a RESTART. -/
theorem restartAdriftReports_eq (c : CustodyRecord) :
    restartAdriftReports c =
      (c.entries.filter fun e => decide (e.state = .offered ∨ e.state = .suspended)).map fun e =>
        ({ kind := .adrift, number := e.peer.getD 0, consignment := e.consignment.getD 0, tag := e.tag, code := 2 } :
          Report) := by
  have lost : CustodyEntry.lostByRestart = fun e => decide (e.state = .offered ∨ e.state = .suspended) :=
    funext fun e => by cases h : e.state <;> simp [CustodyEntry.lostByRestart, h]
  rw [restartAdriftReports, lost]
  rfl

/-! ### The restart -/

/-- Every block at its restart values, and the STATE of a dehumidifier that ran queued (R78). -/
def blocksRestarted (s : State) : State :=
  if s.allot.running then queueState (restartBlocks s) else restartBlocks s

theorem blocksRestarted_frame :
    blocksRestarted s =
      { s with
        phase := .restarting, uptime := 0, minuteLeft := Config.minuteSeconds,
        sup := stopSupervisor s.cfg, fire := restartFire s.fire, climate := restartClimate s.climate,
        allot := restartAllotter, scanner := { s.scanner with slots := s.scanner.slots.map restartSlot },
        reader := stopReader, consignments := [], custody := restartCustody s.custody,
        hold := { seconds := Config.minuteSeconds, paused := true },
        line := { restartLine s.line with stateQueued := s.allot.running },
        out := { restartOutputs s.out with active := (restartBlocks s).out.active } } := by
  have frame := clearRestartTroubles_frame
    { s with
      phase := .restarting, uptime := 0, minuteLeft := Config.minuteSeconds,
      sup := stopSupervisor s.cfg, fire := restartFire s.fire, climate := restartClimate s.climate,
      allot := restartAllotter, scanner := { s.scanner with slots := s.scanner.slots.map restartSlot },
      reader := stopReader, consignments := [], custody := restartCustody s.custody,
      hold := { seconds := Config.minuteSeconds, paused := true }, line := restartLine s.line,
      out := restartOutputs s.out }
  change restartBlocks s = _ at frame
  unfold blocksRestarted
  split
  case isTrue h => rw [frame, h]; rfl
  case isFalse h => rw [(Bool.not_eq_true _).mp h]; exact frame

theorem takeRestart_eq : takeRestart s = queueReports (restartAdriftReports s.custody) (blocksRestarted s) := rfl

theorem queueAlarmIfChanged_line (a b : State) :
    (queueAlarmIfChanged a b).line =
      { b.line with alarmQueued := if reportedFire b = reportedFire a then b.line.alarmQueued else true } := by
  unfold queueAlarmIfChanged
  split <;> rfl

/-- The troubles after a RESTART. -/
theorem troubleActive_blocksRestarted (x : Trouble) :
    troubleActive x (blocksRestarted s) = (troubleActive x s && decide (x ∉ restartTroubles)) := by
  have active : troubleActive x (blocksRestarted s) = troubleActive x (restartBlocks s) := by
    unfold blocksRestarted
    split <;> rfl
  rw [active, restartBlocks, clearRestartTroubles, troubleActive_foldl_setActive]
  rfl

/-- Reports leave the station by the old image's console number (R179). -/
theorem reportsGoOut_blocksRestarted : reportsGoOut (blocksRestarted s) = reportsGoOut s := by
  have strap : troubleActive .strapInvalid (blocksRestarted s) = troubleActive .strapInvalid s := by
    rw [troubleActive_blocksRestarted]
    simp [mem_restartTroubles]
  have cfg : (blocksRestarted s).cfg = s.cfg := by rw [blocksRestarted_frame]
  have own : ownNumber (blocksRestarted s) = ownNumber s := by rw [blocksRestarted_frame]; rfl
  rw [reportsGoOut, strap, cfg, own, reportsGoOut]

/-- The line after a RESTART: the ADRIFT reports alone in the queue, the newest eight of them (R151, R179). -/
theorem takeRestart_line :
    (takeRestart s).line =
      { restartLine s.line with
        stateQueued := s.allot.running,
        reports := if reportsGoOut s then
          (restartAdriftReports s.custody).drop ((restartAdriftReports s.custody).length - 8) else [],
        reportsLost := reportsGoOut s && decide (8 < (restartAdriftReports s.custody).length),
        droppedSinceTake := reportsGoOut s && decide (8 < (restartAdriftReports s.custody).length) } := by
  have line : (blocksRestarted s).line = { restartLine s.line with stateQueued := s.allot.running } := by
    rw [blocksRestarted_frame]
  rw [takeRestart_eq, queueReports_line, reportsGoOut_blocksRestarted, line]
  cases reportsGoOut s with
  | true =>
    rw [if_pos rfl, foldl_pushReport _ _ (by simp [restartLine])]
    rfl
  | false => rfl

/-- The reported fire values after a RESTART (R43). -/
theorem reportedFire_takeRestart :
    reportedFire (takeRestart s) = { state := .stabilizing, alarms := 0, abort := false, manual := false } := by
  have fire : (takeRestart s).fire = restartFire s.fire := by
    rw [takeRestart_eq, queueReports_fire, blocksRestarted_frame]
  have none : ownAlarmCount (takeRestart s) = 0 := ownAlarmCount_eq_zero fun l hl => by
    rw [fire] at hl
    rw [List.eq_of_mem_replicate hl]
    simp
  rw [reportedFire, none, ownAbortActive, fire]
  rfl

/-- They differ from those before it unless the station was in STABILIZING with nothing to report. -/
theorem reportedFire_ne_iff :
    ({ state := .stabilizing, alarms := 0, abort := false, manual := false } : ReportedFire) ≠ reportedFire s ↔
      s.fire.state ≠ .stabilizing ∨ ownAlarmCount s ≠ 0 ∨ ownAbortActive s = true ∨ s.fire.manual = true := by
  have fields : ({ state := .stabilizing, alarms := 0, abort := false, manual := false } : ReportedFire) =
        reportedFire s ↔
      .stabilizing = s.fire.state ∧ 0 = (reportedFire s).alarms ∧ false = (reportedFire s).abort ∧
        false = s.fire.manual := by
    rw [reportedFire, ReportedFire.mk.injEq]
  rw [ne_eq, fields]
  by_cases h : s.fire.state = .stabilizing
  · have quiet : s.fire.state ≠ .test := by simp [h]
    simp only [h, reportedFire, reduceCtorEq, if_false, ne_eq, not_true_eq_false, false_or, true_and]
    cases ownAbortActive s <;> cases s.fire.manual <;> simp [eq_comm]
  · simp [h, Ne.symm h]

theorem exec_restart_accepted (f : Frame) (h : AcceptedCommand 9 f s)
    (hs : s.fire.state ≠ .preDischarge ∧ s.fire.state ≠ .held ∧ s.fire.state ≠ .discharged) :
    exec (.restart f) s = .next (queueAlarmIfChanged s (takeRestart (heard f s))) := by
  have taken : restartCommand (heard f s) = takeRestart (heard f s) :=
    if_neg fun k => by
      have held : s.fire.state = .preDischarge ∨ s.fire.state = .held ∨ s.fire.state = .discharged :=
        (blocksHandover_iff _).1 k
      tauto
  refine (runCommand_accepted s _ f _ h).trans ?_
  rw [← taken]

theorem queueAlarmIfChanged_eq_line (a b : State) :
    queueAlarmIfChanged a b = { b with line := (queueAlarmIfChanged a b).line } := by
  rw [queueAlarmIfChanged_frame]

/-- Settles O53: the blocks' restart values, the ADRIFT reports in their emptied queue, and the comparison of R43. -/
theorem acceptedRestartGivesEveryBlockItsRestartValues :
    Obligations.AcceptedRestartGivesEveryBlockItsRestartValues := by
  unfold Obligations.AcceptedRestartGivesEveryBlockItsRestartValues
  intro s f h hs
  refine ⟨_, exec_restart_accepted s f h hs, ?_⟩
  have alarm := queueAlarmIfChanged_line s (takeRestart (heard f s))
  rw [takeRestart_line, reportedFire_takeRestart, restartAdriftReports_eq] at alarm
  have blocks := queueAlarmIfChanged_eq_line s (takeRestart (heard f s))
  have told := congrArg (fun u => { u with line := (queueAlarmIfChanged s (takeRestart (heard f s))).line })
    (queueReports_frame (restartAdriftReports s.custody) (blocksRestarted (heard f s)))
  have eqAlarm := blocks.trans told
  generalize queueAlarmIfChanged s (takeRestart (heard f s)) = t at alarm eqAlarm ⊢
  have active : ∀ x, troubleActive x t = troubleActive x (blocksRestarted (heard f s)) := fun x =>
    (congrArg (fun u => u.out.active.getLsbD x.code) eqAlarm).trans rfl
  rw [blocksRestarted_frame] at eqAlarm
  refine ⟨by rw [eqAlarm], by rw [eqAlarm], by rw [eqAlarm]; rfl, by rw [eqAlarm]; rfl, by rw [eqAlarm]; rfl,
    by rw [eqAlarm]; rfl, by rw [eqAlarm]; rfl, by rw [eqAlarm]; rfl, by rw [eqAlarm]; rfl, by rw [eqAlarm],
    by rw [eqAlarm]; rfl, ?_, ?_, by rw [eqAlarm]; rfl, by rw [eqAlarm]; rfl, ?_, ?_, ?_, by rw [alarm]; rfl,
    by rw [alarm]; rfl, by rw [alarm]; rfl, by rw [alarm]; rfl, by rw [alarm]; rfl, by rw [alarm]; rfl,
    by rw [alarm]; rfl, by rw [alarm]; rfl, by rw [alarm]; rfl, by rw [alarm]; rfl, fun x _ => ?_,
    by rw [eqAlarm]; rfl, by rw [eqAlarm]; rfl, by rw [eqAlarm]; rfl, by rw [eqAlarm]; rfl, by rw [eqAlarm]; rfl⟩
  · have inputs : startInput = fun ty =>
        { settled := .unsettled, candidate := none,
          stage := if ty = .detector ∨ ty = .pressure then .withheld else .ready } := funext startInput_eq
    rw [eqAlarm, ← inputs]
    rfl
  · rw [eqAlarm]
    exact List.map_congr_left fun sl _ => restartSlot_eq sl
  · rw [eqAlarm]
    exact restartCustody_entries s.custody
  · rw [alarm]
    exact fun p hp => List.eq_of_mem_replicate hp
  · rw [alarm]
    by_cases same : ({ state := .stabilizing, alarms := 0, abort := false, manual := false } : ReportedFire) =
        reportedFire s
    · have quiet := mt (reportedFire_ne_iff s).2 (not_not.2 same)
      exact (if_pos same).trans (decide_eq_false quiet).symm
    · exact (if_neg same).trans (decide_eq_true ((reportedFire_ne_iff s).1 same)).symm
  · have strap : troubleActive .strapInvalid s = false := h.1.2.2.1
    rw [active, troubleActive_blocksRestarted]
    change (troubleActive x s && _) = _
    by_cases hx : x = .strapInvalid
    · rw [hx, strap, Bool.false_and, Bool.false_and]
    · refine congrArg (troubleActive x s && ·) (Bool.eq_iff_iff.2 ?_)
      simp only [decide_eq_true_eq, mem_restartTroubles, Bool.or_eq_true, beq_iff_eq]
      tauto

end Sys2Proof.Machine
end

section
/-! ## The fire core: what no operation but a move of the fire state writes

The fire core of a station is what the fire controller's invariants speak of (R29, R34, R63). The lemmas of this section,
one for each operation in the order of the model's files, say that it stands. -/

namespace Sys2Proof.Machine

/-- The fire core: the fire state with its countdown, its manual flag, isolation and the release pulse, the status of the
fire episode, and the phase and the configured values that they are read with. -/
structure FireCore where
  phase : Phase
  cfg : Settings
  state : FireState
  countdown : Option Nat
  manual : Bool
  isolated : Bool
  pulse : Option Nat
  episode : EpisodeStatus

/-- The fire core of a state. -/
def fireCore (s : State) : FireCore :=
  { phase := s.phase, cfg := s.cfg, state := s.fire.state, countdown := s.fire.countdown, manual := s.fire.manual,
    isolated := s.fire.isolated, pulse := s.fire.releasePulse, episode := s.climate.episode.status }

variable (s : State)

/-! ### Shared operations -/

theorem fireCore_of_blocks {s t : State} (hp : t.phase = s.phase) (hc : t.cfg = s.cfg) (hf : t.fire = s.fire)
    (he : t.climate.episode.status = s.climate.episode.status) : fireCore t = fireCore s := by
  rw [fireCore, fireCore, hp, hc, hf, he]

/-- Whatever is written beside the phase, the configured values, the fire record and the climate record. -/
@[simp] theorem fireCore_write_others (own : Strap) (role : Role) (uptime : BitVec 24) (minuteLeft : Nat)
    (sup : Supervisor) (allot : Allotter) (scanner : Scanner) (reader : ReaderPort) (consignments : List Consignment)
    (custody : CustodyRecord) (hold : HoldUnit) (line : LineController) (out : OutputDrivers) (freeCount : Nat)
    (pending : List Instr) :
    fireCore { s with
      own := own, role := role, uptime := uptime, minuteLeft := minuteLeft, sup := sup, allot := allot,
      scanner := scanner, reader := reader, consignments := consignments, custody := custody, hold := hold,
      line := line, out := out, freeCount := freeCount, pending := pending } = fireCore s := rfl

theorem foldl_fireCore {α : Type} (f : State → α → State) (h : ∀ s a, fireCore (f s a) = fireCore s) (l : List α) :
    ∀ s : State, fireCore (l.foldl f s) = fireCore s := by
  induction l with
  | nil => exact fun _ => rfl
  | cons a l ih => exact fun s => (ih (f s a)).trans (h s a)

@[simp] theorem fireCore_queueReport (r : Report) : fireCore (queueReport r s) = fireCore s := by
  unfold queueReport; split <;> rfl

@[simp] theorem fireCore_queueReports (rs : List Report) : fireCore (queueReports rs s) = fireCore s :=
  foldl_fireCore _ (by simp) rs s

@[simp] theorem fireCore_refuseCommand (code : Byte) (n : Nat) (t : Tag) :
    fireCore (refuseCommand code n t s) = fireCore s := fireCore_queueReport _ _

@[simp] theorem fireCore_setTrouble (x : Trouble) (b : Bool) : fireCore (setTrouble x b s) = fireCore s := by
  rw [setTrouble_frame]; rfl

@[simp] theorem fireCore_settleTroubles : fireCore (settleTroubles s) = fireCore s := by
  rw [settleTroubles_frame]; rfl

@[simp] theorem fireCore_queueAlarmIfChanged (a b : State) : fireCore (queueAlarmIfChanged a b) = fireCore b := by
  rw [queueAlarmIfChanged_frame]; rfl

@[simp] theorem fireCore_setInput (i : InputNo) (r : InputRecord) : fireCore (setInput i r s) = fireCore s := rfl
@[simp] theorem fireCore_setLatch (i : InputNo) (l : Latch) : fireCore (setLatch i l s) = fireCore s := rfl

/-! ### Allotter -/

@[simp] theorem fireCore_startDehumidifier : fireCore (startDehumidifier s) = fireCore s := rfl
@[simp] theorem fireCore_stopDehumidifier : fireCore (stopDehumidifier s) = fireCore s := rfl

@[simp] theorem fireCore_evaluateGrant : fireCore (evaluateGrant s) = fireCore s := by
  unfold evaluateGrant; split <;> simp

@[simp] theorem fireCore_reevaluateForced : fireCore (reevaluateForced s) = fireCore s := by
  rw [reevaluateForced_frame]; rfl

@[simp] theorem fireCore_allotSampleTaken : fireCore (allotSampleTaken s) = fireCore s := by
  rw [allotSampleTaken_frame]; rfl

@[simp] theorem fireCore_minRunExpired : fireCore (minRunExpired s) = fireCore s := by
  unfold minRunExpired; dsimp only; repeat' split
  all_goals simp

@[simp] theorem fireCore_minOffExpired : fireCore (minOffExpired s) = fireCore s := by
  unfold minOffExpired; split <;> simp

/-! ### Custody, holds and slots -/

@[simp] theorem fireCore_withCustody (es : List CustodyEntry) : fireCore (withCustody es s) = fireCore s := rfl
@[simp] theorem fireCore_mapCustody (f : CustodyEntry → CustodyEntry) : fireCore (mapCustody f s) = fireCore s := rfl
@[simp] theorem fireCore_updateCustody (t : Tag) (f : CustodyEntry → CustodyEntry) :
    fireCore (updateCustody t f s) = fireCore s := rfl
@[simp] theorem fireCore_removeCustody (t : Tag) : fireCore (removeCustody t s) = fireCore s := rfl
@[simp] theorem fireCore_addCustody (e : CustodyEntry) : fireCore (addCustody e s) = fireCore s := rfl
@[simp] theorem fireCore_addReply (r : Reply) : fireCore (addReply r s) = fireCore s := rfl
@[simp] theorem fireCore_settleOffers : fireCore (settleOffers s) = fireCore s := rfl
@[simp] theorem fireCore_reofferChecks (n : Nat) (k : UpdateKind) (p : Peer) :
    fireCore (reofferChecks n k p s) = fireCore s := rfl

@[simp] theorem fireCore_countHoldsDown : fireCore (countHoldsDown s) = fireCore s := by simp [countHoldsDown]

@[simp] theorem fireCore_minuteOver : fireCore (minuteOver s) = fireCore s := by unfold minuteOver; split <;> simp

@[simp] theorem fireCore_judgePause : fireCore (judgePause s) = fireCore s := by rw [judgePause_frame]; rfl

@[simp] theorem fireCore_mapSlots (f : Slot → Slot) : fireCore (mapSlots f s) = fireCore s := rfl
@[simp] theorem fireCore_updateSlot (n : Nat) (f : Slot → Slot) : fireCore (updateSlot n f s) = fireCore s := rfl
@[simp] theorem fireCore_giveTag (n : Nat) (t : Tag) : fireCore (giveTag n t s) = fireCore s := rfl

theorem fireCore_slotRequest {d : Direction} {num : Nat} {e : Entry} {s v : State}
    (h : slotRequest d num e s = some v) : fireCore v = fireCore s := by
  unfold slotRequest pullRequest awaitRequest at h
  repeat' split at h
  all_goals cases h
  all_goals rfl

theorem fireCore_verifyRequest {n : Nat} {t : Tag} {s v : State} (h : verifyRequest n t s = some v) :
    fireCore v = fireCore s := by
  unfold verifyRequest at h
  repeat' split at h
  all_goals cases h
  simp

theorem fireCore_returnRequest {n : Nat} {t : Tag} {s v : State} (h : returnRequest n t s = some v) :
    fireCore v = fireCore s := by
  unfold returnRequest at h
  repeat' split at h
  all_goals cases h
  simp

@[simp] theorem fireCore_revertRequest (num : Nat) : fireCore (revertRequest num s) = fireCore s := by
  simp [revertRequest]

/-! ### Inputs, and the fire controller where nothing moves -/

@[simp] theorem fireCore_reverifyAll (is : List InputNo) : fireCore (reverifyAll is s) = fireCore s := by
  rw [reverifyAll_frame]; rfl

@[simp] theorem fireCore_endStabilization : fireCore (endStabilization s) = fireCore s := by
  refine (fireCore_settleTroubles _).trans ?_
  rw [endWithholding_frame]
  rfl

@[simp] theorem fireCore_sounderAfterMove : fireCore (sounderAfterMove s) = fireCore s := rfl

@[simp] theorem fireCore_custodyAfterMove : fireCore (custodyAfterMove s) = fireCore s := by
  unfold custodyAfterMove; repeat' split
  all_goals rfl

@[simp] theorem fireCore_settleFire (before : FireRecord) : fireCore (settleFire before s) = fireCore s := by
  unfold settleFire; repeat' split
  all_goals simp

@[simp] theorem fireCore_withAborts (l : List InputNo) : fireCore (withAborts l s) = fireCore s := rfl

@[simp] theorem fireCore_testAlarm (i : InputNo) : fireCore (testAlarm i s) = fireCore s :=
  (fireCore_queueReport _ _).trans rfl

@[simp] theorem fireCore_silenceCommand : fireCore (silenceCommand s) = fireCore s := by
  unfold silenceCommand; split
  · rfl
  · simp

@[simp] theorem fireCore_testLatchOver (i : InputNo) : fireCore (testLatchOver i s) = fireCore s := by
  unfold testLatchOver; split <;> rfl

@[simp] theorem fireCore_testPulseOver : fireCore (testPulseOver s) = fireCore s := rfl

@[simp] theorem fireCore_cadenceOver : fireCore (cadenceOver s) = fireCore s := by unfold cadenceOver; split <;> rfl

@[simp] theorem fireCore_bandTroubles (i : InputNo) (b : Band) : fireCore (bandTroubles i b s) = fireCore s := by
  simp [bandTroubles]

/-! ### Climate -/

@[simp] theorem countSample_status (b : Option Bay) (e : Episode) : (countSample b e).status = e.status := by
  unfold countSample; repeat' split
  all_goals rfl

@[simp] theorem fireCore_takeSample (a b : Option Bay) : fireCore (takeSample a b s) = fireCore s := by
  have blocks := eq_of_beyondSampling (beyondSampling_takeSample s a b)
  have parts := takeSample_combinedParts s a b
  simp only [combinedParts, Prod.mk.injEq] at parts
  refine fireCore_of_blocks (by rw [blocks]) (by rw [blocks]) (by rw [blocks]) ?_
  rw [parts.2.2.2, countSample_status, combined_episode]

@[simp] theorem fireCore_climateHoldOver : fireCore (climateHoldOver s) = fireCore s := by
  unfold climateHoldOver; dsimp only; split
  · simp only [fireCore_judgePause, fireCore_reevaluateForced, fireCore_setTrouble]
    rfl
  · rfl

@[simp] theorem fireCore_excursionDelayOver : fireCore (excursionDelayOver s) = fireCore s := by
  unfold excursionDelayOver; split
  · simp only [fireCore_judgePause, fireCore_queueReport]
    rfl
  · rfl

/-! ### Conversions -/

@[simp] theorem fireCore_releaseCheck (c : CircuitCheck) : fireCore (releaseCheck c s) = fireCore s := by
  rw [(oneTrouble_releaseCheck s c).frame, counted_frame]; rfl

@[simp] theorem fireCore_wakeArbiter : fireCore (wakeArbiter s) = fireCore s := by rw [wakeArbiter_eq]; rfl
@[simp] theorem fireCore_beginNext : fireCore (beginNext s) = fireCore s := by rw [beginNext_eq]; rfl

@[simp] theorem fireCore_continueScan (i : InputNo) : fireCore (continueScan i s) = fireCore s := by
  rw [continueScan_eq_sup]; rfl

@[simp] theorem fireCore_scanTimerOver (c : CircuitCheck) : fireCore (scanTimerOver c s) = fireCore s := by
  simp [scanTimerOver]

@[simp] theorem fireCore_afterSequence : fireCore (afterSequence s) = fireCore s := by
  rw [(oneTrouble_afterSequence s).frame]; rfl

@[simp] theorem fireCore_probeConverted (c : Code) : fireCore (probeConverted c s) = fireCore s := by
  unfold probeConverted addProbeCode takeResult; dsimp only; repeat' split
  all_goals simp

@[simp] theorem fireCore_climateTimerOver : fireCore (climateTimerOver s) = fireCore s := by
  unfold climateTimerOver requestSequence startSequence; dsimp only; repeat' split
  all_goals simp

/-! ### Consignments -/

@[simp] theorem fireCore_mapRecords (f : Consignment → Consignment) : fireCore (mapRecords f s) = fireCore s := rfl
@[simp] theorem fireCore_updateRecord (num : Nat) (f : Consignment → Consignment) :
    fireCore (updateRecord num f s) = fireCore s := rfl
@[simp] theorem fireCore_removeRecord (num : Nat) : fireCore (removeRecord num s) = fireCore s := rfl
@[simp] theorem fireCore_markEntry (num k : Nat) (st : EntryState) : fireCore (markEntry num k st s) = fireCore s := rfl
@[simp] theorem fireCore_closeCustody (num : Nat) : fireCore (closeCustody num s) = fireCore s := rfl
@[simp] theorem fireCore_clearNumber (t : Tag) : fireCore (clearNumber t s) = fireCore s := rfl
@[simp] theorem fireCore_startSession (num : Nat) : fireCore (startSession num s) = fireCore s := rfl

@[simp] theorem fireCore_closeRecord (c : Consignment) (x : CloseCause) : fireCore (closeRecord c x s) = fireCore s := by
  unfold closeRecord; dsimp only; split <;> simp

@[simp] theorem fireCore_completionTest (num : Nat) : fireCore (completionTest num s) = fireCore s := by
  unfold completionTest; repeat' split
  all_goals simp

@[simp] theorem fireCore_notice (num : Nat) (p : Entry → Bool) (st : EntryState) :
    fireCore (notice num p st s) = fireCore s := by
  unfold notice; repeat' split
  all_goals simp

@[simp] theorem fireCore_noticeOf (num : Option Nat) (p : Entry → Bool) (st : EntryState) :
    fireCore (noticeOf num p st s) = fireCore s := by unfold noticeOf; split <;> simp

@[simp] theorem fireCore_receivedNotice (num : Option Nat) (t : Tag) :
    fireCore (receivedNotice num t s) = fireCore s := by
  unfold receivedNotice; repeat' split
  all_goals simp

@[simp] theorem fireCore_takeConsign (p : List Byte) : fireCore (takeConsign p s) = fireCore s := by
  unfold takeConsign; dsimp only; repeat' split
  all_goals simp

@[simp] theorem fireCore_validateEntry (d : Direction) (num k : Nat) (l : List Entry) (e : Entry) :
    fireCore (validateEntry d num k l e s) = fireCore s := by
  unfold validateEntry rejectEntry; repeat' split
  all_goals simp
  exact fireCore_slotRequest ‹_›

@[simp] theorem fireCore_validateFrom (d : Direction) (num k : Nat) (l es : List Entry) :
    fireCore (validateFrom d num k l es s) = fireCore s := by
  induction es generalizing k l s with
  | nil => rfl
  | cons e es ih => unfold validateFrom; rw [ih, fireCore_validateEntry]

@[simp] theorem fireCore_endOpening (num : Nat) : fireCore (endOpening num s) = fireCore s := by
  unfold endOpening; split <;> simp

@[simp] theorem fireCore_appendEntry (num : Nat) (e : Entry) : fireCore (appendEntry num e s) = fireCore s := by
  unfold appendEntry; repeat' split
  all_goals simp

@[simp] theorem fireCore_takeEntries (num : Nat) (es : List Entry) : fireCore (takeEntries num es s) = fireCore s := by
  induction es generalizing s with
  | nil => rfl
  | cons e es ih => unfold takeEntries; dsimp only; split <;> simp [ih]

@[simp] theorem fireCore_takeEntry (p : List Byte) : fireCore (takeEntry p s) = fireCore s := by
  unfold takeEntry; dsimp only; repeat' split
  all_goals simp

@[simp] theorem fireCore_takeCancel (p : List Byte) : fireCore (takeCancel p s) = fireCore s := by
  unfold takeCancel; dsimp only; repeat' split
  all_goals simp

@[simp] theorem fireCore_signOffEntry (num k : Nat) (e : Entry) : fireCore (signOffEntry num k e s) = fireCore s := by
  unfold signOffEntry signOffActive; repeat' split
  all_goals simp

@[simp] theorem fireCore_signOffFrom (num k : Nat) (es : List Entry) :
    fireCore (signOffFrom num k es s) = fireCore s := by
  induction es generalizing k s with
  | nil => rfl
  | cons e es ih => unfold signOffFrom; rw [ih, fireCore_signOffEntry]

@[simp] theorem fireCore_signOffOutbound (c : Consignment) : fireCore (signOffOutbound c s) = fireCore s := by
  unfold signOffOutbound; dsimp only; split <;> simp

@[simp] theorem fireCore_signOffInbound (c : Consignment) : fireCore (signOffInbound c s) = fireCore s := by
  simp [signOffInbound]

@[simp] theorem fireCore_courierWindowOver (c : Consignment) : fireCore (courierWindowOver c s) = fireCore s := by
  unfold courierWindowOver; dsimp only; split <;> simp

@[simp] theorem fireCore_openingOver (num : Nat) : fireCore (openingOver num s) = fireCore s := by
  unfold openingOver; repeat' split
  all_goals simp

@[simp] theorem fireCore_courierOver (num : Nat) : fireCore (courierOver num s) = fireCore s := by
  unfold courierOver; repeat' split
  all_goals simp

@[simp] theorem fireCore_deadlineOver (num : Nat) : fireCore (deadlineOver num s) = fireCore s := by
  unfold deadlineOver; repeat' split
  all_goals simp

/-! ### Handover -/

@[simp] theorem fireCore_takeOffer (n : Nat) (p : List Byte) : fireCore (takeOffer n p s) = fireCore s := by
  unfold takeOffer; split <;> simp

@[simp] theorem fireCore_disputeEntry (e : CustodyEntry) (c : DisputeCause) :
    fireCore (disputeEntry e c s) = fireCore s := by simp [disputeEntry, disputedNotice]

@[simp] theorem fireCore_confirmTaking (e : CustodyEntry) : fireCore (confirmTaking e s) = fireCore s := by
  unfold confirmTaking; dsimp only; repeat' split
  case h_1 h => exact (fireCore_returnRequest h).trans rfl
  all_goals simp

@[simp] theorem fireCore_takeCleared (n : Nat) (p : List Byte) : fireCore (takeCleared n p s) = fireCore s := by
  unfold takeCleared; repeat' split
  all_goals simp

@[simp] theorem fireCore_takeLate (n : Nat) (p : List Byte) : fireCore (takeLate n p s) = fireCore s := by
  unfold takeLate; repeat' split
  all_goals simp

@[simp] theorem fireCore_takeWithdraw (n : Nat) (p : List Byte) : fireCore (takeWithdraw n p s) = fireCore s := by
  unfold takeWithdraw; repeat' split
  all_goals simp

@[simp] theorem fireCore_takeTaken (n : Nat) (p : List Byte) : fireCore (takeTaken n p s) = fireCore s := by
  unfold takeTaken releaseEntry releasedNotice owe replyLate; repeat' split
  all_goals simp

@[simp] theorem fireCore_takeRefuse (n : Nat) (p : List Byte) : fireCore (takeRefuse n p s) = fireCore s := by
  unfold takeRefuse refuseEntry refusedNotice; dsimp only; repeat' split
  all_goals simp

@[simp] theorem fireCore_handoverOver (t : Tag) : fireCore (handoverOver t s) = fireCore s := by
  unfold handoverOver adriftNotice; dsimp only; repeat' split
  all_goals simp

@[simp] theorem fireCore_lapseOver (t : Tag) : fireCore (lapseOver t s) = fireCore s := by
  unfold lapseOver; repeat' split
  all_goals simp

@[simp] theorem fireCore_confirmOver (t : Tag) : fireCore (confirmOver t s) = fireCore s := by
  unfold confirmOver; repeat' split
  all_goals simp

@[simp] theorem fireCore_returnKept (t : Tag) : fireCore (returnKept t s) = fireCore s := by
  unfold returnKept; repeat' split
  case h_1 sl _ =>
    cases h : returnRequest sl.number t s with
    | none => rfl
    | some v => exact fireCore_returnRequest h
  all_goals rfl

@[simp] theorem fireCore_resolveWith (args : List Byte) : fireCore (resolveWith args s) = fireCore s := by
  unfold resolveWith; dsimp only; repeat' split
  all_goals simp

/-! ### Slot scan -/

@[simp] theorem fireCore_removal (sl : Slot) : fireCore (removal sl s) = fireCore s := by
  unfold removal removeCartridge; repeat' split
  all_goals simp

@[simp] theorem fireCore_seat (sl : Slot) : fireCore (seat sl s) = fireCore s := by
  unfold seat seatSlot seatedNotice; dsimp only; repeat' split
  all_goals simp

@[simp] theorem fireCore_presence (sl : Slot) : fireCore (presence sl s) = fireCore s := by
  unfold presence returnEvacuee strayPresence; dsimp only; split <;> simp

@[simp] theorem fireCore_sampleSlot (n : Nat) (b : Bool) : fireCore (sampleSlot n b s) = fireCore s := by
  unfold sampleSlot; dsimp only; repeat' split
  all_goals simp

@[simp] theorem fireCore_sampleLine (d : Nat) (x : Sense) : fireCore (sampleLine d x s) = fireCore s :=
  foldl_fireCore _ (by simp) _ s

@[simp] theorem fireCore_inventoryStep (inv : Inventory) (x : Sense) : fireCore (inventoryStep inv x s) = fireCore s := by
  unfold inventoryStep finishInventory; dsimp only; repeat' split
  all_goals simp

@[simp] theorem fireCore_slotScanStep (x : Sense) : fireCore (slotScanStep x s) = fireCore s := by
  unfold slotScanStep; dsimp only
  refine (fireCore_write_others _ _ _ _ _ _ _ _ _ _ _ _ _ _ _ _).trans ?_
  repeat' split
  all_goals simp

@[simp] theorem fireCore_pullWindowOver (n : Nat) : fireCore (pullWindowOver n s) = fireCore s := by
  unfold pullWindowOver pullFailedNotice; dsimp only; repeat' split
  all_goals simp

@[simp] theorem fireCore_returnWindowOver (n : Nat) : fireCore (returnWindowOver n s) = fireCore s := by
  unfold returnWindowOver; repeat' split
  all_goals simp

@[simp] theorem fireCore_clearQuarantineAt (n : Nat) : fireCore (clearQuarantineAt n s) = fireCore s := by
  unfold clearQuarantineAt; repeat' split
  all_goals simp

/-! ### Reader -/

@[simp] theorem fireCore_withReader (r : ReaderPort) : fireCore (withReader r s) = fireCore s := rfl
@[simp] theorem fireCore_readerNext : fireCore (readerNext s) = fireCore s := rfl
@[simp] theorem fireCore_requestSignal (x : Signal) : fireCore (requestSignal x s) = fireCore s := rfl

@[simp] theorem fireCore_goodResponse : fireCore (goodResponse s) = fireCore s := by simp [goodResponse]

@[simp] theorem fireCore_badResponse : fireCore (badResponse s) = fireCore s := by
  unfold badResponse; dsimp only; split <;> simp

@[simp] theorem fireCore_unknownTag (k : TagKind) (t : Tag) : fireCore (unknownTag k t s).1 = fireCore s := by
  simp [unknownTag]

theorem fireCore_verifyFirst {t : Tag} {l : List PullCandidate} {s v : State} (h : verifyFirst t l s = some v) :
    fireCore v = fireCore s := by
  induction l with
  | nil => cases h
  | cons c l ih =>
    unfold verifyFirst at h
    split at h
    · cases h
      simp [fireCore_verifyRequest ‹_›]
    · exact ih h

@[simp] theorem fireCore_bayKnown (t : Tag) : fireCore (bayKnown t s).1 = fireCore s := by
  unfold bayKnown; split <;> simp

@[simp] theorem fireCore_routeBayCartridge (t : Tag) : fireCore (routeBayCartridge t s).1 = fireCore s := by
  unfold routeBayCartridge claimExpected; repeat' split
  all_goals simp
  exact fireCore_verifyFirst ‹_›

@[simp] theorem fireCore_badgeAt (c : Consignment) : fireCore (badgeAt c s) = fireCore s := by
  unfold badgeAt; split <;> simp

@[simp] theorem fireCore_routeDockBadge (t : Tag) : fireCore (routeDockBadge t s).1 = fireCore s := by
  unfold routeDockBadge; split <;> simp

@[simp] theorem fireCore_routeDockCase (t : Tag) (c : Option CaseClimate) :
    fireCore (routeDockCase t c s).1 = fireCore s := by unfold routeDockCase; split <;> simp

@[simp] theorem fireCore_dockKnown (t : Tag) : fireCore (dockKnown t s).1 = fireCore s := by
  unfold dockKnown loadEntry unloadRead; repeat' split
  all_goals simp

@[simp] theorem fireCore_routeDockCartridge (t : Tag) : fireCore (routeDockCartridge t s).1 = fireCore s := by
  unfold routeDockCartridge claimExpected receiveCartridge; repeat' split
  all_goals simp

@[simp] theorem fireCore_route (k : TagKind) (t : Tag) (c : Option CaseClimate) :
    fireCore (route k t c s).1 = fireCore s := by unfold route; split <;> simp

@[simp] theorem fireCore_goodRead (b : Bool) (r : ReadStatus) : fireCore (goodRead b r s) = fireCore s := by
  unfold goodRead routeRead; dsimp only; repeat' split
  all_goals simp

@[simp] theorem fireCore_readResponse (l : List Byte) : fireCore (readResponse l s) = fireCore s := by
  unfold readResponse; repeat' split
  all_goals simp

@[simp] theorem fireCore_signalResponse (c : Byte) : fireCore (signalResponse c s) = fireCore s := by
  unfold signalResponse signalAnswered; repeat' split
  all_goals simp

@[simp] theorem fireCore_responseTimeout : fireCore (responseTimeout s) = fireCore s := by
  unfold responseTimeout; split <;> simp

@[simp] theorem fireCore_recoveryOver : fireCore (recoveryOver s) = fireCore s := by
  unfold recoveryOver; split <;> rfl

/-! ### Line -/

@[simp] theorem fireCore_withLine (l : LineController) : fireCore (withLine l s) = fireCore s := rfl
@[simp] theorem fireCore_setReceiving (b : Bool) : fireCore (setReceiving b s) = fireCore s := rfl
@[simp] theorem fireCore_setPeer (n : Nat) (p : Peer) : fireCore (setPeer n p s) = fireCore s := rfl
@[simp] theorem fireCore_heard (f : Frame) : fireCore (heard f s) = fireCore s := rfl

@[simp] theorem fireCore_countDiscard : fireCore (countDiscard s) = fireCore s := by
  unfold countDiscard; dsimp only; split <;> simp

@[simp] theorem fireCore_countMismatch : fireCore (countMismatch s) = fireCore s := by
  unfold countMismatch; dsimp only; split <;> simp

@[simp] theorem fireCore_stationConflict : fireCore (stationConflict s) = fireCore s := by simp [stationConflict]

@[simp] theorem fireCore_takeQuery (n : Nat) (p : List Byte) : fireCore (takeQuery n p s) = fireCore s := by
  unfold takeQuery; repeat' split
  all_goals simp

@[simp] theorem fireCore_failReadback : fireCore (failReadback s) = fireCore s := by unfold failReadback; split <;> simp

@[simp] theorem fireCore_frameGap : fireCore (frameGap s) = fireCore s := by unfold frameGap; split <;> simp

@[simp] theorem fireCore_lineStuck (b : Bool) : fireCore (lineStuck b s) = fireCore s := by
  unfold lineStuck; dsimp only; rw [fireCore_failReadback]; split <;> simp

@[simp] theorem fireCore_closeWindow : fireCore (closeWindow s) = fireCore s := by
  unfold closeWindow; dsimp only; split <;> simp

@[simp] theorem fireCore_conflictOver : fireCore (conflictOver s) = fireCore s := by
  unfold conflictOver; split <;> simp

/-! ### Transmitter and contacts -/

@[simp] theorem fireCore_transmitStart (n : Nat) : fireCore (transmitStart n s) = fireCore s := by
  unfold transmitStart takeClass takeAlarmSlot takeStateSlot takeHandover takeOwed takeAnswer takeReport
  repeat' split
  all_goals simp

@[simp] theorem fireCore_frameSent : fireCore (frameSent s) = fireCore s := by unfold frameSent; split <;> rfl

@[simp] theorem fireCore_doorSettled (b : Bool) : fireCore (doorSettled b s) = fireCore s := by
  unfold doorSettled doorForced; dsimp only; split <;> simp

@[simp] theorem fireCore_mainsSettled (b : Bool) : fireCore (mainsSettled b s) = fireCore s := by
  unfold mainsSettled mainsFailed mainsNormal; repeat' split
  all_goals simp

@[simp] theorem fireCore_mainsCleared : fireCore (mainsCleared s) = fireCore s := by
  unfold mainsCleared; split <;> simp

end Sys2Proof.Machine
end

section
/-! ## The evaluation: its readings, its outcomes, and that a second one changes nothing -/

namespace Sys2Proof.Machine

variable {s t : State}

/-! ### What the evaluation reads (R21 to R27) -/

/-- What the conditions of an evaluation rest on stands: the configured values, the latches, the own aborts, isolation
and the same-space peers. -/
structure SameReadings (s t : State) : Prop where
  cfg : t.cfg = s.cfg
  latches : t.fire.latches = s.fire.latches
  aborts : t.fire.ownAbort = s.fire.ownAbort
  isolated : t.fire.isolated = s.fire.isolated
  peers : sameSpacePeers t = sameSpacePeers s

theorem sameSpacePeers_congr (hc : t.cfg = s.cfg) (hp : t.line.peers = s.line.peers) :
    sameSpacePeers t = sameSpacePeers s := by rw [sameSpacePeers, sameSpacePeers, hc, hp]

theorem SameReadings.of_beyondMove (h : beyondMove t = beyondMove s) : SameReadings s t where
  cfg := cfg_of_beyondMove h
  latches := latches_of_beyondMove h
  aborts := ownAbort_of_beyondMove h
  isolated := isolated_of_beyondMove h
  peers := sameSpacePeers_congr (cfg_of_beyondMove h) (congrArg LineController.peers (line_of_beyondMove h))

theorem SameReadings.of_beyondSettling (h : beyondSettling t = beyondSettling s) : SameReadings s t where
  cfg := cfg_of_beyondSettling h
  latches := latches_of_beyondSettling h
  aborts := ownAbort_of_beyondSettling h
  isolated := isolated_of_beyondSettling h
  peers := sameSpacePeers_congr (cfg_of_beyondSettling h) (peers_of_beyondSettling h)

theorem SameReadings.trans {u : State} (h : SameReadings s t) (k : SameReadings t u) : SameReadings s u where
  cfg := k.cfg.trans h.cfg
  latches := k.latches.trans h.latches
  aborts := k.aborts.trans h.aborts
  isolated := k.isolated.trans h.isolated
  peers := k.peers.trans h.peers

theorem sameReadings_queueAlarmIfChanged (a b : State) : SameReadings b (queueAlarmIfChanged a b) where
  cfg := by simp
  latches := by simp
  aborts := by simp
  isolated := by simp
  peers := sameSpacePeers_congr (by simp) (by simp)

namespace SameReadings

variable (h : SameReadings s t)
include h

theorem armed : armed t = armed s := by simp only [Machine.armed, h.cfg, h.isolated]

theorem abortActive : abortActive t = abortActive s := by
  simp only [Machine.abortActive, ownAbortActive, h.aborts, h.peers]

theorem spaceAlarmCount : spaceAlarmCount t = spaceAlarmCount s := by
  simp only [Machine.spaceAlarmCount, ownAlarmCount_congr h.cfg h.latches, h.peers]

theorem confirmationCondition : confirmationCondition t = confirmationCondition s := by
  simp only [Machine.confirmationCondition, h.spaceAlarmCount, countingPeers, h.peers]

theorem alertCondition : alertCondition t = alertCondition s := by
  simp only [Machine.alertCondition, h.spaceAlarmCount, h.peers]

theorem lowestCountdown : lowestCountdown t = lowestCountdown s := by
  simp only [Machine.lowestCountdown, countingPeers, h.peers]

theorem manualLatched : manualLatched t = manualLatched s := by
  simp only [Machine.manualLatched, inputType, latchOf, h.cfg, h.latches]

theorem evaluatedFromNormal : evaluatedFromNormal t = evaluatedFromNormal s := by
  simp only [Machine.evaluatedFromNormal, h.confirmationCondition, h.alertCondition, h.armed, h.abortActive]

end SameReadings

/-! ### The outcome, by the state it finds (R24) -/

/-- The fire record after a confirmation entry (R27). -/
theorem confirmationEntry_fire (s : State) :
    (confirmationEntry s).fire =
      if armed s = false then { s.fire with state := .confirmed, countdown := none, manual := false }
      else if abortActive s = true then { s.fire with state := .held, countdown := none, manual := false }
      else { s.fire with state := .preDischarge, manual := false,
                         countdown := some ((lowestCountdown s).getD s.cfg.preDischargeDelay) } := by
  unfold confirmationEntry
  cases armed s <;> cases abortActive s <;> rfl

theorem evaluateFire_of_alert (h : s.fire.state = .alert) :
    evaluateFire s = if confirmationCondition s then confirmationEntry s else s := by simp only [evaluateFire, h]

theorem evaluateFire_of_confirmed (h : s.fire.state = .confirmed) :
    evaluateFire s =
      if armed s = true ∧ manualLatched s = true then manualEntry s
      else if armed s = true ∧ confirmationCondition s = true then confirmationEntry s
      else s := by
  unfold evaluateFire manualRule
  simp only [h]
  cases armed s <;> simp

theorem evaluateFire_of_preDischarge (h : s.fire.state = .preDischarge) :
    evaluateFire s = if abortActive s = true ∧ s.fire.manual = false then moveFire .held s else s := by
  unfold evaluateFire
  simp only [h]
  cases abortActive s <;> cases s.fire.manual <;> simp

theorem evaluateFire_of_held (h : s.fire.state = .held) :
    evaluateFire s = if abortActive s = true then s else enterPreDischarge s.cfg.abortRestart false s := by
  unfold evaluateFire
  simp only [h]
  cases abortActive s <;> simp

theorem evaluateFire_of_resting
    (h : s.fire.state = .stabilizing ∨ s.fire.state = .discharged ∨ s.fire.state = .test) : evaluateFire s = s := by
  rcases h with h | h | h <;> simp only [evaluateFire, h]

/-- The fire record after the manual rule's entry (R28). -/
theorem manualEntry_fire (s : State) :
    (manualEntry s).fire =
      if s.cfg.manualDelay = 0 then
        { s.fire with state := .discharged, countdown := none, manual := true,
                      releasePulse := if armed s then some s.cfg.releasePulse else s.fire.releasePulse }
      else { s.fire with state := .preDischarge, countdown := some s.cfg.manualDelay, manual := true } := by
  unfold manualEntry
  split
  · rw [setManual_fire, enterDischarged_fire]
  · rfl

/-! ### A second evaluation (R24) -/

/-- The evaluation finds nothing to do: in each state, the condition of each of its transitions fails. -/
def Evaluated (s : State) : Prop :=
  match s.fire.state with
  | .normal => confirmationCondition s = false ∧ alertCondition s = false
  | .alert => confirmationCondition s = false
  | .confirmed =>
    ¬ (armed s = true ∧ manualLatched s = true) ∧ ¬ (armed s = true ∧ confirmationCondition s = true)
  | .preDischarge => ¬ (abortActive s = true ∧ s.fire.manual = false)
  | .held => abortActive s = true
  | _ => True

theorem evaluateFire_of_evaluated (h : Evaluated s) : evaluateFire s = s := by
  unfold Evaluated at h
  cases hs : s.fire.state with
  | normal => rw [hs] at h; rw [evaluateFire_of_normal hs, if_neg (by simp [h.1]), if_neg (by simp [h.2])]
  | alert => rw [hs] at h; rw [evaluateFire_of_alert hs, if_neg (by simp [h])]
  | confirmed => rw [hs] at h; rw [evaluateFire_of_confirmed hs, if_neg h.1, if_neg h.2]
  | preDischarge => rw [hs] at h; rw [evaluateFire_of_preDischarge hs, if_neg h]
  | held => rw [hs] at h; rw [evaluateFire_of_held hs, if_pos h]
  | stabilizing | discharged | test => exact evaluateFire_of_resting (by simp [hs])

theorem Evaluated.congr (h : SameReadings s t) (hs : t.fire.state = s.fire.state) (hm : t.fire.manual = s.fire.manual)
    (k : Evaluated s) : Evaluated t := by
  unfold Evaluated at k ⊢
  rwa [hs, hm, h.confirmationCondition, h.alertCondition, h.armed, h.manualLatched, h.abortActive]

/-- After a confirmation entry the evaluation finds nothing to do. -/
theorem evaluated_confirmationEntry (s : State) : Evaluated (confirmationEntry s) := by
  have readings := SameReadings.of_beyondMove (beyondMove_confirmationEntry s)
  have fire := confirmationEntry_fire s
  unfold Evaluated
  rw [readings.confirmationCondition, readings.armed, readings.manualLatched, readings.abortActive, fire]
  cases armed s <;> cases abortActive s <;> simp

theorem evaluated_manualEntry (s : State) : Evaluated (manualEntry s) := by
  have fire := manualEntry_fire s
  unfold Evaluated
  by_cases h : s.cfg.manualDelay = 0 <;> simp [fire, h]

theorem evaluated_evaluateFire (s : State) : Evaluated (evaluateFire s) := by
  cases hs : s.fire.state with
  | normal =>
    rw [evaluateFire_of_normal hs]
    split
    case isTrue => exact evaluated_confirmationEntry s
    case isFalse hc =>
      have none : confirmationCondition s = false := by simpa using hc
      have readings := SameReadings.of_beyondMove (beyondMove_moveFire s .alert)
      split
      case isTrue => exact readings.confirmationCondition.trans none
      case isFalse ha =>
        unfold Evaluated
        rw [hs]
        exact ⟨none, by simpa using ha⟩
  | alert =>
    rw [evaluateFire_of_alert hs]
    split
    case isTrue => exact evaluated_confirmationEntry s
    case isFalse hc =>
      unfold Evaluated
      rw [hs]
      simpa using hc
  | confirmed =>
    rw [evaluateFire_of_confirmed hs]
    split
    case isTrue => exact evaluated_manualEntry s
    case isFalse hm =>
      split
      case isTrue => exact evaluated_confirmationEntry s
      case isFalse hc =>
        unfold Evaluated
        rw [hs]
        exact ⟨hm, hc⟩
  | preDischarge =>
    rw [evaluateFire_of_preDischarge hs]
    have readings := SameReadings.of_beyondMove (beyondMove_moveFire s .held)
    split
    case isTrue ha => exact readings.abortActive.trans ha.1
    case isFalse ha =>
      unfold Evaluated
      rw [hs]
      exact ha
  | held =>
    rw [evaluateFire_of_held hs]
    have readings := SameReadings.of_beyondMove (beyondMove_enterPreDischarge s s.cfg.abortRestart false)
    split
    case isTrue ha =>
      unfold Evaluated
      rw [hs]
      exact ha
    case isFalse ha => exact fun k => ha (readings.abortActive ▸ k.1)
  | stabilizing | discharged | test =>
    rw [evaluateFire_of_resting (by simp [hs])]
    unfold Evaluated
    rw [hs]
    trivial

/-! ### Staleness notices (R171) -/

theorem evaluateGrant_frame (s : State) :
    evaluateGrant s =
      { s with allot := (evaluateGrant s).allot,
               line := { s.line with stateQueued := (evaluateGrant s).line.stateQueued } } := by
  unfold evaluateGrant startDehumidifier
  split <;> rfl

@[simp] theorem evaluateGrant_fire (s : State) : (evaluateGrant s).fire = s.fire := by rw [evaluateGrant_frame]

/-- A dehumidifier that a grant evaluation started is not started by a second one. -/
theorem evaluateGrant_evaluateGrant (s : State) : evaluateGrant (evaluateGrant s) = evaluateGrant s := by
  unfold evaluateGrant
  by_cases h : granted s = true
  · rw [if_pos h]
    exact if_neg (by simp [granted, startDehumidifier, queueState])
  · rw [if_neg h, if_neg h]

theorem sameReadings_evaluateGrant (s : State) : SameReadings s (evaluateGrant s) :=
  .of_beyondSettling (beyondSettling_evaluateGrant s)

/-- An event that leaves the state as it is ends with nothing given. -/
theorem settleFire_self (s : State) : settleFire s.fire s = s := by
  rw [settleFire, if_pos rfl, if_neg (by cases s.fire.silence <;> simp)]

theorem evaluated_staleNotice (s : State) : Evaluated (staleNotice s) := by
  have ended : SameReadings (evaluateFire s) (staleNotice s) :=
    (SameReadings.of_beyondSettling (beyondSettling_settleFire _ s.fire)).trans (sameReadings_evaluateGrant _)
  exact (evaluated_evaluateFire s).congr ended (by simp [staleNotice, fireStale, fireEvent])
    (by simp [staleNotice, fireStale, fireEvent])

theorem staleNotice_staleNotice (s : State) : staleNotice (staleNotice s) = staleNotice s := by
  have quiet : fireStale (staleNotice s) = staleNotice s := by
    unfold fireStale fireEvent
    rw [evaluateFire_of_evaluated (evaluated_staleNotice s), settleFire_self]
  have again : staleNotice (staleNotice s) = evaluateGrant (fireStale (staleNotice s)) := rfl
  rw [again, quiet]
  exact evaluateGrant_evaluateGrant _

/-- Several staleness notices at one event do what one does. -/
theorem foldl_staleNotice {α : Type} (l : List α) (s : State) :
    l.foldl (fun s _ => staleNotice s) s = if l = [] then s else staleNotice s := by
  induction l generalizing s with
  | nil => rfl
  | cons a l ih =>
    rw [List.foldl_cons, ih, staleNotice_staleNotice]
    simp

theorem raiseAges_eq (s : State) :
    raiseAges s =
      if s.line.peers.filter Peer.goesStale = [] then withLine { s.line with peers := s.line.peers.map Peer.grow } s
      else staleNotice (withLine { s.line with peers := s.line.peers.map Peer.grow } s) :=
  foldl_staleNotice _ _

end Sys2Proof.Machine
end

section
/-! ## The moves of the fire core

`FireMove` says once what can become of the fire core, in the terms of the rules; `FireEvent` that an event does no more,
and that one which begins and ends in PRE_DISCHARGE does not raise the countdown. -/

namespace Sys2Proof.Machine

/-! ### Moves -/

/-- The station is armed (R23). -/
def FireCore.armed (c : FireCore) : Bool := c.cfg.releaseEnabled && !c.isolated

/-- The fire core moved to a state: the countdown goes unless the state is PRE_DISCHARGE, and a fire episode opens on entry
to a raised state from NORMAL or STABILIZING (R29, R62). -/
def FireCore.move (f : FireState) (c : FireCore) : FireCore :=
  { c with
    state := f, countdown := if f = .preDischarge then c.countdown else none,
    episode := if (c.state = .normal ∨ c.state = .stabilizing) ∧ f.raised = true then .opened else c.episode }

theorem fireCore_moveFire (f : FireState) (s : State) : fireCore (moveFire f s) = (fireCore s).move f := by
  have status : (episodeAfterMove s.fire.state f s.climate.episode).status =
      if (s.fire.state = .normal ∨ s.fire.state = .stabilizing) ∧ f.raised = true then .opened
      else s.climate.episode.status := by
    unfold episodeAfterMove
    dsimp only
    split <;> split <;> simp_all [openedEpisode]
  rw [fireCore, moveFire_climate, status]
  rfl

/-- What can become of the fire core at once. -/
inductive FireMove : FireCore → FireCore → Prop
  /-- the manual flag written -/
  | flag (c : FireCore) (b : Bool) : FireMove c { c with manual := b }
  /-- a rise to ALERT, CONFIRMED or HELD (R26, R27, R31) -/
  | rise (c : FireCore) (f : FireState) (hf : f = .alert ∨ f = .confirmed ∨ f = .held) (hd : c.state ≠ .discharged)
      (ht : c.state ≠ .test) : FireMove c (c.move f)
  /-- entry to PRE_DISCHARGE with a remaining (R27, R28, R32) -/
  | count (c : FireCore) (n : Nat) (hd : c.state ≠ .discharged) (ht : c.state ≠ .test) :
      FireMove c { c.move .preDischarge with countdown := some n }
  /-- the remaining written in PRE_DISCHARGE (R28 to R30) -/
  | shorten (c : FireCore) (n : Nat) (h : c.state = .preDischarge) : FireMove c { c with countdown := some n }
  /-- entry to DISCHARGED (R33, R34) -/
  | discharge (c : FireCore) (ht : c.state ≠ .test) :
      FireMove c { c.move .discharged with pulse := if c.armed then some c.cfg.releasePulse else c.pulse }
  /-- a move between the states that are not raised (R25, R38, R40) -/
  | calm (c : FireCore) (f : FireState) (hf : f.raised = false) (h : c.state.raised = false) : FireMove c (c.move f)
  /-- what FIRE_RESET clears, and the episode closed in a raised state (R36, R63) -/
  | reset (c : FireCore) :
      FireMove c { c with state := .normal, countdown := none, manual := false, pulse := none,
                          episode := if c.state.raised then .closed else c.episode }
  /-- isolation set, RELEASE turned off in DISCHARGED (R35) -/
  | isolate (c : FireCore) :
      FireMove c { c with isolated := true, pulse := if c.state = .discharged then none else c.pulse }
  /-- isolation cleared (R35) -/
  | arm (c : FireCore) : FireMove c { c with isolated := false }
  /-- the release pulse over (R34) -/
  | pulseOver (c : FireCore) : FireMove c { c with pulse := none }

/-- Several moves one after another. -/
abbrev FireReach (s t : State) : Prop := Relation.ReflTransGen FireMove (fireCore s) (fireCore t)

/-- What an event does at the fire core: moves alone, and none that raises the countdown of a station that stays in
PRE_DISCHARGE. -/
structure FireEvent (s t : State) : Prop where
  reach : FireReach s t
  falls : s.fire.state = .preDischarge → t.fire.state = .preDischarge → ∀ r, s.fire.countdown = some r →
    ∃ r', t.fire.countdown = some r' ∧ r' ≤ r

section
variable {s t u : State}

theorem reach_of_move {c : FireCore} (h : FireMove (fireCore s) c) (e : fireCore t = c) : FireReach s t :=
  .single (e.symm ▸ h)

theorem state_of_fireCore (h : fireCore t = fireCore s) : t.fire.state = s.fire.state := congrArg FireCore.state h

theorem countdown_of_fireCore (h : fireCore t = fireCore s) : t.fire.countdown = s.fire.countdown :=
  congrArg FireCore.countdown h

/-- An event that leaves the fire core. -/
theorem FireEvent.of_core (h : fireCore t = fireCore s) : FireEvent s t where
  reach := by rw [FireReach, h]
  falls _ _ r hr := ⟨r, (countdown_of_fireCore h).trans hr, le_refl r⟩

/-- An event of moves that does not begin and end in PRE_DISCHARGE. -/
theorem FireEvent.of_reach (h : FireReach s t) (k : s.fire.state = .preDischarge → t.fire.state ≠ .preDischarge) :
    FireEvent s t where
  reach := h
  falls hs ht := absurd ht (k hs)

theorem FireEvent.trans (h : FireEvent s u) (k : FireEvent u t)
    (mid : s.fire.state = .preDischarge → t.fire.state = .preDischarge → u.fire.state = .preDischarge) :
    FireEvent s t where
  reach := h.reach.trans k.reach
  falls hs ht r hr := by
    obtain ⟨r', hr', hle⟩ := h.falls hs (mid hs ht) r hr
    obtain ⟨r'', hr'', hle'⟩ := k.falls (mid hs ht) ht r' hr'
    exact ⟨r'', hr'', hle'.trans hle⟩

/-- The fire core stands before the event. -/
theorem FireEvent.from_core (h : fireCore u = fireCore s) (k : FireEvent u t) : FireEvent s t :=
  (FireEvent.of_core h).trans k fun hs _ => (state_of_fireCore h).trans hs

/-- The fire core stands after the event. -/
theorem FireEvent.to_core (h : FireEvent s u) (k : fireCore t = fireCore u) : FireEvent s t :=
  h.trans (.of_core k) fun _ ht => (state_of_fireCore k).symm.trans ht

end

/-! ### The fire controller's own acts -/

section
variable (s : State)

theorem fireCore_enterPreDischarge (n : Nat) (b : Bool) :
    fireCore (enterPreDischarge n b s) =
      { ({ (fireCore s).move .preDischarge with countdown := some n } : FireCore) with manual := b } := by
  rw [← fireCore_moveFire]
  rfl

theorem reach_rise (f : FireState) (b : Bool) (hf : f = .alert ∨ f = .confirmed ∨ f = .held)
    (hd : s.fire.state ≠ .discharged) (ht : s.fire.state ≠ .test) : FireReach s (setManual b (moveFire f s)) := by
  exact (reach_of_move (.rise _ f hf hd ht) (fireCore_moveFire f s)).tail (.flag _ b)

theorem reach_enterPreDischarge (n : Nat) (b : Bool) (hd : s.fire.state ≠ .discharged) (ht : s.fire.state ≠ .test) :
    FireReach s (enterPreDischarge n b s) := by
  rw [FireReach, fireCore_enterPreDischarge]
  exact .tail (.single (.count _ n hd ht)) (.flag _ b)

theorem fireCore_enterDischarged :
    fireCore (enterDischarged s) =
      { (fireCore s).move .discharged with
        pulse := if (fireCore s).armed then some s.cfg.releasePulse else s.fire.releasePulse } := by
  rw [← fireCore_moveFire]
  unfold enterDischarged startRelease
  rw [armed_moveFire]
  change fireCore (if (fireCore s).armed then _ else _) = _
  cases (fireCore s).armed <;> rfl

theorem reach_enterDischarged (ht : s.fire.state ≠ .test) : FireReach s (enterDischarged s) :=
  reach_of_move (.discharge _ ht) (fireCore_enterDischarged s)

theorem enterDischarged_state : (enterDischarged s).fire.state = .discharged := by rw [enterDischarged_fire]

theorem event_enterDischarged (ht : s.fire.state ≠ .test) : FireEvent s (enterDischarged s) :=
  .of_reach (reach_enterDischarged s ht) fun _ => by simp [enterDischarged_state]

theorem reach_confirmationEntry (hd : s.fire.state ≠ .discharged) (ht : s.fire.state ≠ .test) :
    FireReach s (confirmationEntry s) := by
  unfold confirmationEntry
  repeat' split
  · exact reach_rise s .confirmed false (by simp) hd ht
  · exact reach_rise s .held false (by simp) hd ht
  · exact reach_enterPreDischarge s _ false hd ht

theorem reach_manualEntry (hd : s.fire.state ≠ .discharged) (ht : s.fire.state ≠ .test) :
    FireReach s (manualEntry s) := by
  unfold manualEntry
  split
  · exact .tail (reach_enterDischarged s ht) (.flag _ true)
  · exact reach_enterPreDischarge s _ true hd ht

theorem event_evaluateFire : FireEvent s (evaluateFire s) := by
  cases hs : s.fire.state with
  | normal =>
    rw [evaluateFire_of_normal hs]
    refine .of_reach ?_ (by simp [hs])
    repeat' split
    · exact reach_confirmationEntry s (by simp [hs]) (by simp [hs])
    · exact reach_rise s .alert s.fire.manual (by simp) (by simp [hs]) (by simp [hs])
    · exact .refl
  | alert =>
    rw [evaluateFire_of_alert hs]
    refine .of_reach ?_ (by simp [hs])
    split
    · exact reach_confirmationEntry s (by simp [hs]) (by simp [hs])
    · exact .refl
  | confirmed =>
    rw [evaluateFire_of_confirmed hs]
    refine .of_reach ?_ (by simp [hs])
    repeat' split
    · exact reach_manualEntry s (by simp [hs]) (by simp [hs])
    · exact reach_confirmationEntry s (by simp [hs]) (by simp [hs])
    · exact .refl
  | preDischarge =>
    rw [evaluateFire_of_preDischarge hs]
    split
    · exact .of_reach (reach_rise s .held s.fire.manual (by simp) (by simp [hs]) (by simp [hs])) (by simp)
    · exact .of_core rfl
  | held =>
    rw [evaluateFire_of_held hs]
    refine .of_reach ?_ (by simp [hs])
    split
    · exact .refl
    · exact reach_enterPreDischarge s _ false (by simp [hs]) (by simp [hs])
  | stabilizing | discharged | test => rw [evaluateFire_of_resting (by simp [hs])]; exact .of_core rfl

theorem event_manualShorten (h : s.fire.state = .preDischarge) : FireEvent s (manualShorten s) := by
  unfold manualShorten
  split
  · refine .of_reach (.tail (reach_enterDischarged s (by simp [h])) (.flag _ true)) fun _ => ?_
    rw [setManual_fire, enterDischarged_state]
    simp
  · exact
      { reach := .tail (.single (.shorten _ _ h)) (.flag _ true)
        falls := fun _ _ r hr => ⟨_, rfl, by simp [hr]⟩ }

theorem event_manualMove : FireEvent s (manualMove s) := by
  unfold manualMove
  by_cases hrest : s.fire.state = .discharged ∨ s.fire.state = .test
  · rw [if_pos hrest]; exact .of_core rfl
  obtain ⟨hd, ht⟩ := not_or.1 hrest
  rw [if_neg hrest]
  split
  · split
    case isTrue h => exact event_manualShorten s h
    case isFalse h => exact .of_reach (reach_manualEntry s hd ht) fun k => absurd k h
  · split
    · exact .of_core rfl
    · exact .of_reach (reach_rise s .confirmed s.fire.manual (by simp) hd ht) (by simp)

theorem event_manualRule : FireEvent s (manualRule s) := by
  rw [manualRule_eq]
  split
  · exact (event_manualMove s).to_core (fireCore_endStabilization _)
  · exact event_manualMove s

theorem event_actOnAlarm (i : InputNo) : FireEvent s (actOnAlarm i s) := by
  unfold actOnAlarm
  split
  · exact event_evaluateFire s
  · exact event_manualRule s
  · split
    case isTrue h => exact event_enterDischarged s fun e => by rw [e] at h; cases h
    case isFalse => exact .of_core rfl
  · exact .of_core rfl
  · exact .of_core rfl

/-- The end of an event gives the others its state and leaves the fire core. -/
theorem event_fireEvent {effect : State → State} (h : FireEvent s (effect s)) : FireEvent s (fireEvent effect s) :=
  h.to_core (fireCore_settleFire _ _)

/-! ### Inputs -/

theorem event_alarmVerified (i : InputNo) : FireEvent s (alarmVerified i s) := by
  refine event_fireEvent s ?_
  split
  · exact .of_core (by simp)
  · exact FireEvent.from_core (u := setLatch i .fire s) rfl (event_actOnAlarm _ i)

theorem event_abortOn (i : InputNo) : FireEvent s (abortOn i s) := by
  refine event_fireEvent s ?_
  dsimp only
  refine (event_evaluateFire _).from_core ?_
  split <;> simp

theorem event_abortOff (i : InputNo) : FireEvent s (abortOff i s) :=
  event_fireEvent s (.from_core (u := withAborts (s.fire.ownAbort.filter (· != i)) s) rfl (event_evaluateFire _))

theorem event_verified (i : InputNo) : FireEvent s (verified i s) := by
  unfold verified
  dsimp only
  split
  · exact (event_abortOn _ i).from_core (by simp)
  · exact (event_alarmVerified _ i).from_core (by simp)

theorem event_judgeSettled (i : InputNo) (c : Code) : FireEvent s (judgeSettled i c s) := by
  unfold judgeSettled settleBand
  dsimp only
  repeat' split
  case isFalse.isFalse.isTrue.isTrue => exact (event_abortOff _ i).from_core (by simp)
  all_goals exact .of_core (by simp)

theorem event_unverified (i : InputNo) (c : Code) : FireEvent s (unverified i c s) := by
  unfold unverified
  dsimp only
  split
  · exact .from_core (u := queueReport _ (setInput i _ s)) (by simp) (event_judgeSettled _ i c)
  · exact .from_core (u := setInput i _ s) (by simp) (event_judgeSettled _ i c)

theorem event_continueVerification (i : InputNo) (v : Verification) : FireEvent s (continueVerification i v s) := by
  unfold continueVerification
  split
  · exact .of_core rfl
  · split
    · exact .of_core (by simp)
    · exact event_verified s i

theorem event_judgeCode (i : InputNo) (c : Code) : FireEvent s (judgeCode i c s) := by
  unfold judgeCode
  split
  · split
    · exact event_continueVerification s i _
    · exact event_unverified s i c
  · exact event_judgeSettled s i c

theorem event_inputConverted (c : Code) : FireEvent s (inputConverted c s) := by
  unfold inputConverted
  split
  · exact (event_judgeCode s _ c).to_core (fireCore_continueScan _ _)
  · exact .of_core rfl

theorem event_verifyOver (i : InputNo) : FireEvent s (verifyOver i s) := by
  unfold verifyOver
  split
  · exact event_verified s i
  · exact .of_core rfl

/-! ### TEST, FIRE_RESET, isolation and the timers -/

theorem fireCore_clearedByTestEnd : fireCore (clearedByTestEnd s) = fireCore s := by
  have h : fireCore (reverifyAll (testLatched s) (clearLatches (testLatched s) s)) = fireCore s := by
    rw [fireCore_reverifyAll, clearLatches_frame]
    rfl
  exact h

theorem event_calm {f : FireState} (hf : f.raised = false) (h : s.fire.state.raised = false) :
    FireEvent s (moveFire f s) :=
  .of_reach (reach_of_move (.calm _ f hf h) (fireCore_moveFire f s)) fun e => by rw [e] at h; cases h

theorem event_endTest (h : s.fire.state = .test) : FireEvent s (endTest s) := by
  rw [endTest_eq]
  have cleared := fireCore_clearedByTestEnd s
  have test : (clearedByTestEnd s).fire.state = .test := (state_of_fireCore cleared).trans h
  exact ((event_calm (clearedByTestEnd s) rfl (by rw [test]; rfl)).from_core cleared).trans (event_evaluateFire _)
    (by simp [h])

theorem event_testEnd : FireEvent s (testEnd s) := by
  unfold testEnd
  split
  case isTrue h => exact event_fireEvent s (event_endTest s h)
  case isFalse => exact .of_core (by simp)

theorem event_testTimerOver : FireEvent s (testTimerOver s) := by
  unfold testTimerOver
  split
  case isTrue h => exact event_fireEvent s (event_endTest s (by simp_all))
  case isFalse => exact .of_core rfl

theorem event_testStart : FireEvent s (testStart s) := by
  unfold testStart
  split
  case isTrue h =>
    refine event_fireEvent s ?_
    exact .from_core (u := { s with fire := { s.fire with testTimer := some Config.testSeconds } }) rfl
      (event_calm _ rfl (by simp [h, FireState.raised]))
  case isFalse => exact .of_core (by simp)

theorem FireCore.move_normal (c : FireCore) : c.move .normal = { c with state := .normal, countdown := none } := by
  simp [FireCore.move, FireState.raised]

theorem fireCore_normal_clearedByReset :
    fireCore (moveFire .normal (clearedByReset s)) =
      { fireCore s with state := .normal, countdown := none, manual := false, pulse := none,
                        episode := if s.fire.state.raised then .closed else s.climate.episode.status } := by
  have beyond := beyondEvent_clearedByReset s
  have phase : (clearedByReset s).phase = s.phase :=
    calc (clearedByReset s).phase = (beyondEvent (clearedByReset s)).phase := rfl
      _ = s.phase := by rw [beyond]; rfl
  have status : (clearedByReset s).climate.episode.status =
      if s.fire.state.raised then .closed else s.climate.episode.status := by
    rw [clearedByReset_episode]; split <;> rfl
  rw [fireCore_moveFire, FireCore.move_normal, fireCore, phase, cfg_of_beyondEvent beyond, status, clearedByReset_fire]
  rfl

theorem event_fireReset : FireEvent s (fireReset s) := by
  unfold fireReset
  split
  case isTrue h =>
    have quiet : s.fire.state ≠ .preDischarge := fun e => by rw [e] at h; cases h
    have reset : FireReach s (moveFire .normal (clearedByReset s)) :=
      reach_of_move (.reset _) (fireCore_normal_clearedByReset s)
    refine event_fireEvent s (.of_reach ?_ fun e => absurd e quiet)
    rw [acceptReset_eq]
    exact reset.trans (event_evaluateFire _).reach
  case isFalse => exact .of_core (by simp)

theorem setIsolation_state (b : Bool) : (setIsolation b s).fire.state = s.fire.state := by simp [setIsolation]

theorem fireCore_setIsolation (b : Bool) : fireCore (setIsolation b s) = { fireCore s with isolated := b } := by
  rw [setIsolation, fireCore_setTrouble]
  rfl

/-- With isolation just set, RELEASE is off in DISCHARGED, and PRE_DISCHARGE and HELD are left for CONFIRMED (R35). -/
theorem event_isolateState : FireEvent s (isolateState (setIsolation true s)) := by
  have core := fireCore_setIsolation s true
  have state := setIsolation_state s true
  generalize setIsolation true s = u at core state
  have isolated : fireCore u = { fireCore s with isolated := true, pulse := s.fire.releasePulse } := core
  have reach (h : s.fire.state ≠ .discharged) : FireReach s u := by
    have move := FireMove.isolate (fireCore s)
    rw [if_neg (show (fireCore s).state ≠ .discharged from h)] at move
    exact reach_of_move move isolated
  unfold isolateState
  split
  case h_1 h =>
    have quiet : s.fire.state ≠ .discharged := by rw [← state, h]; simp
    exact .of_reach ((reach quiet).trans (reach_rise u .confirmed false (by simp) (by simp [h]) (by simp [h])))
      (by simp)
  case h_2 h =>
    have quiet : s.fire.state ≠ .discharged := by rw [← state, h]; simp
    exact .of_reach ((reach quiet).trans (reach_rise u .confirmed false (by simp) (by simp [h]) (by simp [h])))
      (by simp)
  case h_3 h =>
    have discharged : (fireCore s).state = .discharged := state.symm.trans h
    have move := FireMove.isolate (fireCore s)
    rw [if_pos discharged] at move
    refine .of_reach (.single ?_) (by simp [h])
    have off : fireCore { u with fire := { u.fire with releasePulse := none } } =
        { fireCore s with isolated := true, pulse := none } :=
      congrArg (fun c : FireCore => { c with pulse := none }) core
    rw [off]
    exact move
  case h_4 hp _ hd =>
    exact .of_reach (reach (state ▸ hd)) fun e => absurd (state.trans e) hp

theorem event_isolateOn : FireEvent s (isolateOn s) := by
  unfold isolateOn
  split
  · exact .of_core rfl
  · refine event_fireEvent s ((event_isolateState s).trans (event_evaluateFire _) fun hs ht => ?_)
    have state : (setIsolation true s).fire.state = .preDischarge := (setIsolation_state s true).trans hs
    have unarmed : armed (setManual false (moveFire .confirmed (setIsolation true s))) = false := by
      simp [armed, setIsolation]
    have confirmed : isolateState (setIsolation true s) = setManual false (moveFire .confirmed (setIsolation true s)) := by
      simp only [isolateState, state]
    rw [confirmed, evaluateFire_of_confirmed rfl, if_neg (by simp [unarmed]), if_neg (by simp [unarmed])] at ht
    cases ht

theorem event_isolateOff : FireEvent s (isolateOff s) := by
  unfold isolateOff
  split
  · have cleared : FireEvent s (setIsolation false s) :=
      { reach := reach_of_move (.arm _) (fireCore_setIsolation s false)
        falls := fun _ _ r hr => ⟨r, (congrArg FireCore.countdown (fireCore_setIsolation s false)).trans hr, le_refl r⟩ }
    exact event_fireEvent s (cleared.trans (event_evaluateFire _) fun hs _ => (setIsolation_state s false).trans hs)
  · exact .of_core rfl

theorem event_stabilizationOver : FireEvent s (stabilizationOver s) := by
  unfold stabilizationOver
  split
  case isTrue h =>
    have hs : s.fire.state = .stabilizing := by simp_all
    refine event_fireEvent s (.of_reach ?_ (by simp [hs]))
    exact ((event_calm s rfl (by rw [hs]; rfl)).to_core (fireCore_endStabilization _)).reach.trans
      (event_evaluateFire _).reach
  case isFalse => exact .of_core rfl

theorem event_countdownOver : FireEvent s (countdownOver s) := by
  unfold countdownOver
  split
  case h_1 r hs hr =>
    split
    · exact event_fireEvent s (event_enterDischarged s (by simp [hs]))
    · refine { reach := .single (.shorten _ _ hs), falls := fun _ _ n hn => ⟨r - 1, rfl, ?_⟩ }
      have : r = n := by simpa [hr] using hn
      omega
  case h_2 => exact .of_core rfl

theorem event_releasePulseOver : FireEvent s (releasePulseOver s) where
  reach := .single (.pulseOver _)
  falls _ _ r hr := ⟨r, hr, le_refl r⟩

/-! ### Peer updates and staleness -/

theorem event_adopt (p : PeerFire) : FireEvent s (adopt p s) ∧ (adopt p s).fire.state = s.fire.state := by
  unfold adopt
  split
  case h_1 r hr =>
    split
    case isTrue h =>
      refine ⟨{ reach := .single (.shorten _ _ h.1), falls := fun _ _ n hn => ⟨peerCountdown p, rfl, ?_⟩ }, rfl⟩
      have : r = n := by simpa [hr] using hn
      have := h.2.2
      omega
    case isFalse => exact ⟨.of_core rfl, rfl⟩
  case h_2 => exact ⟨.of_core rfl, rfl⟩

theorem event_samePeerUpdate (before : Option PeerFire) (now : PeerFire) :
    FireEvent s (evaluateFire (samePeerUpdate before now s)) := by
  unfold samePeerUpdate
  split
  case isTrue h =>
    have followed : s.fire.state ≠ .test := fun e => by rw [e] at h; simp [FireState.followsEdge] at h
    rw [evaluateFire_of_resting (by simp [enterDischarged_state])]
    exact event_enterDischarged s followed
  case isFalse =>
    obtain ⟨adopted, state⟩ := event_adopt s now
    exact adopted.trans (event_evaluateFire _) fun hs _ => state.trans hs

theorem event_firePeerUpdate (before after : Peer) : FireEvent s (firePeerUpdate before after s) := by
  refine event_fireEvent s ?_
  split
  · split
    case isTrue h =>
      split
      · exact event_endTest s h
      · exact .of_core rfl
    case isFalse => exact event_samePeerUpdate s _ _
  · exact event_evaluateFire s

theorem event_peerUpdate (n : Nat) (k : UpdateKind) (after : Peer) : FireEvent s (peerUpdate n k after s) :=
  ((event_firePeerUpdate _ _ after).from_core (fireCore_setPeer s n after)).to_core
    ((fireCore_reofferChecks _ _ _ _).trans (fireCore_evaluateGrant _))

theorem event_staleNotice : FireEvent s (staleNotice s) :=
  (event_fireEvent s (event_evaluateFire s)).to_core (fireCore_evaluateGrant _)

theorem event_raiseAges : FireEvent s (raiseAges s) := by
  rw [raiseAges_eq]
  split
  · exact .of_core rfl
  · exact .from_core (u := withLine { s.line with peers := s.line.peers.map Peer.grow } s) rfl (event_staleNotice _)

theorem event_statusOver : FireEvent s (statusOver s) := by
  unfold statusOver
  exact .to_core (.from_core (u := queueState (withLine { s.line with statusTimer := some s.cfg.statusInterval } s)) rfl
    (event_raiseAges _)) (fireCore_closeWindow _)

theorem event_lineRecovered : FireEvent s (lineRecovered s) := by
  unfold lineRecovered
  split
  · exact (event_staleNotice _).from_core (by simp)
  · exact .of_core rfl

end

/-! ### Frames -/

section
variable (s : State)

/-- What a complete frame does: nothing at the fire core, or its owner's act on a state with the same fire core. -/
theorem receive_elim {P : State → Prop} (kind : Byte) (f : Frame) (act : State → State)
    (quiet : ∀ u, fireCore u = fireCore s → P u) (acts : ∀ u, fireCore u = fireCore s → P (act u)) :
    P (receive kind f act s) := by
  unfold receive validFrame
  dsimp only
  repeat' split
  case h_4.isFalse.isTrue => exact acts _ (by simp)
  all_goals exact quiet _ (by simp)

/-- The same for a COMMAND, whose owner acts on the console's alone, and refuses one of another length. -/
theorem receiveCommand_elim {P : State → Prop} (code : Byte) (f : Frame) (act : List Byte → State → State)
    (quiet : ∀ u, fireCore u = fireCore s → P u) (acts : ∀ u, fireCore u = fireCore s → P (act f.payload u)) :
    P (receiveCommand code f act s) := by
  refine receive_elim s _ _ _ quiet fun u hu => ?_
  unfold consoleOnly commandAct
  repeat' split
  · exact acts u hu
  · exact quiet _ ((fireCore_refuseCommand ..).trans hu)
  · exact quiet u hu

theorem event_receive (kind : Byte) (f : Frame) (act : State → State) (h : ∀ u, FireEvent u (act u)) :
    FireEvent s (receive kind f act s) :=
  receive_elim s kind f act (fun _ hu => .of_core hu) fun u hu => (h u).from_core hu

theorem event_receiveCommand (code : Byte) (f : Frame) (act : List Byte → State → State)
    (h : ∀ u, FireEvent u (act f.payload u)) : FireEvent s (receiveCommand code f act s) :=
  receiveCommand_elim s code f act (fun _ hu => .of_core hu) fun u hu => (h u).from_core hu

theorem event_consoleOnly (f : Frame) (act : State → State) (h : ∀ u, fireCore (act u) = fireCore u) (u : State) :
    FireEvent u (consoleOnly f act u) := by
  unfold consoleOnly
  split
  · exact .of_core (h u)
  · exact .of_core rfl

end

end Sys2Proof.Machine
end

section
/-! ## What a step does at the fire core -/

namespace Sys2Proof.Machine

/-! ### The events of a running station -/

theorem fireCore_discardFrame (s : State) (cause : DiscardCause) : fireCore (discardFrame cause s) = fireCore s := by
  unfold discardFrame
  split
  case h_4 kind f =>
    exact receive_elim (P := fun t => fireCore t = fireCore s) s kind f id (fun _ hu => hu) fun _ hu => hu
  all_goals split <;> simp

/-- The commands that act at a station whose blocks do not run, and RESTART. -/
def startsOrEnds (c : Instr) : Bool :=
  match c with
  | .restart _ => true
  | c => actsUnstarted c

/-- The effect of every command that is an event of a running station, and what it does at the fire core. -/
theorem exec_event (s : State) (c : Instr) (h : startsOrEnds c = false) :
    ∃ effect : State → State, exec c s = runEvent effect s ∧ FireEvent s (effect s) :=
  match c with
  | .powerOn .. => nomatch h
  | .resetPin .. => nomatch h
  | .configImageRead .. => nomatch h
  | .restart .. => nomatch h
  | .mainsContactSettled .. => nomatch h
  | .mainsClearDelayExpiry => nomatch h
  | .uptimeMinute => ⟨_, rfl, .of_core rfl⟩
  | .fireReset .. => ⟨_, rfl, event_receiveCommand s _ _ _ fun u => event_fireReset u⟩
  | .silence .. => ⟨_, rfl, event_receiveCommand s _ _ _ fun u => .of_core (fireCore_silenceCommand u)⟩
  | .testStart .. => ⟨_, rfl, event_receiveCommand s _ _ _ fun u => event_testStart u⟩
  | .testEnd .. => ⟨_, rfl, event_receiveCommand s _ _ _ fun u => event_testEnd u⟩
  | .isolateOn .. => ⟨_, rfl, event_receiveCommand s _ _ _ fun u => event_isolateOn u⟩
  | .isolateOff .. => ⟨_, rfl, event_receiveCommand s _ _ _ fun u => event_isolateOff u⟩
  | .clearQuarantine .. => ⟨_, rfl, event_receiveCommand s _ _ _ fun u => .of_core (fireCore_clearQuarantineAt u _)⟩
  | .resolve .. => ⟨_, rfl, event_receiveCommand s _ _ _ fun u => .of_core (fireCore_resolveWith u _)⟩
  | .commandInvalid f =>
    ⟨_, rfl, event_receive s _ f _ (event_consoleOnly f _ fun u => fireCore_refuseCommand u ..)⟩
  | .stateFrame f => ⟨_, rfl, event_receive s _ f _ fun u => event_peerUpdate u ..⟩
  | .alarmFrame f => ⟨_, rfl, event_receive s _ f _ fun u => event_peerUpdate u ..⟩
  | .consign f => ⟨_, rfl, event_receive s _ f _ (event_consoleOnly f _ fun u => fireCore_takeConsign u _)⟩
  | .entry f => ⟨_, rfl, event_receive s _ f _ (event_consoleOnly f _ fun u => fireCore_takeEntry u _)⟩
  | .cancel f => ⟨_, rfl, event_receive s _ f _ (event_consoleOnly f _ fun u => fireCore_takeCancel u _)⟩
  | .offer f => ⟨_, rfl, event_receive s _ f _ fun u => .of_core (fireCore_takeOffer u ..)⟩
  | .taken f => ⟨_, rfl, event_receive s _ f _ fun u => .of_core (fireCore_takeTaken u ..)⟩
  | .cleared f => ⟨_, rfl, event_receive s _ f _ fun u => .of_core (fireCore_takeCleared u ..)⟩
  | .withdraw f => ⟨_, rfl, event_receive s _ f _ fun u => .of_core (fireCore_takeWithdraw u ..)⟩
  | .late f => ⟨_, rfl, event_receive s _ f _ fun u => .of_core (fireCore_takeLate u ..)⟩
  | .refuse f => ⟨_, rfl, event_receive s _ f _ fun u => .of_core (fireCore_takeRefuse u ..)⟩
  | .query f => ⟨_, rfl, event_receive s _ f _ (event_consoleOnly f _ fun u => fireCore_takeQuery u ..)⟩
  | .discardedFrame .. => ⟨_, rfl, .of_core (fireCore_discardFrame s _)⟩
  | .frameGapTimeout => ⟨_, rfl, .of_core (fireCore_frameGap s)⟩
  | .lineStuckSet .. => ⟨_, rfl, .of_core (fireCore_lineStuck s _)⟩
  | .lineStuckClear => ⟨_, rfl, event_lineRecovered s⟩
  | .transmitStart .. => ⟨_, rfl, .of_core (fireCore_transmitStart s _)⟩
  | .frameSent => ⟨_, rfl, .of_core (fireCore_frameSent s)⟩
  | .readbackFailure => ⟨_, rfl, .of_core (fireCore_failReadback s)⟩
  | .statusTimerExpiry => ⟨_, rfl, event_statusOver s⟩
  | .conflictTimerExpiry => ⟨_, rfl, .of_core (fireCore_conflictOver s)⟩
  | .scanTimerExpiry .. => ⟨_, rfl, .of_core (fireCore_scanTimerOver s _)⟩
  | .inputConversionEnd .. => ⟨_, rfl, event_inputConverted s _⟩
  | .probeConversionEnd .. => ⟨_, rfl, .of_core (fireCore_probeConverted s _)⟩
  | .verifyTimerExpiry .. => ⟨_, rfl, event_verifyOver s _⟩
  | .climateTimerExpiry => ⟨_, rfl, .of_core (fireCore_climateTimerOver s)⟩
  | .climateHoldTimerExpiry => ⟨_, rfl, .of_core (fireCore_climateHoldOver s)⟩
  | .excursionDelayExpiry => ⟨_, rfl, .of_core (fireCore_excursionDelayOver s)⟩
  | .stabilizationTimerExpiry => ⟨_, rfl, event_stabilizationOver s⟩
  | .countdownExpiry => ⟨_, rfl, event_countdownOver s⟩
  | .releasePulseExpiry => ⟨_, rfl, event_releasePulseOver s⟩
  | .testTimerExpiry => ⟨_, rfl, event_testTimerOver s⟩
  | .testLatchClearExpiry .. => ⟨_, rfl, .of_core (fireCore_testLatchOver s _)⟩
  | .testPulseEnd => ⟨_, rfl, .of_core rfl⟩
  | .sounderCadenceExpiry => ⟨_, rfl, .of_core (fireCore_cadenceOver s)⟩
  | .minRunTimerExpiry => ⟨_, rfl, .of_core (fireCore_minRunExpired s)⟩
  | .minOffTimerExpiry => ⟨_, rfl, .of_core (fireCore_minOffExpired s)⟩
  | .slotScanStep .. => ⟨_, rfl, .of_core (fireCore_slotScanStep s _)⟩
  | .pullWindowExpiry .. => ⟨_, rfl, .of_core (fireCore_pullWindowOver s _)⟩
  | .returnWindowExpiry .. => ⟨_, rfl, .of_core (fireCore_returnWindowOver s _)⟩
  | .attentionRise => ⟨_, rfl, .of_core rfl⟩
  | .readResponse .. => ⟨_, rfl, .of_core (fireCore_readResponse s _)⟩
  | .signalResponse .. => ⟨_, rfl, .of_core (fireCore_signalResponse s _)⟩
  | .responseTimeout => ⟨_, rfl, .of_core (fireCore_responseTimeout s)⟩
  | .bounceTimerExpiry => ⟨_, rfl, .of_core rfl⟩
  | .recoveryTimerExpiry => ⟨_, rfl, .of_core (fireCore_recoveryOver s)⟩
  | .readerRestartDelayExpiry => ⟨_, rfl, .of_core rfl⟩
  | .openingTimerExpiry .. => ⟨_, rfl, .of_core (fireCore_openingOver s _)⟩
  | .courierWindowExpiry .. => ⟨_, rfl, .of_core (fireCore_courierOver s _)⟩
  | .deadlineTimerExpiry .. => ⟨_, rfl, .of_core (fireCore_deadlineOver s _)⟩
  | .handoverTimerExpiry .. => ⟨_, rfl, .of_core (fireCore_handoverOver s _)⟩
  | .lapseTimerExpiry .. => ⟨_, rfl, .of_core (fireCore_lapseOver s _)⟩
  | .confirmTimerExpiry .. => ⟨_, rfl, .of_core (fireCore_confirmOver s _)⟩
  | .minuteTimerExpiry => ⟨minuteOver, rfl, .of_core (fireCore_minuteOver s)⟩
  | .doorContactSettled .. => ⟨_, rfl, .of_core (fireCore_doorSettled s _)⟩
  | .doorForcedTimerExpiry => ⟨_, rfl, .of_core rfl⟩
  | .validFrameDropped _ f => ⟨_, rfl, event_receive s _ f _ fun _ => .of_core rfl⟩

/-! ### Starts and RESTART -/

theorem fireCore_startStation (s : State) (image : List Byte) (attention : Bool) (check : CircuitCheck) :
    fireCore (startStation image attention check s) =
      { fireCore s with phase := .running, cfg := (judgeImage image).getD Settings.defaults } := by
  have started : fireCore (startStation image attention check s) =
      fireCore (startBlocks attention (applyImage image s)) := by simp [startStation]
  rw [started]
  rfl

theorem fireCore_takeRestart (s : State) :
    fireCore (takeRestart s) =
      { phase := .restarting, cfg := s.cfg, state := .stabilizing, countdown := none, manual := false,
        isolated := s.fire.isolated, pulse := none, episode := (restartEpisode s.climate.episode).status } := by
  rw [takeRestart_eq, fireCore_queueReports, blocksRestarted_frame]
  rfl

theorem climate_takeRestart (s : State) : (takeRestart s).climate = restartClimate s.climate := by
  rw [takeRestart_eq, queueReports_frame, blocksRestarted_frame]

theorem restartEpisode_status_ne (e : Episode) : (restartEpisode e).status ≠ .opened := by
  unfold restartEpisode
  split
  · simp
  · assumption

theorem climate_reevaluateForced (s : State) : (reevaluateForced s).climate = s.climate := by
  rw [reevaluateForced_frame]

theorem climate_setTrouble (x : Trouble) (b : Bool) (s : State) : (setTrouble x b s).climate = s.climate := by
  rw [setTrouble_frame]

theorem climate_mainsSettled (b : Bool) (s : State) : (mainsSettled b s).climate = s.climate := by
  cases b with
  | true => exact (climate_reevaluateForced _).trans (climate_setTrouble ..)
  | false =>
    change (mainsNormal s).climate = _
    unfold mainsNormal
    split <;> rfl

theorem climate_mainsCleared (s : State) : (mainsCleared s).climate = s.climate := by
  unfold mainsCleared
  split
  · rw [climate_reevaluateForced, climate_setTrouble]
  · rfl

/-! ### Steps -/

/-- What a step does at the fire core and, where the blocks do not run, at the climate state. -/
inductive FireStep (s t : State) : Prop
  /-- an event of a running station -/
  | event (run : s.phase = .running) (h : FireEvent s t)
  /-- nothing; a second takes one from a release pulse that runs -/
  | rest (core : fireCore t = { fireCore s with pulse := t.fire.releasePulse })
      (pulse : t.fire.releasePulse.isSome = s.fire.releasePulse.isSome) (climate : t.climate.state = s.climate.state)
  /-- the start begun, or a RESTART taken -/
  | begun (state : t.fire.state = .stabilizing) (countdown : t.fire.countdown = none) (pulse : t.fire.releasePulse = none)
      (episode : t.climate.episode.status ≠ .opened) (climate : t.climate.state = .starting)
  /-- the blocks started with the configured values -/
  | started (stopped : s.phase ≠ .running) (core : fireCore t = { fireCore s with phase := .running, cfg := t.cfg })

variable {s t : State}

theorem FireStep.unchanged (h : fireCore t = fireCore s) (hc : t.climate.state = s.climate.state) : FireStep s t :=
  .rest (h.trans (congrArg (fun c : FireCore => { fireCore s with pulse := c.pulse }) h.symm))
    (congrArg (fun c : FireCore => c.pulse.isSome) h) hc

theorem fireStep_beginStart (own : Strap) (role : Role) (s : State) : FireStep s (beginStart own role s) :=
  .begun rfl rfl rfl (by simp [beginStart, setActive, State.reset]) rfl

theorem fireStep_configImageRead (image : List Byte) (attention : Bool) (check : CircuitCheck)
    (h : exec (.configImageRead image attention check) s = .next t) : FireStep s t := by
  have started (hs : s.phase ≠ .running) : FireStep s (startStation image attention check s) := by
    have core := fireCore_startStation s image attention check
    exact .started hs (core.trans (by rw [show (startStation image attention check s).cfg = _ from congrArg FireCore.cfg core]))
  change execConfigImageRead image attention check s = _ at h
  cases h
  split
  case h_1 hp => exact started (by simp [hp])
  case h_2 hp => exact started (by simp [hp])
  case h_3 => exact .unchanged rfl rfl

theorem fireStep_restart (run : s.phase = .running) (f : Frame) :
    FireStep s (receiveCommand codeRestart f (fun _ => restartCommand) s) := by
  refine receiveCommand_elim s _ f _ (fun u hu => .event run (.of_core hu)) fun u hu => ?_
  unfold restartCommand
  split
  · exact .event run (.of_core ((fireCore_refuseCommand ..).trans hu))
  · have core := fireCore_takeRestart u
    refine .begun (congrArg FireCore.state core) (congrArg FireCore.countdown core) (congrArg FireCore.pulse core) ?_
      (by rw [climate_takeRestart]; rfl)
    exact fun e => restartEpisode_status_ne _ ((congrArg FireCore.episode core).symm.trans e)

theorem fireStep_queueAlarmIfChanged (a : State) (h : FireStep s t) : FireStep s (queueAlarmIfChanged a t) := by
  unfold queueAlarmIfChanged
  split
  · exact h
  · cases h with
    | event run h => exact .event run (h.to_core rfl)
    | rest core pulse climate => exact .rest core pulse climate
    | begun state countdown pulse episode climate => exact .begun state countdown pulse episode climate
    | started stopped core => exact .started stopped core

theorem fireStep_mains {effect : State → State} (core : ∀ u, fireCore (effect u) = fireCore u)
    (climate : ∀ u, (effect u).climate = u.climate) (h : runMains effect s = .next t) : FireStep s t := by
  cases h
  split
  · exact .unchanged (core s) (by rw [climate])
  · exact .unchanged rfl rfl

theorem fireStep_exec (c : Instr) (h : exec c s = .next t) : FireStep s t := by
  cases hc : startsOrEnds c with
  | false =>
    obtain ⟨effect, run, event⟩ := exec_event s c hc
    rw [run] at h
    by_cases hs : s.phase = .running
    · rw [runEvent_running effect s hs] at h
      cases h
      exact fireStep_queueAlarmIfChanged s (.event hs event)
    · rw [runEvent_stopped effect s hs] at h
      cases h
      exact .unchanged rfl rfl
  | true =>
    cases c
    case powerOn own role => cases h; exact fireStep_beginStart own role s
    case resetPin own role => cases h; exact fireStep_beginStart own role s
    case configImageRead image attention check => exact fireStep_configImageRead image attention check h
    case mainsContactSettled b => exact fireStep_mains (fun u => fireCore_mainsSettled u b) (climate_mainsSettled b) h
    case mainsClearDelayExpiry => exact fireStep_mains fireCore_mainsCleared climate_mainsCleared h
    case restart f =>
      change runEvent _ s = _ at h
      by_cases hs : s.phase = .running
      · rw [runEvent_running _ s hs] at h
        cases h
        exact fireStep_queueAlarmIfChanged s (fireStep_restart hs f)
      · rw [runEvent_stopped _ s hs] at h
        cases h
        exact .unchanged rfl rfl
    all_goals cases hc

theorem decTimer_isSome (t : Option Nat) : (decTimer t).isSome = t.isSome := by cases t <;> rfl

theorem fireStep_step (h : step s = .next t) : FireStep s t := by
  unfold step at h
  split at h
  · cases h
    exact .rest rfl (decTimer_isSome _) rfl
  · next c rest _ =>
    cases fireStep_exec c h with
    | event run h => exact .event run (.from_core (u := { s with pending := rest }) rfl h)
    | rest core pulse climate => exact .rest core pulse climate
    | begun state countdown pulse episode climate => exact .begun state countdown pulse episode climate
    | started stopped core => exact .started stopped core

end Sys2Proof.Machine
end

section
/-! ## The invariants of the fire controller (O6, O7, O14) -/

namespace Sys2Proof.Machine

/-! ### As conditions on the fire core -/

/-- `ReleaseGuarded` of a fire core. -/
def FireCore.guarded (c : FireCore) : Prop := c.pulse.isSome = true → c.state = .discharged ∧ c.armed = true

/-- `CountdownPlaced` of a fire core. -/
def FireCore.placed (c : FireCore) : Prop := c.countdown.isSome = true ↔ c.state = .preDischarge

/-- `EpisodeFollows` of a fire core. -/
def FireCore.follows (c : FireCore) : Prop := c.episode = .opened ↔ c.state.raised = true

theorem guarded_fireCore (s : State) : (fireCore s).guarded ↔ ReleaseGuarded s := Iff.rfl
theorem placed_fireCore (s : State) : (fireCore s).placed ↔ CountdownPlaced s := Iff.rfl
theorem follows_fireCore (s : State) : (fireCore s).follows ↔ EpisodeFollows s := Iff.rfl

/-! ### Every move keeps them -/

section
variable {c d : FireCore}

/-- A pulse that runs is not left behind: the moves out of DISCHARGED and the end of arming take it away. -/
theorem FireMove.guarded (m : FireMove c d) (h : c.guarded) : d.guarded := by
  intro on
  cases m with
  | flag => exact h on
  | rise f hf hd => exact absurd (h on).1 hd
  | count n hd => exact absurd (h on).1 hd
  | shorten n hp => exact absurd ((h on).1.symm.trans hp) (by simp)
  | discharge =>
    refine ⟨rfl, ?_⟩
    cases ha : c.armed with
    | true => exact ha
    | false =>
      simp only [ha, Bool.false_eq_true, if_false] at on
      exact absurd (ha.symm.trans (h on).2) (by simp)
  | calm f hf hc =>
    rw [(h on).1] at hc
    cases hc
  | reset => cases on
  | isolate =>
    dsimp only at on
    split at on
    · cases on
    · next hd => exact absurd (h on).1 hd
  | arm =>
    obtain ⟨state, armed⟩ := h on
    refine ⟨state, ?_⟩
    simp only [FireCore.armed, Bool.and_eq_true] at armed ⊢
    exact ⟨armed.1, rfl⟩
  | pulseOver => cases on

theorem FireCore.placed_move (c : FireCore) (f : FireState) (hf : f ≠ .preDischarge) : (c.move f).placed := by
  simp [FireCore.placed, FireCore.move, hf]

theorem FireMove.placed (m : FireMove c d) (h : c.placed) : d.placed := by
  cases m with
  | flag | isolate | arm | pulseOver => exact h
  | rise f hf => exact c.placed_move f (by rcases hf with rfl | rfl | rfl <;> simp)
  | count n => exact iff_of_true rfl rfl
  | shorten n hp => exact iff_of_true rfl hp
  | discharge => exact c.placed_move .discharged (by simp)
  | calm f hf => exact c.placed_move f (by rintro rfl; cases hf)
  | reset => exact iff_of_false (by simp) (by simp)

/-- A move to a raised state from a state other than TEST: the episode is OPEN then. -/
theorem FireCore.follows_move_raised (h : c.follows) (f : FireState) (hf : f.raised = true) (ht : c.state ≠ .test) :
    (c.move f).follows := by
  refine iff_of_true ?_ hf
  by_cases calm : c.state = .normal ∨ c.state = .stabilizing
  · exact if_pos ⟨calm, hf⟩
  · refine (if_neg fun k => calm k.1).trans (h.2 ?_)
    cases hs : c.state <;> simp_all [FireState.raised]

theorem FireMove.follows (m : FireMove c d) (h : c.follows) : d.follows := by
  cases m with
  | flag | shorten | isolate | arm | pulseOver => exact h
  | rise f hf hd ht => exact FireCore.follows_move_raised h f (by rcases hf with rfl | rfl | rfl <;> rfl) ht
  | count n hd ht => exact FireCore.follows_move_raised h .preDischarge rfl ht
  | discharge ht => exact FireCore.follows_move_raised h .discharged rfl ht
  | calm f hf hc =>
    refine iff_of_false (fun e => ?_) (by simp [FireCore.move, hf])
    have kept : (c.move f).episode = c.episode := if_neg (by simp [hf])
    exact absurd (h.1 (kept.symm.trans e)) (by simp [hc])
  | reset =>
    refine iff_of_false (fun e => ?_) (by simp [FireState.raised])
    dsimp only at e
    split at e
    · cases e
    · next hr => exact hr (h.1 e)

theorem FireMove.phase (m : FireMove c d) : d.phase = c.phase := by cases m <;> rfl

end

/-- A condition that every move keeps is kept by moves one after another. -/
theorem FireReach.keeps {P : FireCore → Prop} (moves : ∀ {c d : FireCore}, FireMove c d → P c → P d) {s t : State}
    (r : FireReach s t) (h : P (fireCore s)) : P (fireCore t) :=
  Relation.ReflTransGen.head_induction_on (motive := fun c _ => P c → P (fireCore t)) r id
    (fun m _ ih hc => ih (moves m hc)) h

theorem FireReach.phase {s t : State} (r : FireReach s t) : t.phase = s.phase :=
  FireReach.keeps (P := fun c => c.phase = s.phase) (fun m h => m.phase.trans h) r rfl

/-! ### Every step keeps them -/

variable {s t : State}

theorem FireStep.startQuiet (h : FireStep s t) (quiet : StartQuiet s) : StartQuiet t := by
  intro stopped
  cases h with
  | event run h => exact absurd (h.reach.phase.trans run) stopped
  | rest core pulse climate =>
    obtain ⟨starting, off⟩ := quiet fun run => stopped ((congrArg FireCore.phase core).trans run)
    exact ⟨climate.trans starting, Option.isNone_iff_eq_none.1 (by simpa [off] using pulse)⟩
  | begun state countdown pulse episode climate => exact ⟨climate, pulse⟩
  | started stopped' core => exact absurd (congrArg FireCore.phase core) stopped

theorem FireStep.releaseGuarded (h : FireStep s t) (quiet : StartQuiet s) (guarded : ReleaseGuarded s) :
    ReleaseGuarded t := by
  cases h with
  | event run h => exact h.reach.keeps FireMove.guarded guarded
  | rest core pulse =>
    refine fun on => (guarded_fireCore t).1 ?_ on
    rw [core]
    exact fun _ => guarded (pulse.symm.trans on)
  | begun state countdown pulse => exact fun on => by simp [releaseOn, pulse] at on
  | started stopped core =>
    have off : t.fire.releasePulse = none := (congrArg FireCore.pulse core).trans (quiet stopped).2
    exact fun on => by simp [releaseOn, off] at on

theorem FireStep.countdownPlaced (h : FireStep s t) (placed : CountdownPlaced s) : CountdownPlaced t := by
  cases h with
  | event run h => exact h.reach.keeps FireMove.placed placed
  | rest core | started _ core =>
    refine (placed_fireCore t).1 ?_
    rw [core]
    exact placed
  | begun state countdown => simp [CountdownPlaced, state, countdown]

theorem FireStep.episodeFollows (h : FireStep s t) (follows : EpisodeFollows s) : EpisodeFollows t := by
  cases h with
  | event run h => exact h.reach.keeps FireMove.follows follows
  | rest core | started _ core =>
    refine (follows_fireCore t).1 ?_
    rw [core]
    exact follows
  | begun state countdown pulse episode => exact iff_of_false episode (by simp [state, FireState.raised])

theorem FireStep.falls (h : FireStep s t) (hs : s.fire.state = .preDischarge) (ht : t.fire.state = .preDischarge)
    {r : Nat} (hr : s.fire.countdown = some r) : ∃ r', t.fire.countdown = some r' ∧ r' ≤ r := by
  cases h with
  | event run h => exact h.falls hs ht r hr
  | rest core | started _ core => exact ⟨r, (congrArg FireCore.countdown core).trans hr, le_refl r⟩
  | begun state => exact absurd (state.symm.trans ht) (by simp)

/-- Settles O6: no move of the fire core leaves a release pulse outside DISCHARGED or unarmed, and a start has none. -/
theorem releaseOnlyInDischargedWhileArmed : Obligations.ReleaseOnlyInDischargedWhileArmed := by
  unfold Obligations.ReleaseOnlyInDischargedWhileArmed
  intro s t quiet guarded h
  exact ⟨(fireStep_step h).startQuiet quiet, (fireStep_step h).releaseGuarded quiet guarded⟩

/-- Settles O7: every move of the fire core keeps the two equivalences, and so does every start. -/
theorem countdownAndEpisodeFollowTheFireState : Obligations.CountdownAndEpisodeFollowTheFireState := by
  unfold Obligations.CountdownAndEpisodeFollowTheFireState
  exact ⟨fun s t placed h => (fireStep_step h).countdownPlaced placed,
    fun s t follows h => (fireStep_step h).episodeFollows follows⟩

/-- Settles O14: within PRE_DISCHARGE every event writes a countdown no larger, and no start ends in PRE_DISCHARGE. -/
theorem countdownNeverRisesInPreDischarge : Obligations.CountdownNeverRisesInPreDischarge := by
  unfold Obligations.CountdownNeverRisesInPreDischarge
  intro c s t r h hs hr ht
  exact (fireStep_exec c h).falls hs ht hr

end Sys2Proof.Machine
end

section
/-! ## Reset, starts, plain expiries and refused commands (O5, O16, O19, O27) -/

namespace Sys2Proof.Machine

/-! ### Reset -/

/-- Settles O5: at reset the lists are empty, the fire state is STABILIZING with no countdown and no release pulse, no
trouble is active, and the allotter and the pause are as the climate state STARTING wants them. -/
theorem resetMeetsEveryInvariant : Obligations.ResetMeetsEveryInvariant := by
  unfold Obligations.ResetMeetsEveryInvariant
  refine ⟨?startQuiet, ?release, ?countdown, ?episode, ?drying, ?pause, ?expected, ?givers, ?lists, ?tags, ?numbers,
    ?slots, ?owed, ?checks, ?stuck, ?strap, ?sizes, ?offers, ?timers⟩
  case startQuiet => exact fun _ => ⟨rfl, rfl⟩
  case release => exact fun on => absurd on (by decide)
  case countdown => exact iff_of_false (by decide) (by decide)
  case episode => exact iff_of_false (by decide) (by decide)
  case drying => exact ⟨by decide, fun _ => ⟨rfl, rfl⟩⟩
  case pause => decide
  case expected => exact fun blocks => absurd blocks (by decide)
  case givers => exact fun blocks => absurd blocks (by decide)
  case lists => simp [ListsBounded, State.reset]
  case tags | numbers => exact List.nodup_nil
  case slots => simp [SlotTableSound, SlotTagsDistinct, PresenceMatches, State.reset]
  case owed => exact Nat.zero_le _
  case checks => exact ⟨Nat.zero_le _, Nat.zero_le _⟩
  case stuck | strap => exact fun _ => rfl
  case sizes => exact ⟨rfl, rfl, rfl, rfl⟩
  case offers | timers => exact fun _ none => absurd none List.not_mem_nil

/-! ### The start begun -/

theorem strapValid_eq_false_iff (own : Strap) : strapValid own = false ↔ own.toNat = 0 ∨ own.toNat = 31 := by
  have := own.isLt
  simp only [strapValid, Bool.and_eq_false_iff, decide_eq_false_iff_not]
  omega

/-- The troubles at the start: STRAP_INVALID alone, for an own number of 0 or 31 (R183). -/
theorem setTroubleBit_zero_strapInvalid (own : Strap) :
    setTroubleBit 0 Trouble.strapInvalid.code (!strapValid own) =
      if own.toNat = 0 ∨ own.toNat = 31 then BitVec.twoPow 25 Trouble.strapInvalid.code else 0 := by
  have valid := strapValid_eq_false_iff own
  cases h : strapValid own with
  | false => simp [if_pos (valid.1 h), setTroubleBit]
  | true => simp [if_neg (mt valid.2 (by simp [h])), setTroubleBit]

theorem beginStart_eq (own : Strap) (role : Role) (s : State) :
    beginStart own role s =
      { State.reset with
        phase := .readingImage, own := own, role := role, freeCount := s.freeCount, pending := s.pending,
        out := { State.reset.out with
          active := (if own.toNat = 0 ∨ own.toNat = 31 then BitVec.twoPow 25 Trouble.strapInvalid.code else 0) } } := by
  rw [← setTroubleBit_zero_strapInvalid]
  rfl

/-- Settles O16: both commands begin the start. -/
theorem powerOnAndResetPinBeginTheStart : Obligations.PowerOnAndResetPinBeginTheStart := by
  unfold Obligations.PowerOnAndResetPinBeginTheStart
  exact ⟨fun s own role => congrArg Host.Outcome.next (beginStart_eq own role s),
    fun s own role => congrArg Host.Outcome.next (beginStart_eq own role s)⟩

/-! ### Plain expiries -/

/-- Settles O19: each effect writes its one field, which no reported fire value reads, so no ALARM is queued. -/
theorem plainExpiriesEndTheirTimerAlone : Obligations.PlainExpiriesEndTheirTimerAlone := by
  unfold Obligations.PlainExpiriesEndTheirTimerAlone
  exact ⟨fun s h => runEvent_unreported minutePassed s h rfl, fun s h => runEvent_unreported releasePulseOver s h rfl,
    fun s h => runEvent_unreported testPulseOver s h rfl, fun s h => runEvent_unreported bounceOver s h rfl,
    fun s h => runEvent_unreported doorForcedOver s h rfl⟩

/-! ### Refused commands -/

/-- An accepted COMMAND that its owner refuses queues its report and, as it leaves the fire record, no ALARM. -/
theorem runCommand_refused (code : Byte) (f : Frame) (act : List Byte → State → State) (s : State)
    (h : AcceptedCommand code f s) (refuses : act f.payload (heard f s) = refuseCommand code 0 0 (heard f s)) :
    runEvent (receiveCommand code f act) s =
      .next (queueReport { kind := .commandRefused, code := code.toNat } (heard f s)) := by
  have report : refuseCommand code 0 0 (heard f s) =
      queueReport { kind := .commandRefused, code := code.toNat } (heard f s) := rfl
  have frame := queueReport_frame { kind := .commandRefused, code := code.toNat } (heard f s)
  rw [runCommand_accepted s code f act h, refuses, report]
  exact congrArg Host.Outcome.next
    (queueAlarmIfChanged_of_fire_eq ((congrArg State.fire frame).trans rfl) ((congrArg State.cfg frame).trans rfl))

/-- Settles O27: outside its states each command is refused. -/
theorem refusedFireCommandsOnlyReport : Obligations.RefusedFireCommandsOnlyReport := by
  unfold Obligations.RefusedFireCommandsOnlyReport
  refine ⟨fun s f h hs => ?_, fun s f h hs => ?_, fun s f h hs => ?_, fun s f h hs => ?_, fun s f h hs => ?_⟩
  · exact runCommand_refused codeFireReset f (fun _ => fireReset) s h
      (if_neg (show ¬ s.fire.state.resettable = true by rcases hs with e | e | e <;> simp [e, FireState.resettable]))
  · obtain ⟨alert, confirmed, held⟩ := hs
    exact runCommand_refused codeSilence f (fun _ => silenceCommand) s h
      (if_neg (show ¬ s.fire.state.silenceable = true by simp [silenceable_iff, alert, confirmed, held]))
  · exact runCommand_refused codeTestStart f (fun _ => testStart) s h (if_neg hs)
  · exact runCommand_refused codeTestEnd f (fun _ => testEnd) s h (if_neg hs)
  · exact runCommand_refused codeRestart f (fun _ => restartCommand) s h
      (if_pos (show s.fire.state.blocksHandover = true from (blocksHandover_iff _).2 hs))

end Sys2Proof.Machine
end

section
/-! ## One second passes (O2) -/

namespace Sys2Proof.Machine

/-! ### The expiries that fall due -/

theorem mem_whenDue {c d : Instr} {t : Option Nat} : c ∈ whenDue t d ↔ fallsDue t = true ∧ c = d := by
  unfold whenDue
  split <;> simp_all

/-- Whether a command is the expiry of a slot, a consignment record or a custody entry. -/
def expiresInTable (c : Instr) : Bool :=
  match c with
  | .pullWindowExpiry _ | .returnWindowExpiry _ | .openingTimerExpiry _ | .courierWindowExpiry _
  | .deadlineTimerExpiry _ | .handoverTimerExpiry _ | .lapseTimerExpiry _ | .confirmTimerExpiry _ => true
  | _ => false

section
variable {c : Instr} (h : expiresInTable c = false)
include h

theorem not_mem_slotDue (sl : Slot) : c ∉ slotDue sl := by
  unfold slotDue
  intro hc
  repeat' split at hc
  · rw [(mem_whenDue.1 hc).2] at h; cases h
  · rw [(mem_whenDue.1 hc).2] at h; cases h
  · cases hc

theorem not_mem_recordDue (r : Consignment) : c ∉ recordDue r := by
  simp only [recordDue, List.mem_append, mem_whenDue]
  rintro ((⟨-, rfl⟩ | ⟨-, rfl⟩) | ⟨-, rfl⟩) <;> cases h

theorem not_mem_custodyDue (e : CustodyEntry) : c ∉ custodyDue e := by
  unfold custodyDue
  intro hc
  split at hc
  · rw [(mem_whenDue.1 hc).2] at h; cases h
  · rw [(mem_whenDue.1 hc).2] at h; cases h
  · rw [(mem_whenDue.1 hc).2] at h; cases h
  · cases hc

/-- Beside the tables' expiries the cartridge blocks have the minute timer's alone. -/
theorem mem_cartridgeDue (s : State) :
    c ∈ cartridgeDue s ↔ (s.hold.paused = false ∧ s.hold.seconds ≤ 1) ∧ c = .minuteTimerExpiry := by
  have slots : c ∉ s.scanner.slots.flatMap slotDue := by simp [not_mem_slotDue h]
  have records : c ∉ s.consignments.flatMap recordDue := by simp [not_mem_recordDue h]
  have custody : c ∉ s.custody.entries.flatMap custodyDue := by simp [not_mem_custodyDue h]
  simp only [cartridgeDue, List.mem_append, slots, records, custody, false_or]
  split <;> simp_all

end

theorem countdownExpiry_mem_due (s : State) : Instr.countdownExpiry ∈ due s ↔ s.fire.countdown.isSome = true := by
  have table := mem_cartridgeDue (c := .countdownExpiry) rfl s
  simp only [due, List.mem_append, table]
  simp only [fireDue, climateDue, outsideDue, List.mem_append, List.mem_flatMap, mem_whenDue, reduceCtorEq, and_false,
    exists_const, false_or, or_false]
  cases s.fire.countdown <;> simp

theorem minuteTimerExpiry_mem_due (s : State) :
    Instr.minuteTimerExpiry ∈ due s ↔ s.hold.paused = false ∧ s.hold.seconds ≤ 1 := by
  have table := mem_cartridgeDue (c := .minuteTimerExpiry) rfl s
  simp only [due, List.mem_append, table]
  simp [fireDue, climateDue, outsideDue, mem_whenDue]

/-! ### Entries and slots after one more second -/

theorem tickCustody_state (e : CustodyEntry) : (tickCustody e).state = e.state := by
  unfold tickCustody
  split <;> rfl

/-- A SUSPENDED entry keeps its timer (R140). -/
theorem tickCustody_suspended {e : CustodyEntry} (h : e.state = .suspended) : tickCustody e = e :=
  if_neg (by simp [CustodyEntry.timerRuns, h])

theorem step_of_empty {s : State} (h : s.pending = []) : step s = .next (tick s) := by
  unfold step
  rw [h]

/-- Settles O2: the step is `tick`, which appends `due` to the empty queue. -/
theorem emptyQueueLetsOneSecondPass : Obligations.EmptyQueueLetsOneSecondPass := by
  unfold Obligations.EmptyQueueLetsOneSecondPass
  intro s h
  have queue : (tick s).pending = due s := congrArg (· ++ due s) h
  refine ⟨tick s, step_of_empty h, queue, queue ▸ countdownExpiry_mem_due s, queue ▸ minuteTimerExpiry_mem_due s,
    rfl, rfl, rfl, rfl, rfl, rfl, fun e he hs => ?_, ?_, ?_, rfl, rfl, rfl, rfl, rfl, rfl, rfl⟩
  · exact List.mem_map.2 ⟨e, he, tickCustody_suspended hs⟩
  · exact List.map_map.trans (List.map_congr_left fun e _ => tickCustody_state e)
  · exact List.map_map

end Sys2Proof.Machine
end

section
/-! ## The countdown and the stabilization period run out (O26) -/

namespace Sys2Proof.Machine

/-! ### What the end of an event writes -/

section
variable (s : State)

/-- An event that ends no pause leaves the report queue as its effect made it. -/
theorem settleFire_line_of_pauseKept (before : FireRecord) (h : s.hold.paused = true → pauseCondition s = true) :
    (settleFire before s).line = { s.line with stateQueued := (settleFire before s).line.stateQueued } := by
  unfold settleFire
  by_cases e : s.fire.state = before.state
  · rw [if_pos e]
    split <;> rfl
  have hb := beyondSettling_beforePause s
  have kept : ((beforePause s).hold.paused && !pauseCondition (beforePause s)) = false := by
    rw [beforePause_hold, pauseCondition_congr (climate_of_beyondSettling hb) (fireState_of_beyondSettling hb)]
    cases hp : s.hold.paused <;> simp_all
  have judged : (judgePause (beforePause s)).line = (beforePause s).line := by
    unfold judgePause
    dsimp only
    rw [kept]
    rfl
  rw [if_neg e]
  change (judgePause (beforePause s)).line = { s.line with stateQueued := (judgePause (beforePause s)).line.stateQueued }
  rw [judged]
  exact beforePause_line s

/-- A move of the fire state ends a silence of a lower level (R37). -/
theorem settleFire_silence (before : FireRecord) (h : s.fire.state ≠ before.state) :
    (settleFire before s).fire.silence = silenceAfter s.fire.state s.fire.silence := by
  rw [settleFire, if_neg h]
  simp [sounderAfterMove]

end

/-- Every silence of another level ends at DISCHARGED. -/
theorem silenceAfter_discharged {level : Option FireState} (h : level ≠ some .discharged) :
    silenceAfter .discharged level = none := by
  cases level with
  | none => rfl
  | some l =>
    have lower : l.level < FireState.discharged.level := by cases l <;> simp_all [FireState.level]
    exact if_pos lower

/-- Entry to a state that blocks the handover leaves no entry EXPECTED or OFFERED (R140, R143). -/
theorem custodyMoved_blocks {before after : FireState} (c : CustodyRecord) (hne : after ≠ before)
    (h : after = .preDischarge ∨ after = .held ∨ after = .discharged) :
    (custodyMoved before after c).suspended = true ∧
      ∀ e ∈ (custodyMoved before after c).entries, e.state ≠ .expected ∧ e.state ≠ .offered := by
  rw [custodyMoved, if_neg hne, if_pos h]
  refine ⟨rfl, fun e he => ?_⟩
  obtain ⟨e', he', rfl⟩ := List.mem_map.1 he
  have kept : e'.state ≠ .expected := by simpa using (List.mem_filter.1 he').2
  split
  case isTrue => simp
  case isFalse hn => exact ⟨kept, hn⟩

/-! ### COUNTDOWN_EXPIRY (R29, R33) -/

section
variable {s : State}

theorem countdownOver_of_some {n : Nat} (hs : s.fire.state = .preDischarge) (hr : s.fire.countdown = some n) :
    countdownOver s = if n ≤ 1 then fireEvent enterDischarged s else setCountdown (n - 1) s := by
  simp only [countdownOver, hs, hr]

theorem countdownOver_of_more {r : Nat} (hs : s.fire.state = .preDischarge) (hr : s.fire.countdown = some (r + 2)) :
    countdownOver s = { s with fire := { s.fire with countdown := some (r + 1) } } :=
  (countdownOver_of_some hs hr).trans (if_neg (by omega))

theorem countdownOver_of_one (hs : s.fire.state = .preDischarge) (hr : s.fire.countdown = some 1) :
    countdownOver s = settleFire s.fire (enterDischarged s) :=
  (countdownOver_of_some hs hr).trans (if_pos (le_refl 1))

theorem countdownOver_of_none (h : s.fire.state ≠ .preDischarge ∨ s.fire.countdown = none) : countdownOver s = s := by
  unfold countdownOver
  split
  · next hs hr => simp_all
  · rfl

theorem enterDischarged_episode (s : State) :
    (enterDischarged s).climate = { s.climate with
      episode := episodeAfterMove s.fire.state .discharged s.climate.episode } := by
  unfold enterDischarged startRelease
  split <;> rfl

/-- The event of the last second: entry to DISCHARGED, which differs from PRE_DISCHARGE and so queues an ALARM. -/
theorem exec_countdownExpiry_last (run : s.phase = .running) (hs : s.fire.state = .preDischarge)
    (hr : s.fire.countdown = some 1) :
    exec .countdownExpiry s = .next (queueAlarm (settleFire s.fire (enterDischarged s))) := by
  refine (runEvent_running countdownOver s run).trans ?_
  rw [countdownOver_of_one hs hr, queueAlarmIfChanged_of_state_ne]
  rw [settleFire_fireState, enterDischarged_state, hs]
  simp

end

/-! ### STABILIZATION_TIMER_EXPIRY (R12, R25, R187) -/

theorem moveFire_normal_self {v : State} (hs : v.fire.state = .normal) (hc : v.fire.countdown = none) :
    moveFire .normal v = v := by
  have fire : (moveFire .normal v).fire = v.fire := by
    rw [moveFire_fire, if_neg (by simp), ← hs, ← hc]
  have climate : (moveFire .normal v).climate = v.climate := by rw [moveFire_climate, episodeAfterMove_normal]
  calc moveFire .normal v = { v with fire := (moveFire .normal v).fire, climate := (moveFire .normal v).climate } := rfl
    _ = v := by rw [fire, climate]

/-- What the end of STABILIZING by its timer has made of the records when it evaluates. -/
def stabilized (s : State) : State := endStabilization (moveFire .normal s)

section
variable (s : State)

theorem stabilized_fire : (stabilized s).fire = { s.fire with state := .normal, countdown := none, stabTimer := none } := by
  rw [stabilized, endStabilization_fire]
  rfl

theorem beyondEvent_stabilized : beyondEvent (stabilized s) = beyondEvent s := by simp [stabilized]

theorem exec_stabilizationTimerExpiry (run : s.phase = .running) (hs : s.fire.state = .stabilizing)
    (ht : s.fire.stabTimer.isSome = true) :
    exec .stabilizationTimerExpiry s = .next (evaluatedEvent s s.fire (stabilized s)) := by
  have normal : moveFire .normal (stabilized s) = stabilized s :=
    moveFire_normal_self (by rw [stabilized_fire]) (by rw [stabilized_fire])
  refine (runEvent_running stabilizationOver s run).trans ?_
  rw [stabilizationOver, if_pos (by simp [ht, hs]), evaluatedEvent, normal]
  rfl

theorem stabilizationOver_of_none (h : s.fire.state ≠ .stabilizing ∨ s.fire.stabTimer = none) :
    stabilizationOver s = s := by
  refine if_neg fun k => ?_
  obtain ⟨timer, state⟩ := (Bool.and_eq_true _ _).mp k
  rcases h with h | h
  · exact h (by simpa using state)
  · simp [h] at timer

theorem stabilized_out : (stabilized s).out = { s.out with reported := s.out.active } := by
  have out := out_of_beyondEvent (beyondEvent_stabilized s)
  have active : (stabilized s).out.active = s.out.active := endStabilization_active _
  have reported : (stabilized s).out.reported = s.out.active := endStabilization_reported _
  rw [out, active, reported]

theorem inputRecord_stabilized (h : s.sup.inputs.length = 6) (i : InputNo) :
    inputRecord i (stabilized s) = releasedRecord i s := by
  refine (inputRecord_endStabilization (moveFire .normal s) h i).trans ?_
  exact releasedRecord_congr i rfl rfl

theorem stabilized_line :
    (stabilized s).line = (queueReports (heldBackReports s.out.reported s.out.active) s).line := by
  rw [stabilized, endStabilization_line, queueReports_line, queueReports_line]
  rfl

/-- The end of STABILIZING ends no pause, since STABILIZING is not raised. -/
theorem pauseCondition_stabilized (hs : s.fire.state = .stabilizing) (h : pauseCondition s = true) :
    pauseCondition (evaluateFire (moveFire .normal (stabilized s))) = true :=
  pauseCondition_mono (climate_of_beyondEvent (by simp [beyondEvent_stabilized])) (by simp [hs, FireState.raised]) h

theorem evaluatedEvent_stabTimer (a v : State) (before : FireRecord) :
    (evaluatedEvent a before v).fire.stabTimer = v.fire.stabTimer := by simp [evaluatedEvent]

/-- The reports of the end of STABILIZING: the troubles held back, where the pause follows its conditions. -/
theorem stabilized_reports (hs : s.fire.state = .stabilizing) (hp : PauseFollows s) :
    (evaluatedEvent s s.fire (stabilized s)).line.reports =
        (queueReports (heldBackReports s.out.reported s.out.active) s).line.reports ∧
      (evaluatedEvent s s.fire (stabilized s)).line.reportsLost =
        (queueReports (heldBackReports s.out.reported s.out.active) s).line.reportsLost := by
  have kept : (evaluateFire (moveFire .normal (stabilized s))).hold.paused = true →
      pauseCondition (evaluateFire (moveFire .normal (stabilized s))) = true := by
    rw [evaluateFire_hold, moveFire_hold, stabilized, endStabilization_hold]
    exact fun paused => pauseCondition_stabilized s hs (hp.symm.trans paused)
  rw [evaluatedEvent, queueAlarmIfChanged_reports, queueAlarmIfChanged_reportsLost,
    settleFire_line_of_pauseKept _ _ kept, evaluateFire_line, moveFire_line, stabilized_line]
  exact ⟨rfl, rfl⟩

end

/-- Settles O26: the last second enters DISCHARGED, and the end of STABILIZING is `evaluatedEvent` after `stabilized`. -/
theorem countdownAndStabilizationRunOut : Obligations.CountdownAndStabilizationRunOut := by
  unfold Obligations.CountdownAndStabilizationRunOut
  refine ⟨fun s r run hs hr => ?more, fun s run hs hr hl => ?last, fun s run h => ?rest, fun s run hsize hs ht => ?stab,
    fun s run h => ?unstab⟩
  case more =>
    have effect := countdownOver_of_more hs hr
    exact (runEvent_unreported countdownOver s run (by rw [effect]; rfl)).trans (congrArg _ effect)
  case rest =>
    have effect := countdownOver_of_none h
    exact (runEvent_unreported countdownOver s run (by rw [effect])).trans (congrArg _ effect)
  case unstab =>
    have effect := stabilizationOver_of_none s h
    exact (runEvent_unreported stabilizationOver s run (by rw [effect])).trans (congrArg _ effect)
  case last =>
    refine ⟨_, exec_countdownExpiry_last run hs hr, ?_⟩
    generalize ht : queueAlarm (settleFire s.fire (enterDischarged s)) = t
    have fire := enterDischarged_fire s
    have state : (enterDischarged s).fire.state = .discharged := enterDischarged_state s
    have settled : t.fire = (settleFire s.fire (enterDischarged s)).fire := ht ▸ rfl
    have moved : (enterDischarged s).fire.state ≠ s.fire.state := by rw [state, hs]; simp
    have silence : t.fire.silence = none := by
      rw [settled, settleFire_silence _ _ moved, state]
      exact silenceAfter_discharged (by rw [fire]; exact hl)
    have climate : t.climate = (enterDischarged s).climate := by rw [← ht]; exact settleFire_climate _ _
    have custody : t.custody = custodyMoved s.fire.state .discharged s.custody := by
      rw [← ht]
      refine (settleFire_custody _ _).trans ?_
      rw [state, custody_of_beyondMove (beyondMove_enterDischarged s)]
    obtain ⟨suspended, none⟩ := custodyMoved_blocks s.custody (state ▸ moved) (.inr (.inr rfl))
    have sup : t.sup = s.sup := by
      rw [← ht]; exact (settleFire_sup _ _).trans (sup_of_beyondMove (beyondMove_enterDischarged s))
    have out : t.out = s.out := by
      rw [← ht]; exact (settleFire_out _ _).trans (out_of_beyondMove (beyondMove_enterDischarged s))
    have frame : beyondEvent t = beyondEvent s := by
      rw [← ht]
      exact (beyondEvent_settleFire (enterDischarged s) s.fire).trans
        (beyondEvent_of_beyondMove (beyondMove_enterDischarged s))
    have episode : episodeAfterMove .preDischarge .discharged s.climate.episode =
        if s.climate.episode.status = .opened then { s.climate.episode with discharged := true }
        else s.climate.episode := by
      simp [episodeAfterMove]
    refine ⟨?_, ?_, silence, ?_, ?_, ?_, ?_, ?_, ?_, ?_, ?_, climate_of_beyondEvent frame, custody ▸ suspended,
      custody ▸ none, by rw [← ht]; rfl, (eq_of_beyondEvent frame).trans (by rw [sup, out]), ?_⟩
    · rw [settled, settleFire_fireState, state]
    · rw [settled, settleFire_countdown, fire]
    · rw [settled, settleFire_manual, fire]
    · rw [settled, settleFire_latches, fire]
    · rw [settled, settleFire_ownAbort, fire]
    · rw [settled, settleFire_isolated, fire]
    · rw [settled, settleFire_stabTimer, fire]
    · rw [settled, settleFire_testTimer, fire]
    · rw [settled, settleFire_releasePulse, fire]
    · rw [climate, enterDischarged_episode, hs, episode]
    · rw [custody, settled, settleFire_fireState, state]
  case stab =>
    refine ⟨_, exec_stabilizationTimerExpiry s run hs ht, ?_⟩
    generalize he : evaluatedEvent s s.fire (stabilized s) = t
    have frame : beyondEvent t = beyondEvent s := by
      rw [← he, beyondEvent_evaluatedEvent, beyondEvent_stabilized]
    have out : t.out = { s.out with reported := s.out.active } := by rw [← he, evaluatedEvent_out, stabilized_out]
    have fire := stabilized_fire s
    refine ⟨?_, ?_, fun i => ?_, out, ?_, ?_, isolated_of_beyondEvent frame, sup_of_beyondEvent frame,
      reader_of_beyondEvent frame, consignments_of_beyondEvent frame, cfg_of_beyondEvent frame,
      uptime_of_beyondEvent frame, ?_, fun hp => ?_⟩
    · rw [← he, evaluatedEvent_stabTimer, fire]
    · rw [← he]
      exact evaluatedEvent_state ..
    · rw [← he, inputRecord_congr i (congrArg Supervisor.inputs (evaluatedEvent_sup ..)),
        inputRecord_stabilized s hsize.1]
      rfl
    · rw [← he, evaluatedEvent_latches, fire]
    · rw [← he, evaluatedEvent_ownAbort, fire]
    · rw [← he, evaluatedEvent_custody, stabilized, endStabilization_custody]
      rfl
    · rw [out, ← he]
      exact stabilized_reports s hs hp

end Sys2Proof.Machine
end

section
/-! ## What an event at the fire controller leaves, by its effect -/

namespace Sys2Proof.Machine

/-! ### The end of an event (R42, R43) -/

/-- What the end of an event keeps of the fire record that its effect has made in the state `v`, and of all that the
conditions of an evaluation are read from. -/
structure EndsFire (v t : State) : Prop where
  state : t.fire.state = v.fire.state
  countdown : t.fire.countdown = v.fire.countdown
  manual : t.fire.manual = v.fire.manual
  pulse : t.fire.releasePulse = v.fire.releasePulse
  latches : t.fire.latches = v.fire.latches
  aborts : t.fire.ownAbort = v.fire.ownAbort
  isolated : t.fire.isolated = v.fire.isolated
  readings : SameReadings v t

theorem endsFire_of_fire {before : FireRecord} {v t : State} (h : t.fire = (settleFire before v).fire)
    (readings : SameReadings (settleFire before v) t) : EndsFire v t where
  state := by rw [h, settleFire_fireState]
  countdown := by rw [h, settleFire_countdown]
  manual := by rw [h, settleFire_manual]
  pulse := by rw [h, settleFire_releasePulse]
  latches := by rw [h, settleFire_latches]
  aborts := by rw [h, settleFire_ownAbort]
  isolated := by rw [h, settleFire_isolated]
  readings := (SameReadings.of_beyondSettling (beyondSettling_settleFire v before)).trans readings

/-- What the end of an event keeps of the whole state `v` that its effect has made. -/
structure Ends (v t : State) : Prop extends EndsFire v t where
  out : t.out = v.out
  sup : t.sup = v.sup
  beyond : beyondEvent t = beyondEvent v

theorem ends_event (a v : State) (before : FireRecord) :
    Ends v (queueAlarmIfChanged a (settleFire before v)) where
  toEndsFire := endsFire_of_fire (queueAlarmIfChanged_fire ..) (sameReadings_queueAlarmIfChanged a _)
  out := by simp
  sup := by simp
  beyond := by simp

/-- The handover engine at the end of an event that ends with an evaluation. -/
theorem custody_event (a u : State) (before : FireRecord) (t : State)
    (ht : t = queueAlarmIfChanged a (settleFire before (evaluateFire u))) :
    t.custody = custodyMoved before.state t.fire.state u.custody := by
  rw [ht]
  simp [settleFire_custody]

/-- An event that ends with an evaluation keeps of the state evaluated all that no move of the fire state writes. -/
theorem Ends.after_evaluation {u t : State} (h : Ends (evaluateFire u) t) :
    SameReadings u t ∧ t.fire.latches = u.fire.latches ∧ t.fire.ownAbort = u.fire.ownAbort ∧
      t.fire.isolated = u.fire.isolated ∧ t.out = u.out ∧ t.sup = u.sup ∧ beyondEvent t = beyondEvent u :=
  ⟨(SameReadings.of_beyondMove (beyondMove_evaluateFire u)).trans h.readings,
    h.latches.trans (evaluateFire_latches u), h.aborts.trans (evaluateFire_ownAbort u),
    h.isolated.trans (evaluateFire_isolated u), h.out.trans (evaluateFire_out u), h.sup.trans (evaluateFire_sup u),
    h.beyond.trans (beyondEvent_evaluateFire u)⟩

/-! ### Hearing a frame -/

/-- Peers written over one whose fire fields and freshness they keep. -/
theorem filterMap_set_sameSpaceFields (g : Nat) (ps : List Peer) (k : Nat) (p : Peer)
    (h : ∀ q ∈ ps[k]?, sameSpaceFields g p = sameSpaceFields g q) :
    (ps.set k p).filterMap (sameSpaceFields g) = ps.filterMap (sameSpaceFields g) := by
  induction ps generalizing k with
  | nil => rfl
  | cons q ps ih =>
    cases k with
    | zero => simp [List.filterMap_cons, h q rfl]
    | succ k => simp [List.filterMap_cons, ih k h]

theorem sameSpacePeers_heard (f : Frame) (s : State) : sameSpacePeers (heard f s) = sameSpacePeers s := by
  refine filterMap_set_sameSpaceFields s.cfg.spaceGroup s.line.peers _ _ fun q hq => ?_
  have entry : peerOf f.src.toNat s = q := by
    rw [Option.mem_def] at hq
    simp [peerOf, List.getD_eq_getElem?_getD, hq]
  rw [entry]
  rfl

theorem sameReadings_heard (f : Frame) (s : State) : SameReadings s (heard f s) where
  cfg := rfl
  latches := rfl
  aborts := rfl
  isolated := rfl
  peers := sameSpacePeers_heard f s

/-! ### The evaluation of a station in NORMAL or ALERT, and of an unarmed one (R24, R26, R27) -/

section
variable {u : State}

theorem evaluateFire_fire_of_calm (h : u.fire.state = .normal ∨ u.fire.state = .alert) :
    (evaluateFire u).fire =
      if confirmationCondition u = true then (confirmationEntry u).fire
      else if u.fire.state = .normal ∧ alertCondition u = true then { u.fire with state := .alert, countdown := none }
      else u.fire := by
  rcases h with h | h
  · rw [evaluateFire_of_normal h]
    simp only [h, true_and]
    split
    · rfl
    · split <;> rfl
  · rw [evaluateFire_of_alert h, if_neg (show ¬ (u.fire.state = .normal ∧ _) by simp [h])]
    split <;> rfl

/-- A confirmation entry ends in the state that an evaluation in NORMAL of a confirmed space ends in. -/
theorem confirmationEntry_state (h : confirmationCondition u = true) :
    (confirmationEntry u).fire.state = evaluatedFromNormal u := by
  rw [confirmationEntry_fire, evaluatedFromNormal, if_pos h]
  cases armed u <;> cases abortActive u <;> rfl

theorem evaluateFire_state_of_alert (h : u.fire.state = .alert) :
    (evaluateFire u).fire.state = if confirmationCondition u = true then evaluatedFromNormal u else .alert := by
  rw [evaluateFire_of_alert h]
  split
  case isTrue hc => exact confirmationEntry_state hc
  case isFalse => exact h

/-- What an evaluation in NORMAL or ALERT makes of the countdown, the manual flag and the release pulse. -/
theorem evaluateFire_of_calm_outcome (h : u.fire.state = .normal ∨ u.fire.state = .alert) :
    ((evaluateFire u).fire.state = .preDischarge → (evaluateFire u).fire.manual = false ∧
      (evaluateFire u).fire.countdown = some ((lowestCountdown u).getD u.cfg.preDischargeDelay)) ∧
    ((evaluateFire u).fire.state = .confirmed ∨ (evaluateFire u).fire.state = .held →
      (evaluateFire u).fire.manual = false) ∧
    ((evaluateFire u).fire.state = u.fire.state → (evaluateFire u).fire.manual = u.fire.manual ∧
      (evaluateFire u).fire.countdown = u.fire.countdown) ∧
    (evaluateFire u).fire.releasePulse = u.fire.releasePulse := by
  rw [evaluateFire_fire_of_calm h]
  split
  · rw [confirmationEntry_fire]
    split
    · rcases h with h | h <;> simp [h]
    · split <;> rcases h with h | h <;> simp [h]
  · split
    case isTrue hn => simp [hn.1]
    case isFalse => rcases h with h | h <;> simp [h]

/-- At an unarmed station the evaluation enters no countdown and no abort (R27, R28). -/
theorem evaluateFire_fire_of_unarmed (ha : armed u = false) (hp : u.fire.state ≠ .preDischarge)
    (hh : u.fire.state ≠ .held) :
    (evaluateFire u).fire =
      if (u.fire.state = .normal ∨ u.fire.state = .alert) ∧ confirmationCondition u = true then
        { u.fire with state := .confirmed, countdown := none, manual := false }
      else if u.fire.state = .normal ∧ alertCondition u = true then { u.fire with state := .alert, countdown := none }
      else u.fire := by
  by_cases calm : u.fire.state = .normal ∨ u.fire.state = .alert
  · rw [evaluateFire_fire_of_calm calm, confirmationEntry_fire, if_pos ha]
    simp only [calm, true_and]
  · obtain ⟨normal, alert⟩ := not_or.1 calm
    rw [if_neg (fun k => calm k.1), if_neg (fun k => normal k.1)]
    by_cases confirmed : u.fire.state = .confirmed
    · rw [evaluateFire_of_confirmed confirmed, if_neg (by simp [ha]), if_neg (by simp [ha])]
    · rw [evaluateFire_of_resting]
      cases hs : u.fire.state <;> simp_all

end

end Sys2Proof.Machine
end

section
/-! ## ISOLATE_ON and ISOLATE_OFF (O31) -/

namespace Sys2Proof.Machine

variable (s : State)

/-! ### Isolation written (R35) -/

theorem setIsolation_fire (b : Bool) : (setIsolation b s).fire = { s.fire with isolated := b } := by
  rw [setIsolation, setTrouble_frame]

theorem beyondEvent_setIsolation (b : Bool) :
    beyondEvent (setIsolation b s) = beyondEvent { s with fire := { s.fire with isolated := b } } := by
  rw [setIsolation, beyondEvent_setTrouble]

theorem troubleActive_setIsolation (x : Trouble) (b : Bool) :
    troubleActive x (setIsolation b s) = if x = .releaseIsolated then b else troubleActive x s :=
  troubleActive_setTrouble ..

/-- With isolation written, the conditions that do not ask whether the station is armed are read as before. -/
theorem sameReadings_setIsolation (b : Bool) :
    SameReadings { s with fire := { s.fire with isolated := b } } (setIsolation b s) :=
  have beyond := beyondEvent_setIsolation s b
  { cfg := cfg_of_beyondEvent beyond
    latches := by rw [setIsolation_fire]
    aborts := by rw [setIsolation_fire]
    isolated := by rw [setIsolation_fire]
    peers := sameSpacePeers_congr (cfg_of_beyondEvent beyond) (peers_of_beyondEvent beyond) }

theorem troubleActive_of_out {s t : State} (h : t.out = s.out) (x : Trouble) : troubleActive x t = troubleActive x s := by
  rw [troubleActive, troubleActive, h]

/-! ### ISOLATE_ON -/

/-- The station just isolated, before the evaluation. -/
def isolatedState (s : State) : State := isolateState (setIsolation true s)

theorem isolatedState_fire :
    (isolatedState s).fire =
      if s.fire.state = .preDischarge ∨ s.fire.state = .held then
        { s.fire with isolated := true, state := .confirmed, countdown := none, manual := false }
      else { s.fire with isolated := true,
                         releasePulse := if s.fire.state = .discharged then none else s.fire.releasePulse } := by
  have fire := setIsolation_fire s true
  have state : (setIsolation true s).fire.state = s.fire.state := by rw [fire]
  unfold isolatedState isolateState
  rw [state]
  cases hs : s.fire.state <;> simp [fire, hs]

theorem setIsolation_frame (b : Bool) :
    setIsolation b s = { s with fire := { s.fire with isolated := b }, line := (setIsolation b s).line,
                                out := (setIsolation b s).out } := by
  rw [setIsolation]
  exact setTrouble_frame ..

/-- The blocks that ISOLATE_ON does not reach before the evaluation, and the troubles. -/
theorem isolatedState_rest :
    (isolatedState s).out = (setIsolation true s).out ∧ (isolatedState s).sup = s.sup ∧
      (isolatedState s).custody = s.custody ∧ (isolatedState s).reader = s.reader ∧
      (isolatedState s).consignments = s.consignments ∧ (isolatedState s).cfg = s.cfg := by
  have frame := setIsolation_frame s true
  unfold isolatedState isolateState
  split <;> exact ⟨rfl, congrArg (·.sup) frame, congrArg (·.custody) frame, congrArg (·.reader) frame,
    congrArg (·.consignments) frame, congrArg (·.cfg) frame⟩

theorem armed_isolatedState : armed (isolatedState s) = false := by
  have isolated : (isolatedState s).fire.isolated = true := by rw [isolatedState_fire]; split <;> rfl
  simp [armed, isolated]

/-- What an accepted ISOLATE_ON leaves of the fire record: that of an unarmed station's evaluation. -/
theorem evaluateFire_isolatedState :
    (evaluateFire (isolatedState s)).fire =
      if ((isolatedState s).fire.state = .normal ∨ (isolatedState s).fire.state = .alert) ∧
          confirmationCondition (isolatedState s) = true then
        { (isolatedState s).fire with state := .confirmed, countdown := none, manual := false }
      else if (isolatedState s).fire.state = .normal ∧ alertCondition (isolatedState s) = true then
        { (isolatedState s).fire with state := .alert, countdown := none }
      else (isolatedState s).fire := by
  have fire := isolatedState_fire s
  refine evaluateFire_fire_of_unarmed (armed_isolatedState s) ?_ ?_
  all_goals
    rw [fire]
    split
    case isTrue => simp
    case isFalse h => simp_all

variable {s} {f : Frame}

theorem exec_isolateOn_accepted (h : AcceptedCommand codeIsolateOn f s) (hi : s.fire.isolated = false) :
    exec (.isolateOn f) s =
      .next (queueAlarmIfChanged s (settleFire s.fire (evaluateFire (isolatedState (heard f s))))) := by
  refine (runCommand_accepted s codeIsolateOn f _ h).trans (congrArg (Host.Outcome.next <| queueAlarmIfChanged s ·) ?_)
  exact if_neg (show ¬ s.fire.isolated = true by simp [hi])

theorem exec_isolateOff_accepted (h : AcceptedCommand codeIsolateOff f s) (hi : s.fire.isolated = true) :
    exec (.isolateOff f) s =
      .next (queueAlarmIfChanged s (settleFire s.fire (evaluateFire (setIsolation false (heard f s))))) := by
  refine (runCommand_accepted s codeIsolateOff f _ h).trans (congrArg (Host.Outcome.next <| queueAlarmIfChanged s ·) ?_)
  exact if_pos (show s.fire.isolated = true from hi)

/-- A command that finds nothing to do leaves what has been heard. -/
theorem runCommand_idle (code : Byte) (act : List Byte → State → State) (h : AcceptedCommand code f s)
    (idle : act f.payload (heard f s) = heard f s) :
    runEvent (receiveCommand code f act) s = .next (heard f s) := by
  have quiet : queueAlarmIfChanged s (heard f s) = heard f s := queueAlarmIfChanged_of_fire_eq rfl rfl
  rw [runCommand_accepted s code f act h, idle, quiet]

/-- The fire state after an ISOLATE_ON, and that no countdown stands. -/
theorem isolateOn_state (hp : CountdownPlaced s) :
    (evaluateFire (isolatedState s)).fire.countdown = none ∧
      (evaluateFire (isolatedState s)).fire.state =
        (if s.fire.state = .preDischarge ∨ s.fire.state = .held then .confirmed
         else if s.fire.state = .normal then evaluatedFromNormal (isolatedState s)
         else if s.fire.state = .alert ∧ confirmationCondition (isolatedState s) = true then .confirmed
         else s.fire.state) := by
  have fire := isolatedState_fire s
  have outcome := evaluateFire_isolatedState s
  by_cases left : s.fire.state = .preDischarge ∨ s.fire.state = .held
  · rw [if_pos left] at fire
    rw [fire, if_neg (by simp), if_neg (by simp)] at outcome
    rw [outcome, if_pos left]
    exact ⟨rfl, rfl⟩
  rw [if_neg left] at fire
  have none : s.fire.countdown = none := by
    have := mt hp.1 fun e => left (.inl e)
    simpa using this
  have state : (isolatedState s).fire.state = s.fire.state := by rw [fire]
  rw [if_neg left]
  constructor
  · rw [outcome]
    split
    · rfl
    · split
      · rfl
      · rw [fire]
        exact none
  · by_cases normal : s.fire.state = .normal
    · rw [if_pos normal]
      exact evaluateFire_state_of_normal _ (state.trans normal)
    · rw [if_neg normal, outcome, state]
      simp only [normal, false_or, false_and, if_false]
      split
      · rfl
      · exact state

/-- The release pulse and the manual flag after an ISOLATE_ON (R35). -/
theorem isolateOn_pulse_manual (s : State) :
    (evaluateFire (isolatedState s)).fire.releasePulse =
        (if s.fire.state = .discharged then none else s.fire.releasePulse) ∧
      (s.fire.state = .preDischarge ∨ s.fire.state = .held → (evaluateFire (isolatedState s)).fire.manual = false) := by
  have fire := isolatedState_fire s
  have outcome := evaluateFire_isolatedState s
  have pulse : (evaluateFire (isolatedState s)).fire.releasePulse = (isolatedState s).fire.releasePulse := by
    rw [outcome]
    split
    · rfl
    · split <;> rfl
  refine ⟨?_, fun left => ?_⟩
  · rw [pulse, fire]
    split
    case isTrue left => rcases left with h | h <;> simp [h]
    case isFalse => rfl
  · rw [if_pos left] at fire
    rw [fire, if_neg (by simp), if_neg (by simp)] at outcome
    rw [outcome]

/-- The latches and the own aborts of a station just isolated. -/
theorem isolatedState_kept (s : State) :
    (isolatedState s).fire.latches = s.fire.latches ∧ (isolatedState s).fire.ownAbort = s.fire.ownAbort ∧
      (isolatedState s).fire.isolated = true := by
  rw [isolatedState_fire]
  split <;> exact ⟨rfl, rfl, rfl⟩

/-- ISOLATE_ON (R35). -/
theorem isolateOn_accepted (h : AcceptedCommand codeIsolateOn f s) (hi : s.fire.isolated = false)
    (hp : CountdownPlaced s) : ∃ t, exec (.isolateOn f) s = .next t ∧
      t.fire.isolated = true ∧ troubleActive .releaseIsolated t = true ∧ armed t = false ∧
      t.fire.countdown = none ∧
      t.fire.state =
        (if s.fire.state = .preDischarge ∨ s.fire.state = .held then .confirmed
         else if s.fire.state = .normal then evaluatedFromNormal t
         else if s.fire.state = .alert ∧ confirmationCondition t = true then .confirmed
         else s.fire.state) ∧
      (s.fire.state = .preDischarge ∨ s.fire.state = .held → t.fire.manual = false) ∧
      t.fire.releasePulse = (if s.fire.state = .discharged then none else s.fire.releasePulse) ∧
      t.fire.latches = s.fire.latches ∧ t.fire.ownAbort = s.fire.ownAbort ∧ t.sup = s.sup ∧ t.reader = s.reader ∧
      t.consignments = s.consignments ∧ t.cfg = s.cfg ∧
      (∀ x ∈ allTroubles, x ≠ .releaseIsolated → troubleActive x t = troubleActive x s) ∧
      t.custody = custodyMoved s.fire.state t.fire.state s.custody := by
  refine ⟨_, exec_isolateOn_accepted h hi, ?_⟩
  obtain ⟨out', sup', custody', reader, consignments, cfg⟩ := isolatedState_rest (heard f s)
  have ends := ends_event s (evaluateFire (isolatedState (heard f s))) s.fire
  obtain ⟨readings, latches, aborts, isolated, out, sup, beyond⟩ := ends.after_evaluation
  obtain ⟨countdown, state⟩ := isolateOn_state (s := heard f s) hp
  obtain ⟨pulse, manual⟩ := isolateOn_pulse_manual (heard f s)
  obtain ⟨latches', aborts', isolated'⟩ := isolatedState_kept (heard f s)
  have troubles (x : Trouble) : troubleActive x (isolatedState (heard f s)) =
      if x = .releaseIsolated then true else troubleActive x s :=
    (troubleActive_of_out out' x).trans (troubleActive_setIsolation ..)
  refine ⟨isolated.trans isolated', ?_, readings.armed.trans (armed_isolatedState _), ends.countdown.trans countdown,
    ?_, fun left => ends.manual.trans (manual left), ends.pulse.trans pulse, latches.trans latches',
    aborts.trans aborts', sup.trans sup', (reader_of_beyondEvent beyond).trans reader,
    (consignments_of_beyondEvent beyond).trans consignments, (cfg_of_beyondEvent beyond).trans cfg,
    fun x _ hx => ?_, ?_⟩
  · rw [troubleActive_of_out out, troubles, if_pos rfl]
  · rw [readings.evaluatedFromNormal, readings.confirmationCondition]
    exact ends.state.trans state
  · rw [troubleActive_of_out out, troubles, if_neg hx]
  · rw [custody_event _ _ _ _ rfl, custody']
    rfl

/-! ### ISOLATE_OFF -/

/-- The station with isolation cleared (R35). -/
def armedAgain (s : State) : State := { s with fire := { s.fire with isolated := false } }

theorem armed_armedAgain (s : State) : armed (armedAgain s) = s.cfg.releaseEnabled := by simp [armed, armedAgain]

theorem setIsolation_heard_fire (f : Frame) (s : State) :
    (setIsolation false (heard f s)).fire = { s.fire with isolated := false } := setIsolation_fire ..

/-- Arming is the one reading that ISOLATE_OFF changes. -/
theorem sameReadings_isolateOff (f : Frame) (s : State) :
    SameReadings (armedAgain s) (setIsolation false (heard f s)) :=
  (sameReadings_heard f (armedAgain s)).trans (sameReadings_setIsolation (heard f s) false)

/-- What ISOLATE_OFF makes of a CONFIRMED station with release enabled (R27, R28). -/
theorem isolateOff_of_confirmed (hs : s.fire.state = .confirmed) (he : s.cfg.releaseEnabled = true) :
    (evaluateFire (setIsolation false (heard f s))).fire =
      if manualLatched s = true then
        (if s.cfg.manualDelay = 0 then
          { s.fire with isolated := false, state := .discharged, countdown := none, manual := true,
                        releasePulse := some s.cfg.releasePulse }
         else { s.fire with isolated := false, state := .preDischarge, countdown := some s.cfg.manualDelay,
                            manual := true })
      else if confirmationCondition s = true then
        (if abortActive s = true then { s.fire with isolated := false, state := .held, countdown := none, manual := false }
         else { s.fire with isolated := false, state := .preDischarge, manual := false,
                            countdown := some ((lowestCountdown s).getD s.cfg.preDischargeDelay) })
      else { s.fire with isolated := false } := by
  have readings := sameReadings_isolateOff f s
  have fire := setIsolation_heard_fire f s
  have manual : manualLatched (setIsolation false (heard f s)) = manualLatched s := readings.manualLatched
  have confirms : confirmationCondition (setIsolation false (heard f s)) = confirmationCondition s :=
    readings.confirmationCondition
  have abort : abortActive (setIsolation false (heard f s)) = abortActive s := readings.abortActive
  have lowest : lowestCountdown (setIsolation false (heard f s)) = lowestCountdown s := readings.lowestCountdown
  have arms : armed (setIsolation false (heard f s)) = true := readings.armed.trans ((armed_armedAgain s).trans he)
  have cfg : (setIsolation false (heard f s)).cfg = s.cfg := readings.cfg
  generalize setIsolation false (heard f s) = u at *
  rw [evaluateFire_of_confirmed (by rw [fire]; exact hs), manual, confirms, arms]
  simp only [true_and]
  split
  · rw [manualEntry_fire, cfg, fire, arms, if_pos rfl]
  · split
    · rw [confirmationEntry_fire, cfg, fire, arms, abort, lowest, if_neg (by simp)]
    · exact fire

/-- What an ISOLATE_OFF that clears isolation leaves beside the evaluation's outcome (R35). -/
theorem isolateOff_outcome (t : State)
    (ht : t = queueAlarmIfChanged s (settleFire s.fire (evaluateFire (setIsolation false (heard f s))))) :
    SameReadings (armedAgain s) t ∧ Ends (evaluateFire (setIsolation false (heard f s))) t ∧
      troubleActive .releaseIsolated t = false ∧ t.fire.latches = s.fire.latches ∧
      t.fire.ownAbort = s.fire.ownAbort ∧ t.fire.isolated = false ∧ t.sup = s.sup ∧ t.reader = s.reader ∧
      t.consignments = s.consignments ∧ t.cfg = s.cfg ∧
      t.custody = custodyMoved s.fire.state t.fire.state s.custody := by
  have ends := ends_event s (evaluateFire (setIsolation false (heard f s))) s.fire
  rw [← ht] at ends
  obtain ⟨readings, latches, aborts, isolated, out, sup, beyond⟩ := ends.after_evaluation
  have frame := setIsolation_frame (heard f s) false
  have fire := setIsolation_heard_fire f s
  refine ⟨(sameReadings_isolateOff f s).trans readings, ends, ?_, ?_, ?_, ?_, ?_, ?_, ?_, ?_, ?_⟩
  · rw [troubleActive_of_out out, troubleActive_setIsolation, if_pos rfl]
  · rw [latches, fire]
  · rw [aborts, fire]
  · rw [isolated, fire]
  · rw [sup, frame]; rfl
  · rw [reader_of_beyondEvent beyond, frame]; rfl
  · rw [consignments_of_beyondEvent beyond, frame]; rfl
  · rw [cfg_of_beyondEvent beyond, frame]; rfl
  · rw [custody_event _ _ _ _ ht, frame]; rfl

/-- Settles O31: both commands are an evaluation at the station with isolation just written. -/
theorem isolationDisarmsAndItsEndArmsAgain : Obligations.IsolationDisarmsAndItsEndArmsAgain := by
  unfold Obligations.IsolationDisarmsAndItsEndArmsAgain
  refine ⟨fun s f h hi hp => isolateOn_accepted h hi hp, fun s f h hi => ?_, fun s f h hi => ?_, fun s f h hi => ?_⟩
  · exact runCommand_idle codeIsolateOn (fun _ => isolateOn) h (if_pos hi)
  · refine ⟨_, exec_isolateOff_accepted h hi, ?_⟩
    generalize ht : queueAlarmIfChanged s (settleFire s.fire (evaluateFire (setIsolation false (heard f s)))) = t
    obtain ⟨readings, ends, trouble, latches, aborts, isolated, sup, reader, consignments, cfg, custody⟩ :=
      isolateOff_outcome t ht.symm
    have fire := setIsolation_heard_fire f s
    have before := sameReadings_isolateOff f s
    have state : (setIsolation false (heard f s)).fire.state = s.fire.state := by rw [fire]
    have evaluated : evaluatedFromNormal (setIsolation false (heard f s)) = evaluatedFromNormal t :=
      before.evaluatedFromNormal.trans readings.evaluatedFromNormal.symm
    have confirms : confirmationCondition (setIsolation false (heard f s)) = confirmationCondition t :=
      before.confirmationCondition.trans readings.confirmationCondition.symm
    have resting (hr : s.fire.state = .stabilizing ∨ s.fire.state = .discharged ∨ s.fire.state = .test) :
        (evaluateFire (setIsolation false (heard f s))).fire = { s.fire with isolated := false } := by
      rw [evaluateFire_of_resting (by rw [state]; exact hr), fire]
    refine ⟨isolated, trouble, readings.armed.trans (armed_armedAgain s), fun hs he => ?confirmed, fun hs he => ?unarmed,
      fun hs => ?normal, fun hs => ?alert, fun hs => ?calm, fun hs => ?resting, fun hs => ?discharged, latches, aborts,
      sup, reader, consignments, cfg, custody⟩
    case confirmed =>
      rw [ends.state, ends.manual, ends.countdown, ends.pulse, isolateOff_of_confirmed hs he]
      repeat' split
      all_goals simp [hs]
    case unarmed =>
      have unarmed : armed (setIsolation false (heard f s)) = false :=
        before.armed.trans ((armed_armedAgain s).trans he)
      rw [ends.state, ends.manual, ends.countdown, ends.pulse, evaluateFire_of_confirmed (state.trans hs),
        if_neg (by simp [unarmed]), if_neg (by simp [unarmed]), fire]
      exact ⟨hs, rfl, rfl, rfl⟩
    case normal => rw [ends.state, evaluateFire_state_of_normal _ (state.trans hs), evaluated]
    case alert => rw [ends.state, evaluateFire_state_of_alert (state.trans hs), evaluated, confirms]
    case calm =>
      have outcome := evaluateFire_of_calm_outcome (u := setIsolation false (heard f s)) (by rwa [state])
      have lowest : lowestCountdown (setIsolation false (heard f s)) = lowestCountdown s := before.lowestCountdown
      rw [ends.state, ends.manual, ends.countdown, ends.pulse]
      rwa [lowest, fire, before.cfg] at outcome
    case resting =>
      rw [ends.state, ends.manual, ends.countdown, ends.pulse, resting (hs.imp id .inr)]
      exact ⟨rfl, rfl, rfl, rfl⟩
    case discharged =>
      rw [ends.state, ends.pulse, resting (.inr (.inl hs))]
      exact ⟨hs, rfl⟩
  · exact runCommand_idle codeIsolateOff (fun _ => isolateOff) h (if_neg (by simp [heard, hi]))

end Sys2Proof.Machine
end

section
/-! ## A peer update at the fire controller (R22) -/

namespace Sys2Proof.Machine

/-! ### The event of a peer update -/

/-- The state with a frame heard and its source's entry written, in which the fire controller begins. -/
def updated (f : Frame) (after : Peer) (s : State) : State := setPeer f.src.toNat after (heard f s)

/-- What a peer update makes of the fire controller's state before the event ends (R22). -/
def peerEffect (before after : Peer) (s : State) : State :=
  match sameSpaceFields s.cfg.spaceGroup after with
  | some now =>
    if s.fire.state = .test then
      (if now.fire = FireState.preDischarge.code ∨ now.fire = FireState.discharged.code then endTest s else s)
    else evaluateFire (samePeerUpdate before.fire now s)
  | none => evaluateFire s

/-- The state after the event of a peer update. -/
def afterUpdate (f : Frame) (k : UpdateKind) (after : Peer) (s : State) : State :=
  queueAlarmIfChanged s (peerUpdate f.src.toNat k after (heard f s))

/-- The entry of the source once the frame is heard. -/
def heardEntry (f : Frame) (s : State) : Peer := peerOf f.src.toNat (heard f s)

section
variable {s : State} {f : Frame}

theorem exec_stateFrame_accepted (h : Accepted kindState f s) :
    exec (.stateFrame f) s = .next (afterUpdate f .state ((heardEntry f s).afterState f.payload) s) := by
  refine (runEvent_running _ s h.1).trans ?_
  rw [receive_accepted kindState f _ s h]
  rfl

theorem exec_alarmFrame_accepted (h : Accepted kindAlarm f s) :
    exec (.alarmFrame f) s = .next (afterUpdate f .alarm ((heardEntry f s).afterAlarm f.payload) s) := by
  refine (runEvent_running _ s h.1).trans ?_
  rw [receive_accepted kindAlarm f _ s h]
  rfl

end

/-- Hearing a frame marks the entry and writes nothing else of it. -/
theorem heardEntry_fields (f : Frame) (s : State) :
    (heardEntry f s).fire = (peerOf f.src.toNat s).fire ∧ (heardEntry f s).awaiting = (peerOf f.src.toNat s).awaiting ∧
      (heardEntry f s).fresh = (peerOf f.src.toNat s).fresh ∧ (heardEntry f s).state = (peerOf f.src.toNat s).state := by
  unfold heardEntry peerOf heard
  simp only [List.getD_eq_getElem?_getD]
  by_cases h : f.src.toNat - 1 < s.line.peers.length
  · rw [List.getElem?_set_self h]
    simp [peerOf, List.getD_eq_getElem?_getD, Peer.markHeard]
  · rw [List.set_eq_of_length_le (by omega)]
    exact ⟨rfl, rfl, rfl, rfl⟩

/-! ### What the event keeps of its effect -/

/-- A re-offer check writes the custody list alone (R139). -/
theorem reofferChecks_frame (n : Nat) (k : UpdateKind) (p : Peer) (s : State) :
    reofferChecks n k p s = { s with custody := (reofferChecks n k p s).custody } := rfl

theorem beyondEvent_reofferChecks (n : Nat) (k : UpdateKind) (p : Peer) (s : State) :
    beyondEvent (reofferChecks n k p s) = beyondEvent s := rfl

section
variable (f : Frame) (k : UpdateKind) (after : Peer) (s : State)

theorem afterUpdate_eq :
    afterUpdate f k after s =
      queueAlarmIfChanged s (reofferChecks f.src.toNat k after (evaluateGrant
        (settleFire s.fire (peerEffect (heardEntry f s) after (updated f after s))))) := rfl

theorem sameReadings_reofferChecks (n : Nat) (p : Peer) : SameReadings s (reofferChecks n k p s) :=
  ⟨rfl, rfl, rfl, rfl, rfl⟩

theorem fire_afterUpdate :
    (afterUpdate f k after s).fire =
      (settleFire s.fire (peerEffect (heardEntry f s) after (updated f after s))).fire := by
  rw [afterUpdate_eq, queueAlarmIfChanged_fire, reofferChecks_frame]
  exact evaluateGrant_fire _

theorem sup_afterUpdate :
    (afterUpdate f k after s).sup =
      (settleFire s.fire (peerEffect (heardEntry f s) after (updated f after s))).sup := by
  rw [afterUpdate_eq, queueAlarmIfChanged_sup, reofferChecks_frame, evaluateGrant_frame]

theorem readings_afterUpdate :
    SameReadings (settleFire s.fire (peerEffect (heardEntry f s) after (updated f after s))) (afterUpdate f k after s) :=
  ((sameReadings_evaluateGrant _).trans (sameReadings_reofferChecks k _ f.src.toNat after)).trans
    (sameReadings_queueAlarmIfChanged s _)

/-- What the event of a peer update keeps of the fire controller's effect. -/
theorem ends_afterUpdate :
    Ends (peerEffect (heardEntry f s) after (updated f after s)) (afterUpdate f k after s) where
  toEndsFire := endsFire_of_fire (fire_afterUpdate f k after s) (readings_afterUpdate f k after s)
  out := by
    rw [afterUpdate_eq, queueAlarmIfChanged_out, reofferChecks_frame, evaluateGrant_frame]
    exact settleFire_out _ _
  sup := by rw [sup_afterUpdate, settleFire_sup]
  beyond := by
    rw [afterUpdate_eq, beyondEvent_queueAlarmIfChanged, beyondEvent_reofferChecks,
      beyondEvent_of_beyondSettling (beyondSettling_evaluateGrant _), beyondEvent_settleFire]

end

/-! ### Adoption (R30) -/

theorem adopt_fire (p : PeerFire) (s : State) :
    (adopt p s).fire =
      { s.fire with
        countdown :=
          if s.fire.state = .preDischarge ∧ p.fire = FireState.preDischarge.code then
            s.fire.countdown.map (fun r => min r (peerCountdown p))
          else s.fire.countdown } := by
  unfold adopt
  split
  case h_1 r hr =>
    by_cases hp : s.fire.state = .preDischarge ∧ p.fire = FireState.preDischarge.code
    · rw [if_pos hp, hr, Option.map_some]
      split
      case isTrue h => rw [min_eq_right (by omega)]; rfl
      case isFalse h =>
        have low : r ≤ peerCountdown p := not_lt.1 fun k => h ⟨hp.1, hp.2, k⟩
        rw [min_eq_left low, ← hr]
    · rw [if_neg hp, if_neg fun h => hp ⟨h.1, h.2.1⟩]
  case h_2 hr => rw [hr, Option.map_none, ite_self, ← hr]

theorem beyondMove_adopt (p : PeerFire) (s : State) : beyondMove (adopt p s) = beyondMove s := by
  unfold adopt
  split
  · split <;> rfl
  · rfl

/-! ### The outcome of the evaluation that a peer update starts (R24, R27, R28, R31, R32) -/

/-- What the evaluation makes of the fire record of `s`, by the conditions read in `t` after it; in PRE_DISCHARGE it begins
with the countdown `c`. -/
def UpdateOutcome (s t : State) (c : Option Nat) : Prop :=
  (s.fire.state = .normal → t.fire.state = evaluatedFromNormal t) ∧
  (s.fire.state = .alert → t.fire.state = if confirmationCondition t = true then evaluatedFromNormal t else .alert) ∧
  (s.fire.state = .normal ∨ s.fire.state = .alert →
    (t.fire.state = .preDischarge → t.fire.manual = false ∧ t.fire.countdown =
      some ((lowestCountdown t).getD s.cfg.preDischargeDelay)) ∧
    (t.fire.state = .confirmed ∨ t.fire.state = .held → t.fire.manual = false) ∧
    (t.fire.state = .normal ∨ t.fire.state = .alert → t.fire.manual = s.fire.manual) ∧
    (t.fire.state ≠ .preDischarge → t.fire.countdown = if t.fire.state = s.fire.state then s.fire.countdown else
      none) ∧
    t.fire.releasePulse = s.fire.releasePulse) ∧
  (s.fire.state = .confirmed →
    if armed s = true ∧ manualLatched s = true then
      t.fire.manual = true ∧
      (if s.cfg.manualDelay = 0 then t.fire.state = .discharged ∧ t.fire.releasePulse = some s.cfg.releasePulse
       else t.fire.state = .preDischarge ∧ t.fire.countdown = some s.cfg.manualDelay ∧
         t.fire.releasePulse = s.fire.releasePulse)
    else if armed s = true ∧ confirmationCondition t = true then
      t.fire.manual = false ∧ t.fire.releasePulse = s.fire.releasePulse ∧
      (if abortActive t = true then t.fire.state = .held ∧ t.fire.countdown = none
       else t.fire.state = .preDischarge ∧ t.fire.countdown =
         some ((lowestCountdown t).getD s.cfg.preDischargeDelay))
    else t.fire.state = .confirmed ∧ t.fire.manual = s.fire.manual ∧ t.fire.countdown = s.fire.countdown ∧
      t.fire.releasePulse = s.fire.releasePulse) ∧
  (s.fire.state = .preDischarge → t.fire.manual = s.fire.manual ∧ t.fire.releasePulse = s.fire.releasePulse ∧
    (if abortActive t = true ∧ s.fire.manual = false then t.fire.state = .held ∧ t.fire.countdown = none
     else t.fire.state = .preDischarge ∧ t.fire.countdown = c)) ∧
  (s.fire.state = .held → t.fire.releasePulse = s.fire.releasePulse ∧
    (if abortActive t = true then t.fire.state = .held ∧ t.fire.manual = s.fire.manual ∧ t.fire.countdown =
      s.fire.countdown
     else t.fire.state = .preDischarge ∧ t.fire.manual = false ∧ t.fire.countdown = some s.cfg.abortRestart)) ∧
  (s.fire.state = .stabilizing ∨ s.fire.state = .discharged → t.fire.state = s.fire.state ∧ t.fire.manual =
    s.fire.manual ∧ t.fire.countdown = s.fire.countdown ∧ t.fire.releasePulse = s.fire.releasePulse) ∧
  t.fire.latches = s.fire.latches ∧ t.fire.ownAbort = s.fire.ownAbort

section
variable {s x t : State} {c : Option Nat}

/-- The evaluation of `x`, which is `s` with another peer table and, in PRE_DISCHARGE, another countdown. -/
theorem updateOutcome_of_evaluation (cfg : x.cfg = s.cfg) (fire : x.fire = { s.fire with countdown := c })
    (kept : s.fire.state ≠ .preDischarge → c = s.fire.countdown) (ends : EndsFire (evaluateFire x) t) :
    UpdateOutcome s t c := by
  have readings := (SameReadings.of_beyondMove (beyondMove_evaluateFire x)).trans ends.readings
  have latches := ends.latches.trans (evaluateFire_latches x)
  have aborts := ends.aborts.trans (evaluateFire_ownAbort x)
  have state : x.fire.state = s.fire.state := by rw [fire]
  have manual : x.fire.manual = s.fire.manual := by rw [fire]
  have pulse : x.fire.releasePulse = s.fire.releasePulse := by rw [fire]
  have countdown (h : s.fire.state ≠ .preDischarge) : x.fire.countdown = s.fire.countdown := by rw [fire]; exact kept h
  have arms : armed x = armed s := by rw [armed, armed, cfg, fire]
  have latched : manualLatched x = manualLatched s := by
    simp only [manualLatched, inputType, latchOf, cfg, fire]
  unfold UpdateOutcome
  rw [readings.evaluatedFromNormal, readings.confirmationCondition, readings.abortActive, readings.lowestCountdown,
    ends.state, ends.manual, ends.countdown, ends.pulse, latches, aborts]
  refine ⟨fun hs => ?normal, fun hs => ?alert, fun hs => ?calm, fun hs => ?confirmed, fun hs => ?pre, fun hs => ?held,
    fun hs => ?resting, by rw [fire], by rw [fire]⟩
  case normal => exact evaluateFire_state_of_normal _ (state.trans hs)
  case alert => exact evaluateFire_state_of_alert (state.trans hs)
  case calm =>
    have calm : s.fire.state ≠ .preDischarge := by rintro e; simp [e] at hs
    have still := kept calm
    have outcome := evaluateFire_fire_of_calm (u := x) (by rwa [state])
    rw [confirmationEntry_fire, fire, still, cfg] at outcome
    generalize (evaluateFire x).fire = g at outcome ⊢
    repeat' split at outcome
    all_goals
      rw [outcome]
      rcases hs with hs | hs <;> simp_all
  case confirmed =>
    have still := countdown (by simp [hs])
    rw [evaluateFire_of_confirmed (state.trans hs), arms, latched]
    split
    case isTrue h => rw [manualEntry_fire, cfg, arms, h.1]; split <;> simp [pulse]
    case isFalse =>
      split
      case isTrue h => rw [confirmationEntry_fire, cfg, arms, h.1, if_neg (by simp)]; split <;> simp [pulse]
      case isFalse => exact ⟨state.trans hs, manual, still, pulse⟩
  case pre =>
    rw [evaluateFire_of_preDischarge (state.trans hs), manual]
    split
    case isTrue => exact ⟨manual, pulse, rfl, rfl⟩
    case isFalse => exact ⟨manual, pulse, state.trans hs, by rw [fire]⟩
  case held =>
    rw [evaluateFire_of_held (state.trans hs), cfg]
    split
    case isTrue => exact ⟨pulse, state.trans hs, manual, countdown (by simp [hs])⟩
    case isFalse => exact ⟨pulse, rfl, rfl, rfl⟩
  case resting =>
    rw [evaluateFire_of_resting (by rw [state]; exact hs.imp_right .inl)]
    exact ⟨state, manual, countdown (by rcases hs with hs | hs <;> simp [hs]), pulse⟩

theorem evaluatedFromNormal_ne_discharged (t : State) : evaluatedFromNormal t ≠ .discharged := by
  unfold evaluatedFromNormal
  repeat' split
  all_goals simp

/-- The evaluation enters DISCHARGED by the manual rule with a delay of 0 alone (R28). -/
theorem UpdateOutcome.discharged (h : UpdateOutcome s t c) (hs : s.fire.state ≠ .test)
    (ht : t.fire.state = .discharged) : s.fire.state = .discharged ∨
      (s.fire.state = .confirmed ∧ armed s = true ∧ manualLatched s = true ∧ s.cfg.manualDelay = 0) := by
  obtain ⟨normal, alert, -, confirmed, pre, held, resting, -⟩ := h
  have never := evaluatedFromNormal_ne_discharged t
  cases hstate : s.fire.state with
  | normal => exact absurd ((normal hstate).symm.trans ht) never
  | alert =>
    have := alert hstate
    rw [ht] at this
    split at this
    · exact absurd this.symm never
    · cases this
  | confirmed =>
    have := confirmed hstate
    split at this
    case isTrue h =>
      by_cases hd : s.cfg.manualDelay = 0
      · exact .inr ⟨rfl, h.1, h.2, hd⟩
      · rw [if_neg hd, ht] at this
        cases this.2.1
    case isFalse =>
      split at this
      · obtain ⟨-, -, outcome⟩ := this
        split at outcome <;> · rw [ht] at outcome; cases outcome.1
      · rw [ht] at this; cases this.1
  | preDischarge =>
    obtain ⟨-, -, outcome⟩ := pre hstate
    split at outcome <;> · rw [ht] at outcome; cases outcome.1
  | held =>
    obtain ⟨-, outcome⟩ := held hstate
    split at outcome <;> · rw [ht] at outcome; cases outcome.1
  | stabilizing => exact absurd ((resting (.inl hstate)).1.symm.trans ht) (by simp [hstate])
  | discharged => exact .inl rfl
  | test => exact absurd hstate hs

end

end Sys2Proof.Machine
end

section
/-! ## Peers of the same space: adoption, the DISCHARGED edge, the evaluation and the end of TEST (O33) -/

namespace Sys2Proof.Machine

/-! ### What a fresh entry shows (R22) -/

/-- A fresh entry that shows the fire fields `now`. -/
structure Shows (after : Peer) (now : PeerFire) : Prop where
  fresh : after.fresh = true
  fire : after.fire = some now

theorem shows_afterState (p : List Byte) (e : Peer) : Shows (e.afterState p) (stateFire p) := ⟨rfl, rfl⟩

theorem shows_afterAlarm (p : List Byte) {e : Peer} (h : e.awaiting = false) : Shows (e.afterAlarm p) (alarmFire p) := by
  have refreshed : e.afterAlarm p = { e with fresh := true, age := 0, fire := some (alarmFire p) } := if_neg (by simp [h])
  rw [refreshed]
  exact ⟨rfl, rfl⟩

/-- An ALARM from a peer that awaits a STATE leaves its entry stale (R170). -/
theorem sameSpaceFields_afterAlarm_awaiting (g : Nat) (p : List Byte) {e : Peer} (h : e.awaiting = true) :
    sameSpaceFields g (e.afterAlarm p) = none := by
  have stale : e.afterAlarm p = { e with fresh := false, age := 3, fire := some (alarmFire p) } := if_pos h
  rw [stale]
  simp [sameSpaceFields]

section
variable {after : Peer} {now : PeerFire} (shows : Shows after now)
include shows

theorem Shows.sameSpaceFields (g : Nat) : sameSpaceFields g after = if now.group = g then some now else none := by
  simp [Machine.sameSpaceFields, shows.fire, shows.fresh]

/-! ### The effect, by what the entry shows -/

variable (f : Frame) (s : State)

/-- The frame shows a DISCHARGED edge in the own space group, and the station follows it (R22, R33). -/
def FollowsEdge (f : Frame) (now : PeerFire) (s : State) : Prop :=
  now.group = s.cfg.spaceGroup ∧ now.fire = 6 ∧ (peerOf f.src.toNat s).fire.map (fun p => p.fire) ≠ some 6 ∧
    (s.fire.state = .alert ∨ s.fire.state = .confirmed ∨ s.fire.state = .preDischarge ∨ s.fire.state = .held)

omit shows in
theorem followsEdge_iff (h : now.group = s.cfg.spaceGroup) :
    FollowsEdge f now s ↔ (dischargedEdge (heardEntry f s).fire now && s.fire.state.followsEdge) = true := by
  have follows : s.fire.state.followsEdge = true ↔ (s.fire.state = .alert ∨ s.fire.state = .confirmed ∨
      s.fire.state = .preDischarge ∨ s.fire.state = .held) := by
    cases s.fire.state <;> simp [FireState.followsEdge]
  rw [FollowsEdge, dischargedEdge, (heardEntry_fields f s).1, ← follows]
  simp [h, FireState.code, and_assoc]

theorem peerEffect_eq :
    peerEffect (heardEntry f s) after (updated f after s) =
      if now.group = s.cfg.spaceGroup then
        (if s.fire.state = .test then
          (if now.fire = 4 ∨ now.fire = 6 then endTest (updated f after s) else updated f after s)
         else evaluateFire (samePeerUpdate (heardEntry f s).fire now (updated f after s)))
      else evaluateFire (updated f after s) := by
  have fields : sameSpaceFields (updated f after s).cfg.spaceGroup after =
      if now.group = s.cfg.spaceGroup then some now else none := shows.sameSpaceFields s.cfg.spaceGroup
  unfold peerEffect
  rw [fields]
  by_cases h : now.group = s.cfg.spaceGroup
  · rw [if_pos h, if_pos h]
    rfl
  · rw [if_neg h, if_neg h]

theorem peerEffect_of_edge (h : FollowsEdge f now s) :
    peerEffect (heardEntry f s) after (updated f after s) = enterDischarged (updated f after s) := by
  have edge := (followsEdge_iff f s h.1).1 h
  obtain ⟨same, -, -, raised⟩ := h
  have test : s.fire.state ≠ .test := by rintro e; simp [e] at raised
  have entered : samePeerUpdate (heardEntry f s).fire now (updated f after s) = enterDischarged (updated f after s) :=
    if_pos edge
  rw [peerEffect_eq shows, if_pos same, if_neg test, entered,
    evaluateFire_of_resting (.inr (.inl (enterDischarged_state _)))]

/-- The countdown with which the evaluation of a peer update begins (R30). -/
def adopted (now : PeerFire) (s : State) : Option Nat :=
  if now.group = s.cfg.spaceGroup ∧ now.fire = 4 then s.fire.countdown.map (fun r => min r (max 1 now.countdown))
  else s.fire.countdown

/-- Without a DISCHARGED edge that it follows, and outside TEST, the station evaluates with the frame in its peer table and,
in PRE_DISCHARGE, after adoption. -/
theorem peerEffect_of_evaluation (ht : s.fire.state ≠ .test) (hn : ¬ FollowsEdge f now s) :
    ∃ x c, peerEffect (heardEntry f s) after (updated f after s) = evaluateFire x ∧
      beyondMove x = beyondMove (updated f after s) ∧ x.fire = { s.fire with countdown := c } ∧
      (s.fire.state = .preDischarge → c = adopted now s) ∧ (s.fire.state ≠ .preDischarge → c = s.fire.countdown) := by
  rw [peerEffect_eq shows, adopted]
  by_cases same : now.group = s.cfg.spaceGroup
  · have adopts : samePeerUpdate (heardEntry f s).fire now (updated f after s) = adopt now (updated f after s) :=
      if_neg (mt (followsEdge_iff f s same).2 hn)
    rw [if_pos same, if_neg ht, adopts]
    refine ⟨_, _, rfl, beyondMove_adopt now _, adopt_fire now _, fun hs => ?_, fun hs => if_neg fun k => hs k.1⟩
    exact if_congr ⟨fun k => ⟨same, k.2⟩, fun k => ⟨hs, k.2⟩⟩ rfl rfl
  · rw [if_neg same]
    exact ⟨_, s.fire.countdown, rfl, rfl, rfl, fun _ => (if_neg fun k => same k.1).symm, fun _ => rfl⟩

/-! ### Outside TEST -/

variable (k : UpdateKind)

/-- After an evaluation that a peer update starts. -/
theorem updateOutcome_afterUpdate (ht : s.fire.state ≠ .test) (hn : ¬ FollowsEdge f now s) :
    UpdateOutcome s (afterUpdate f k after s) (adopted now s) := by
  obtain ⟨x, c, effect, beyond, fire, pre, other⟩ := peerEffect_of_evaluation shows f s ht hn
  have ends := ends_afterUpdate f k after s
  rw [effect] at ends
  have cfg : x.cfg = s.cfg := (cfg_of_beyondMove beyond).trans rfl
  have outcome := updateOutcome_of_evaluation cfg fire other ends.toEndsFire
  by_cases hs : s.fire.state = .preDischarge
  · rwa [pre hs] at outcome
  · obtain ⟨normal, alert, calm, confirmed, -, rest⟩ := outcome
    exact ⟨normal, alert, calm, confirmed, fun k => absurd k hs, rest⟩

/-- Adoption that leaves the reported values queues no ALARM (R43). -/
theorem alarmQueued_afterUpdate (ht : s.fire.state ≠ .test) (hn : ¬ FollowsEdge f now s)
    (hr : reportedFire (afterUpdate f k after s) = reportedFire s) :
    (afterUpdate f k after s).line.alarmQueued = s.line.alarmQueued := by
  obtain ⟨x, c, effect, beyond, -⟩ := peerEffect_of_evaluation shows f s ht hn
  rw [afterUpdate_eq, effect] at hr ⊢
  generalize hb : reofferChecks f.src.toNat k after (evaluateGrant (settleFire s.fire (evaluateFire x))) = b at hr ⊢
  have settled : beyondSettling b = beyondSettling (evaluateFire x) := by
    rw [← hb, ← beyondSettling_settleFire (evaluateFire x) s.fire, ← beyondSettling_evaluateGrant (settleFire _ _)]
    rfl
  have queued : b.line.alarmQueued = (evaluateFire x).line.alarmQueued :=
    congrArg (fun u => u.line.alarmQueued) settled
  have reported : reportedFire (queueAlarmIfChanged s b) = reportedFire b := by
    unfold queueAlarmIfChanged
    split <;> rfl
  have same : queueAlarmIfChanged s b = b := if_pos (reported.symm.trans hr)
  rw [same, queued, evaluateFire_line, line_of_beyondMove beyond]
  rfl

/-- Adoption in PRE_DISCHARGE (R30, R31). -/
theorem adoption (hs : s.fire.state = .preDischarge) (hsame : now.group = s.cfg.spaceGroup) (h4 : now.fire = 4) {r : Nat}
    (hr : s.fire.countdown = some r) (t : State) (htt : t = afterUpdate f k after s) :
    (if abortActive t = true ∧ s.fire.manual = false then t.fire.state = .held ∧ t.fire.countdown = none
       else t.fire.state = .preDischarge ∧ t.fire.countdown = some (min r (max 1 now.countdown))) ∧
      t.fire.manual = s.fire.manual ∧ t.fire.latches = s.fire.latches ∧ t.fire.ownAbort = s.fire.ownAbort ∧
      t.fire.releasePulse = s.fire.releasePulse ∧
      (t.fire.state = .preDischarge → t.line.alarmQueued = s.line.alarmQueued) := by
  have test : s.fire.state ≠ .test := by simp [hs]
  have quiet : ¬ FollowsEdge f now s := fun k => by simp [k.2.1] at h4
  obtain ⟨-, -, -, -, pre, -, -, latches, aborts⟩ := updateOutcome_afterUpdate shows f s k test quiet
  obtain ⟨manual, pulse, outcome⟩ := pre hs
  have lower : adopted now s = some (min r (max 1 now.countdown)) := by rw [adopted, if_pos ⟨hsame, h4⟩, hr]; rfl
  rw [lower] at outcome
  refine htt ▸ ⟨outcome, manual, latches, aborts, pulse, fun hp => ?_⟩
  have ends := ends_afterUpdate f k after s
  refine alarmQueued_afterUpdate shows f s k test quiet ?_
  have cfg : (afterUpdate f k after s).cfg = s.cfg := by
    obtain ⟨x, c, effect, beyond, -⟩ := peerEffect_of_evaluation shows f s test quiet
    rw [effect] at ends
    have written : x.cfg = (updated f after s).cfg := cfg_of_beyondMove beyond
    exact (cfg_of_beyondEvent ends.beyond).trans ((evaluateFire_cfg x).trans written)
  rw [reportedFire, reportedFire, ownAlarmCount_congr cfg latches, ownAbortActive, ownAbortActive, aborts, manual, hp, hs]

/-- A peer in DISCHARGED (R33). -/
theorem dischargedPeer (hsame : now.group = s.cfg.spaceGroup) (h6 : now.fire = 6) (t : State)
    (htt : t = afterUpdate f k after s)
    (testEnds : s.fire.state = .test → t.fire.state = evaluatedFromNormal t) :
    (if (peerOf f.src.toNat s).fire.map (fun p => p.fire) ≠ some 6 ∧
          (s.fire.state = .alert ∨ s.fire.state = .confirmed ∨ s.fire.state = .preDischarge ∨ s.fire.state =
            .held) then
        t.fire.state = .discharged ∧ t.fire.countdown = none ∧ t.fire.manual = s.fire.manual ∧
        t.fire.releasePulse = (if armed s then some s.cfg.releasePulse else s.fire.releasePulse)
       else t.fire.state = .discharged → s.fire.state = .discharged ∨
         (s.fire.state = .confirmed ∧ armed s = true ∧ manualLatched s = true ∧ s.cfg.manualDelay = 0)) ∧
      (s.fire.state = .normal ∨ s.fire.state = .test → t.fire.state = evaluatedFromNormal t) := by
  have ends := ends_afterUpdate f k after s
  rw [← htt] at ends
  by_cases edge : FollowsEdge f now s
  · have effect := peerEffect_of_edge shows f s edge
    have fire := enterDischarged_fire (updated f after s)
    obtain ⟨-, -, changed, raised⟩ := edge
    rw [effect] at ends
    rw [if_pos ⟨changed, raised⟩, ends.state, ends.countdown, ends.manual, ends.pulse, fire]
    exact ⟨⟨rfl, rfl, rfl, rfl⟩, by rintro (e | e) <;> simp [e] at raised⟩
  · rw [if_neg fun k => edge ⟨hsame, h6, k.1, k.2⟩]
    by_cases test : s.fire.state = .test
    · have ended := testEnds test
      refine ⟨fun hd => absurd (ended.symm.trans hd) (evaluatedFromNormal_ne_discharged t), fun _ => ended⟩
    · have outcome := updateOutcome_afterUpdate shows f s k test edge
      rw [← htt] at outcome
      exact ⟨outcome.discharged test, fun hs => outcome.1 (hs.resolve_right test)⟩

/-! ### In TEST (R40) -/

/-- What a peer of the same space leaves that ends TEST. -/
theorem testEnded_afterUpdate (hsize : FixedSizes s) (hs : s.fire.state = .test) (hsame : now.group = s.cfg.spaceGroup)
    (h46 : now.fire = 4 ∨ now.fire = 6) (t : State) (htt : t = afterUpdate f k after s) :
    t.fire.testTimer = none ∧ t.fire.testPulse = none ∧ t.fire.state = evaluatedFromNormal t ∧
    (t.fire.state = .preDischarge → t.fire.manual = false ∧
      t.fire.countdown = some ((lowestCountdown t).getD s.cfg.preDischargeDelay)) ∧
    (∀ i : InputNo, latchOf i t = (if (latchTimer (latchOf i s)).isSome then .none else latchOf i s) ∧
      inputRecord i t = if (latchTimer (latchOf i s)).isSome then noticedRecord i s else inputRecord i s) ∧
    t.fire.ownAbort = s.fire.ownAbort ∧ t.fire.isolated = s.fire.isolated ∧
    t.fire.releasePulse = s.fire.releasePulse := by
  have effect : peerEffect (heardEntry f s) after (updated f after s) =
      evaluateFire (moveFire .normal (clearedByTestEnd (updated f after s))) := by
    rw [peerEffect_eq shows, if_pos hsame, if_pos hs, if_pos h46, endTest_eq]
  have ends := ends_afterUpdate f k after s
  have fire := fire_afterUpdate f k after s
  have sup := sup_afterUpdate f k after s
  rw [effect, ← htt] at ends fire sup
  obtain ⟨timer, pulse, state, records, aborts, isolated, -⟩ :=
    testEnded s (updated f after s) rfl hsize _ rfl
  have plain := ends_event s (evaluateFire (moveFire .normal (clearedByTestEnd (updated f after s)))) s.fire
  change Ends _ (evaluatedEvent s s.fire (clearedByTestEnd (updated f after s))) at plain
  have fire' : t.fire = (evaluatedEvent s s.fire (clearedByTestEnd (updated f after s))).fire := by
    rw [fire, evaluatedEvent, queueAlarmIfChanged_fire]
  have sup' : t.sup = (evaluatedEvent s s.fire (clearedByTestEnd (updated f after s))).sup := by
    rw [sup, evaluatedEvent, queueAlarmIfChanged_sup]
  have evaluated : evaluatedFromNormal t =
      evaluatedFromNormal (evaluatedEvent s s.fire (clearedByTestEnd (updated f after s))) :=
    ends.readings.evaluatedFromNormal.trans plain.readings.evaluatedFromNormal.symm
  obtain ⟨readings, -⟩ := ends.after_evaluation
  obtain ⟨entry, -, -, still⟩ := evaluateFire_of_calm_outcome
    (u := moveFire .normal (clearedByTestEnd (updated f after s))) (.inl rfl)
  have cleared := clearedByTestEnd_fire (updated f after s)
  have cfg : (moveFire .normal (clearedByTestEnd (updated f after s))).cfg = s.cfg :=
    (cfg_of_beyondEvent (beyondEvent_clearedByTestEnd (updated f after s))).trans rfl
  refine ⟨by rw [fire']; exact timer, by rw [fire']; exact pulse, by rw [fire', evaluated]; exact state, fun hp => ?_,
    fun i => ⟨?_, ?_⟩, by rw [fire']; exact aborts, by rw [fire']; exact isolated, ?_⟩
  · obtain ⟨manual, countdown⟩ := entry (ends.state.symm.trans hp)
    rw [cfg] at countdown
    exact ⟨ends.manual.trans manual, by rw [ends.countdown, readings.lowestCountdown]; exact countdown⟩
  · rw [latchOf_congr i (congrArg FireRecord.latches fire')]
    exact (records i).1
  · rw [inputRecord_congr i (congrArg Supervisor.inputs sup')]
    exact (records i).2
  · rw [ends.pulse, still, moveFire_fire, cleared]
    rfl

omit shows in
/-- An update that leaves TEST leaves the fire record and the inputs. -/
theorem testKept_afterUpdate (effect : peerEffect (heardEntry f s) after (updated f after s) = updated f after s) :
    (afterUpdate f k after s).fire = s.fire ∧ (afterUpdate f k after s).sup = s.sup := by
  have quiet : settleFire s.fire (updated f after s) = updated f after s := settleFire_self (updated f after s)
  rw [fire_afterUpdate, sup_afterUpdate, effect, quiet]
  exact ⟨rfl, rfl⟩

theorem peerEffect_of_testKept (hs : s.fire.state = .test)
    (h : ¬ (now.group = s.cfg.spaceGroup ∧ (now.fire = 4 ∨ now.fire = 6))) :
    peerEffect (heardEntry f s) after (updated f after s) = updated f after s := by
  rw [peerEffect_eq shows, if_pos hs]
  by_cases same : now.group = s.cfg.spaceGroup
  · rw [if_pos same, if_neg fun k => h ⟨same, k⟩]
  · rw [if_neg same]
    exact evaluateFire_of_resting (.inr (.inr hs))

end

/-- Settles O33: STATE and ALARM are one peer update, of which `Shows` says what the entry then shows. -/
theorem sameSpacePeersLowerOrDischarge : Obligations.SameSpacePeersLowerOrDischarge := by
  unfold Obligations.SameSpacePeersLowerOrDischarge
  refine ⟨fun s f r h _ hg hf hs hr => ⟨_, exec_stateFrame_accepted h, ?_⟩,
    fun s f r h _ ha hg hf hs hr => ⟨_, exec_alarmFrame_accepted h, ?_⟩,
    fun s f h hsize hg hf => ⟨_, exec_stateFrame_accepted h, ?_⟩,
    fun s f h hsize ha hg hf => ⟨_, exec_alarmFrame_accepted h, ?_⟩,
    fun s f h _ ht hn => ⟨_, exec_stateFrame_accepted h, ?_⟩,
    fun s f h _ ha ht hn => ⟨_, exec_alarmFrame_accepted h, ?_⟩,
    fun s f h hsize hs => ⟨_, exec_stateFrame_accepted h, ?_⟩,
    fun s f h hsize hs => ⟨_, exec_alarmFrame_accepted h, ?_⟩⟩
  · exact adoption (shows_afterState f.payload _) f s .state hs hg hf hr _ rfl
  · exact adoption (shows_afterAlarm f.payload ((heardEntry_fields f s).2.1.trans ha)) f s .alarm hs hg hf hr _ rfl
  · have shows := shows_afterState f.payload (heardEntry f s)
    exact dischargedPeer shows f s .state hg hf _ rfl fun hs =>
      (testEnded_afterUpdate shows f s .state hsize hs hg (.inr hf) _ rfl).2.2.1
  · have shows := shows_afterAlarm f.payload ((heardEntry_fields f s).2.1.trans ha)
    exact dischargedPeer shows f s .alarm hg hf _ rfl fun hs =>
      (testEnded_afterUpdate shows f s .alarm hsize hs hg (.inr hf) _ rfl).2.2.1
  · exact updateOutcome_afterUpdate (shows_afterState f.payload _) f s .state ht hn
  · exact updateOutcome_afterUpdate (shows_afterAlarm f.payload ((heardEntry_fields f s).2.1.trans ha)) f s .alarm ht hn
  · have shows := shows_afterState f.payload (heardEntry f s)
    split
    case isTrue hc =>
      have ended := testEnded_afterUpdate shows f s .state hsize hs hc.1 hc.2 _ rfl
      simp only [noticedRecord_eq] at ended
      exact ended
    case isFalse hc => exact testKept_afterUpdate f s .state (peerEffect_of_testKept shows f s hs hc)
  · split
    case isTrue hc =>
      obtain ⟨ha, hg, hf⟩ := hc
      have shows := shows_afterAlarm f.payload ((heardEntry_fields f s).2.1.trans ha)
      have ended := testEnded_afterUpdate shows f s .alarm hsize hs hg hf _ rfl
      simp only [noticedRecord_eq] at ended
      exact ended
    case isFalse hc =>
      refine testKept_afterUpdate f s .alarm ?_
      cases ha : (peerOf f.src.toNat s).awaiting with
      | false =>
        exact peerEffect_of_testKept (shows_afterAlarm f.payload ((heardEntry_fields f s).2.1.trans ha)) f s hs
          fun k => hc ⟨ha, k⟩
      | true =>
        have none := sameSpaceFields_afterAlarm_awaiting s.cfg.spaceGroup f.payload
          ((heardEntry_fields f s).2.1.trans ha)
        unfold peerEffect
        rw [show sameSpaceFields (updated f _ s).cfg.spaceGroup _ = Option.none from none]
        exact evaluateFire_of_resting (.inr (.inr hs))

end Sys2Proof.Machine
end

section
/-! ## Re-offer checks, the end of HELD, and the grant after staleness (O59) -/

namespace Sys2Proof.Machine

/-! ### Re-offer checks (R135, R139) -/

/-- The update that an entry's peer makes ends its wait, by what the peer's entry then shows. -/
theorem waitEnds_iff {n : Nat} {k : UpdateKind} {p : Peer} {now : PeerFire} (shows : Shows p now) (e : CustodyEntry) :
    waitEnds n k p e = true ↔ e.state = .held ∧ e.peer = some n ∧
      ((e.wait = .fire ∧ now.fire = 1) ∨ (e.wait = .full ∧ k = .state ∧ ∃ f ∈ p.state, f.custody < 24)) := by
  unfold waitEnds
  rw [shows.fresh, shows.fire]
  cases e.wait with
  | none => simp
  | fire => simp [FireState.code, and_assoc]
  | full =>
    cases p.state with
    | none => simp
    | some v =>
      have room : decide (v.custody < Config.custodyMax) = true ↔ v.custody < 24 := decide_eq_true_iff
      simp [and_assoc, room]

/-- A stale entry ends no wait. -/
theorem waitEnds_of_stale {n : Nat} {k : UpdateKind} {p : Peer} (h : p.fresh = false) (e : CustodyEntry) :
    waitEnds n k p e = false := by
  simp [waitEnds, h]

theorem recordReceiving_eq_false_iff (num : Nat) (s : State) :
    recordReceiving num s = false ↔ ∀ c ∈ s.consignments, c.number = num → c.state ≠ .receiving := by
  simp [recordReceiving]

/-- Where the offering rule holds already, its check leaves an entry. -/
theorem settleOffer_of_settled {s u : State} (settled : OffersSettled s) (h : u.consignments = s.consignments)
    {e : CustodyEntry} (he : e ∈ s.custody.entries) : settleOffer u e = e := by
  unfold settleOffer
  split
  case isTrue held =>
    have same : offerOwed u e = offerOwed s e := by simp only [offerOwed, recordReceiving, h]
    rw [same, ← settled e he held]
  case isFalse => rfl

/-- An entry whose wait has ended owes OFFER unless its record is RECEIVING. -/
theorem settleOffer_of_waitOver {s u : State} (h : u.consignments = s.consignments) {e : CustodyEntry} {n : Nat}
    (held : e.state = .held) (peer : e.peer = some n) :
    settleOffer u { e with wait := .none } =
      { e with
        wait := .none,
        owed := if e.consignment.isSome = true ∧ ∀ c ∈ s.consignments,
          e.consignment = some c.number → c.state ≠ .receiving then some .offer else none } := by
  have owes : offerOwed u { e with wait := .none } = true ↔ e.consignment.isSome = true ∧ ∀ c ∈ s.consignments,
      e.consignment = some c.number → c.state ≠ .receiving := by
    unfold offerOwed
    cases hn : e.consignment with
    | none => simp
    | some num =>
      simp only [peer, Option.isSome_some, beq_self_eq_true, Bool.and_self, Bool.true_and, Bool.not_eq_true',
        recordReceiving_eq_false_iff, h, true_and, Option.some.injEq]
      exact ⟨fun k c hc e => k c hc e.symm, fun k c hc e => k c hc e.symm⟩
  have marked : settleOffer u { e with wait := .none } =
      { e with wait := .none, owed := if offerOwed u { e with wait := .none } then some .offer else none } :=
    if_pos held
  rw [marked]
  exact congrArg (fun o => { e with wait := .none, owed := o }) (if_congr owes rfl rfl)

/-- The custody list after a re-offer check that ends the waits of the entries that `ends` picks. -/
theorem reofferChecks_custody {s u : State} {n : Nat} {k : UpdateKind} {p : Peer} (settled : OffersSettled s)
    (hc : u.consignments = s.consignments) (hu : u.custody = s.custody) (ends : CustodyEntry → Prop) [DecidablePred ends]
    (hends : ∀ e, waitEnds n k p e = true ↔ ends e) (held : ∀ e, ends e → e.state = .held ∧ e.peer = some n) :
    (reofferChecks n k p u).custody = { s.custody with
      entries := s.custody.entries.map fun e =>
        if ends e then
          { e with
            wait := .none,
            owed := if e.consignment.isSome = true ∧ ∀ c ∈ s.consignments,
              e.consignment = some c.number → c.state ≠ .receiving then some .offer else none }
        else e } := by
  have entries : (reofferChecks n k p u).custody = { u.custody with
      entries := (u.custody.entries.map fun e => if waitEnds n k p e then { e with wait := .none } else e).map
        (settleOffer u) } := rfl
  rw [entries, hu, List.map_map]
  refine congrArg (fun l => { s.custody with entries := l }) (List.map_congr_left fun e he => ?_)
  by_cases waits : ends e
  · rw [Function.comp_apply, if_pos ((hends e).2 waits), if_pos waits]
    exact settleOffer_of_waitOver hc (held e waits).1 (held e waits).2
  · rw [Function.comp_apply, if_neg (mt (hends e).1 waits), if_neg waits]
    exact settleOffer_of_settled settled hc he

/-! ### The custody list after a peer update that leaves the fire state -/

section
variable (f : Frame) (k : UpdateKind) (after : Peer) (s : State)

/-- The state in which the re-offer checks of a peer update are made. -/
def beforeReoffer (f : Frame) (after : Peer) (s : State) : State :=
  evaluateGrant (settleFire s.fire (peerEffect (heardEntry f s) after (updated f after s)))

theorem custody_afterUpdate :
    (afterUpdate f k after s).custody = (reofferChecks f.src.toNat k after (beforeReoffer f after s)).custody := by
  rw [afterUpdate_eq, queueAlarmIfChanged_custody]
  rfl

theorem peerEffect_custody : (peerEffect (heardEntry f s) after (updated f after s)).custody = s.custody := by
  have w : (updated f after s).custody = s.custody := rfl
  have ends : (endTest (updated f after s)).custody = s.custody := by
    rw [endTest_eq, evaluateFire_custody, moveFire_custody, clearedByTestEnd_custody, w]
  have same (earlier : Option PeerFire) (now : PeerFire) :
      (samePeerUpdate earlier now (updated f after s)).custody = s.custody := by
    unfold samePeerUpdate
    split
    · exact (custody_of_beyondMove (beyondMove_enterDischarged _)).trans w
    · exact (custody_of_beyondMove (beyondMove_adopt now _)).trans w
  unfold peerEffect
  repeat' split
  · exact ends
  · exact w
  · rw [evaluateFire_custody, same]
  · rw [evaluateFire_custody, w]

theorem beyondEvent_peerEffect :
    beyondEvent (peerEffect (heardEntry f s) after (updated f after s)) = beyondEvent (updated f after s) := by
  have same (earlier : Option PeerFire) (now : PeerFire) :
      beyondEvent (samePeerUpdate earlier now (updated f after s)) = beyondEvent (updated f after s) := by
    unfold samePeerUpdate
    split
    · exact beyondEvent_of_beyondMove (beyondMove_enterDischarged _)
    · exact beyondEvent_of_beyondMove (beyondMove_adopt now _)
  unfold peerEffect
  repeat' split
  · rw [endTest_eq, beyondEvent_evaluateFire, beyondEvent_moveFire, beyondEvent_clearedByTestEnd]
  · rfl
  · rw [beyondEvent_evaluateFire, same]
  · rw [beyondEvent_evaluateFire]

theorem beforeReoffer_consignments : (beforeReoffer f after s).consignments = s.consignments := by
  have beyond : beyondEvent (beforeReoffer f after s) = beyondEvent (updated f after s) := by
    rw [beforeReoffer, beyondEvent_of_beyondSettling (beyondSettling_evaluateGrant _), beyondEvent_settleFire,
      beyondEvent_peerEffect]
  exact (consignments_of_beyondEvent beyond).trans rfl

theorem beforeReoffer_custody (h : (afterUpdate f k after s).fire.state = s.fire.state) :
    (beforeReoffer f after s).custody = s.custody := by
  have state : (peerEffect (heardEntry f s) after (updated f after s)).fire.state = s.fire.state :=
    (ends_afterUpdate f k after s).state.symm.trans h
  have given : (beforeReoffer f after s).custody =
      (settleFire s.fire (peerEffect (heardEntry f s) after (updated f after s))).custody := by
    rw [beforeReoffer, evaluateGrant_frame]
  rw [given, settleFire_custody, state, peerEffect_custody, custodyMoved, if_pos rfl]

/-- A peer update that leaves the fire state gives the custody list its re-offer checks alone. -/
theorem custody_afterUpdate_of_state (settled : OffersSettled s)
    (h : (afterUpdate f k after s).fire.state = s.fire.state) (ends : CustodyEntry → Prop) [DecidablePred ends]
    (hends : ∀ e, waitEnds f.src.toNat k after e = true ↔ ends e)
    (held : ∀ e, ends e → e.state = .held ∧ e.peer = some f.src.toNat) :
    (afterUpdate f k after s).custody = { s.custody with
      entries := s.custody.entries.map fun e =>
        if ends e then
          { e with
            wait := .none,
            owed := if e.consignment.isSome = true ∧ ∀ c ∈ s.consignments,
              e.consignment = some c.number → c.state ≠ .receiving then some .offer else none }
        else e } := by
  rw [custody_afterUpdate]
  exact reofferChecks_custody settled (beforeReoffer_consignments f after s) (beforeReoffer_custody f k after s h) ends
    hends held

end

theorem byte_eq_iff_toNat (b : Byte) (n : Nat) (h : n < 256) : b = BitVec.ofNat 8 n ↔ b.toNat = n := by
  rw [BitVec.toNat_eq, BitVec.toNat_ofNat, Nat.mod_eq_of_lt h]

/-- The waits that a STATE ends. -/
theorem waitEnds_afterState (f : Frame) (s : State) (e : CustodyEntry) :
    waitEnds f.src.toNat .state ((heardEntry f s).afterState f.payload) e = true ↔
      e.state = .held ∧ e.peer = some f.src.toNat ∧
        ((e.wait = .fire ∧ byteAt f.payload 2 = 1) ∨ (e.wait = .full ∧ (byteAt f.payload 17).toNat < 24)) := by
  have code : byteAt f.payload 2 = 1 ↔ (stateFire f.payload).fire = 1 := byte_eq_iff_toNat _ 1 (by omega)
  rw [waitEnds_iff (shows_afterState f.payload _), code]
  simp [Peer.afterState, stateFields]

/-- The waits that an ALARM ends. -/
theorem waitEnds_afterAlarm (f : Frame) (s : State) (e : CustodyEntry) :
    waitEnds f.src.toNat .alarm ((heardEntry f s).afterAlarm f.payload) e = true ↔
      e.state = .held ∧ e.peer = some f.src.toNat ∧ (peerOf f.src.toNat s).awaiting = false ∧ e.wait = .fire ∧
        byteAt f.payload 0 = 1 := by
  have awaiting := (heardEntry_fields f s).2.1
  cases ha : (peerOf f.src.toNat s).awaiting with
  | true =>
    have stale : ((heardEntry f s).afterAlarm f.payload).fresh = false := by
      rw [Peer.afterAlarm, if_pos (awaiting.trans ha)]
    simp [waitEnds_of_stale stale]
  | false =>
    have code : byteAt f.payload 0 = 1 ↔ (alarmFire f.payload).fire = 1 := byte_eq_iff_toNat _ 1 (by omega)
    rw [waitEnds_iff (shows_afterAlarm f.payload (awaiting.trans ha)), code]
    simp

end Sys2Proof.Machine
end

section
/-! ## The end of HELD, and the grant after staleness notices (O59) -/

namespace Sys2Proof.Machine

/-! ### HELD (R32) -/

/-- The evaluation in HELD. -/
theorem UpdateOutcome.held {s t : State} {c : Option Nat} (h : UpdateOutcome s t c) (hs : s.fire.state = .held) :
    (if abortActive t = true then t.fire.state = .held ∧ t.fire.countdown = s.fire.countdown ∧ t.fire.manual =
        s.fire.manual else t.fire.state = .preDischarge ∧ t.fire.countdown = some s.cfg.abortRestart ∧ t.fire.manual =
          false) ∧ t.fire.latches = s.fire.latches ∧ t.fire.ownAbort = s.fire.ownAbort ∧ t.fire.releasePulse =
            s.fire.releasePulse := by
  obtain ⟨-, -, -, -, -, held, -, latches, aborts⟩ := h
  obtain ⟨pulse, outcome⟩ := held hs
  refine ⟨?_, latches, aborts, pulse⟩
  split
  case isTrue ha =>
    rw [if_pos ha] at outcome
    exact ⟨outcome.1, outcome.2.2, outcome.2.1⟩
  case isFalse ha =>
    rw [if_neg ha] at outcome
    exact ⟨outcome.1, outcome.2.2, outcome.2.1⟩

theorem sameReadings_of_frame {s t : State} (hc : t.cfg = s.cfg) (hf : t.fire = s.fire)
    (hp : t.line.peers = s.line.peers) : SameReadings s t where
  cfg := hc
  latches := by rw [hf]
  aborts := by rw [hf]
  isolated := by rw [hf]
  peers := sameSpacePeers_congr hc hp

/-! ### An ABORT input that leaves ALARM (R5, R31) -/

/-- The state in which the evaluation finds an ABORT input out of ALARM. -/
def abortLeft (i : InputNo) (b : Band) (s : State) : State :=
  bandTroubles i b (setInput i { inputRecord i s with settled := b, candidate := none } s)

/-- An own abort gone (R31). -/
def withoutAbort (i : InputNo) (s : State) : State := withAborts (s.fire.ownAbort.filter (· != i)) s

theorem abortOff_eq (i : InputNo) (s : State) :
    abortOff i s = settleFire s.fire (evaluateFire (withoutAbort i s)) := rfl

section
variable {s : State} {i : InputNo} {c : Code}

theorem judgeCode_of_abort (ha : inputType i s = .abort)
    (hr : inputRecord i s = { settled := .alarm, candidate := some (scanBand .alarm c), stage := .ready })
    (hb : scanBand .alarm c ≠ .alarm) : judgeCode i c s = abortOff i (abortLeft i (scanBand .alarm c) s) := by
  have settles : Settles i c s := by
    rw [Settles, hr]
    exact ⟨hb, fun k => hb k.1, rfl⟩
  have judged : judgeCode i c s = judgeSettled i c s := by simp only [judgeCode, hr]
  have leaves : inputType i s = .abort ∧ (inputRecord i s).settled = .alarm ∧ scanBand .alarm c ≠ .alarm :=
    ⟨ha, by rw [hr], hb⟩
  have band : scanBand (inputRecord i s).settled c = scanBand .alarm c := by rw [hr]
  rw [judged, judgeSettled_of_settles settles, band]
  exact if_pos leaves

/-- The end of an own abort in HELD. -/
theorem abortOff_held (run : s.phase = .running) (conv : s.sup.conv = .input i) (hs : s.fire.state = .held)
    (ha : inputType i s = .abort)
    (hr : inputRecord i s = { settled := .alarm, candidate := some (scanBand .alarm c), stage := .ready })
    (hb : scanBand .alarm c ≠ .alarm) : ∃ t, exec (.inputConversionEnd c) s = .next t ∧
      t.fire.ownAbort = s.fire.ownAbort.filter (fun j => j != i) ∧
      (if abortActive t = true then t.fire.state = .held ∧ t.fire.countdown = s.fire.countdown ∧ t.fire.manual =
        s.fire.manual else t.fire.state = .preDischarge ∧ t.fire.countdown = some s.cfg.abortRestart ∧ t.fire.manual =
          false) ∧
      t.fire.latches = s.fire.latches ∧ t.fire.releasePulse = s.fire.releasePulse := by
  refine ⟨_, exec_inputConversionEnd s i c run conv, ?_⟩
  rw [judgeCode_of_abort ha hr hb]
  have fire : (abortLeft i (scanBand .alarm c) s).fire = s.fire := by simp [abortLeft]
  have cfg : (abortLeft i (scanBand .alarm c) s).cfg = s.cfg := by simp [abortLeft]
  generalize abortLeft i (scanBand .alarm c) s = y at fire cfg
  generalize ht : queueAlarmIfChanged s (continueScan i (abortOff i y)) = t
  have ends : EndsFire (evaluateFire (withoutAbort i y)) t := by
    refine endsFire_of_fire (before := y.fire) ?_ (.trans (sameReadings_of_frame (t := continueScan i (abortOff i y))
      ?_ ?_ ?_) (ht ▸ sameReadings_queueAlarmIfChanged s _))
    · rw [← ht, queueAlarmIfChanged_fire, continueScan_fire, abortOff_eq]
    · rw [continueScan_cfg, abortOff_eq]
    · rw [continueScan_fire, abortOff_eq]
    · rw [continueScan_line, abortOff_eq]
  have written : (withoutAbort i y).fire =
      { (withoutAbort i s).fire with countdown := s.fire.countdown } := by
    simp only [withoutAbort, withAborts, fire]
  have outcome := updateOutcome_of_evaluation (s := withoutAbort i s) (x := withoutAbort i y)
    (c := s.fire.countdown) cfg written (fun _ => rfl) ends
  obtain ⟨held, latches, aborts, pulse⟩ := outcome.held hs
  exact ⟨aborts, held, latches, pulse⟩

end

/-! ### Staleness notices (R171, R175) -/

section
variable (s : State)

/-- The state in which a status timer expiry gives its notices, with the ages raised (R171, R178). -/
def aged (s : State) : State :=
  withLine { s.line with statusTimer := some s.cfg.statusInterval, stateQueued := true,
                         peers := s.line.peers.map Peer.grow } s

theorem statusOver_eq :
    statusOver s =
      closeWindow (if s.line.peers.filter Peer.goesStale = [] then aged s else staleNotice (aged s)) := by
  unfold statusOver
  rw [raiseAges_eq]
  rfl

theorem goesStale_iff (p : Peer) : p.goesStale = true ↔ p.fresh = true ∧ 2 ≤ p.age := by
  simp [Peer.goesStale, Config.staleAge]

theorem filter_goesStale_eq_nil_iff :
    s.line.peers.filter Peer.goesStale = [] ↔ ¬ ∃ p ∈ s.line.peers, p.fresh = true ∧ 2 ≤ p.age := by
  simp only [List.filter_eq_nil_iff, goesStale_iff, not_exists, not_and]

/-- The state in which the clearing of LINE_STUCK gives its notice (R171, R175). -/
def recovered (s : State) : State :=
  setTrouble .lineStuck false (withLine { s.line with peers := s.line.peers.map Peer.recover } s)

theorem lineRecovered_of_stuck (h : troubleActive .lineStuck s = true) : lineRecovered s = staleNotice (recovered s) :=
  if_pos h

theorem closeWindow_frame : closeWindow s = { s with line := (closeWindow s).line, out := (closeWindow s).out } := by
  unfold closeWindow
  dsimp only
  split
  · rw [withLine, setTrouble_frame]
  · rfl

theorem setTrouble_peers (x : Trouble) (b : Bool) : (setTrouble x b s).line.peers = s.line.peers :=
  peers_of_beyondEvent (beyondEvent_setTrouble s x b)

theorem closeWindow_peers : (closeWindow s).line.peers = s.line.peers := by
  unfold closeWindow
  dsimp only
  split
  · exact setTrouble_peers s .lineNoisy false
  · rfl

theorem queueAlarmIfChanged_own (a b : State) : (queueAlarmIfChanged a b).own = b.own := by rw [queueAlarmIfChanged_frame]

theorem queueAlarmIfChanged_allot (a b : State) : (queueAlarmIfChanged a b).allot = b.allot := by
  rw [queueAlarmIfChanged_frame]

/-- The state `t` is the state after staleness notices in `w`, but for the line's own queues and the troubles. -/
structure AfterNotice (w t : State) : Prop where
  cfg : t.cfg = w.cfg
  own : t.own = w.own
  fire : t.fire = (staleNotice w).fire
  climate : t.climate = (staleNotice w).climate
  allot : t.allot = (staleNotice w).allot
  peers : t.line.peers = w.line.peers

theorem beyondSettling_staleNotice (w : State) : beyondSettling (staleNotice w) = beyondSettling (evaluateFire w) :=
  (beyondSettling_evaluateGrant _).trans (beyondSettling_settleFire _ w.fire)

theorem staleNotice_peers (w : State) : (staleNotice w).line.peers = w.line.peers := by
  rw [peers_of_beyondSettling (beyondSettling_staleNotice w), evaluateFire_line]

theorem afterNotice_staleNotice (a w : State) : AfterNotice w (queueAlarmIfChanged a (staleNotice w)) where
  cfg := by
    rw [queueAlarmIfChanged_cfg, cfg_of_beyondSettling (beyondSettling_staleNotice w), evaluateFire_cfg]
  own := by
    have own : (staleNotice w).own = (evaluateFire w).own :=
      congrArg (fun u => u.own) (beyondSettling_staleNotice w)
    have own' : (evaluateFire w).own = w.own := congrArg (fun u => u.own) (beyondMove_evaluateFire w)
    exact (queueAlarmIfChanged_own ..).trans (own.trans own')
  fire := queueAlarmIfChanged_fire ..
  climate := queueAlarmIfChanged_climate ..
  allot := queueAlarmIfChanged_allot ..
  peers := by rw [queueAlarmIfChanged_peers, staleNotice_peers]

theorem afterNotice_closeWindow (a w : State) : AfterNotice w (queueAlarmIfChanged a (closeWindow (staleNotice w))) := by
  have plain := afterNotice_staleNotice a w
  have frame := closeWindow_frame (staleNotice w)
  exact
    { cfg := by rw [← plain.cfg, queueAlarmIfChanged_cfg, queueAlarmIfChanged_cfg, frame]
      own := by rw [← plain.own, queueAlarmIfChanged_own, queueAlarmIfChanged_own, frame]
      fire := by rw [queueAlarmIfChanged_fire, frame]
      climate := by rw [queueAlarmIfChanged_climate, frame]
      allot := by rw [queueAlarmIfChanged_allot, frame]
      peers := by rw [queueAlarmIfChanged_peers, closeWindow_peers, staleNotice_peers] }

section
variable {s} {w t : State}

/-- HELD after staleness notices. -/
theorem AfterNotice.held (h : AfterNotice w t) (cfg : w.cfg = s.cfg) (fire : w.fire = s.fire) (hs : s.fire.state = .held) :
    (if abortActive t = true then t.fire.state = .held ∧ t.fire.countdown = s.fire.countdown ∧ t.fire.manual =
        s.fire.manual else t.fire.state = .preDischarge ∧ t.fire.countdown = some s.cfg.abortRestart ∧ t.fire.manual =
          false) ∧ t.fire.latches = s.fire.latches ∧ t.fire.ownAbort = s.fire.ownAbort ∧ t.fire.releasePulse =
            s.fire.releasePulse := by
  have noticed : (staleNotice w).fire = (settleFire w.fire (evaluateFire w)).fire := evaluateGrant_fire _
  have readings : SameReadings (staleNotice w) t :=
    sameReadings_of_frame
      (h.cfg.trans ((cfg_of_beyondSettling (beyondSettling_staleNotice w)).trans (evaluateFire_cfg w)).symm) h.fire
      (h.peers.trans (staleNotice_peers w).symm)
  have ends : EndsFire (evaluateFire w) t :=
    endsFire_of_fire (h.fire.trans noticed) ((sameReadings_evaluateGrant _).trans readings)
  exact (updateOutcome_of_evaluation cfg (c := s.fire.countdown) fire (fun _ => rfl) ends).held hs

/-- The grant evaluation reads the peer table, the own number, the bay values and the configured values (R70 to R72). -/
theorem runningCount_add_rank_congr {u t : State} (own : t.own = u.own) (cfg : t.cfg = u.cfg)
    (climate : t.climate.bay = u.climate.bay) (peers : t.line.peers = u.line.peers) :
    runningCount t + rank t = runningCount u + rank u := by
  simp only [runningCount, rank, ownNumber, excess, own, cfg, climate, peers]

theorem evaluateGrant_allot (u : State) :
    (evaluateGrant u).allot =
      if u.allot.running = false ∧ u.allot.forced = false ∧ u.allot.request = true ∧ u.allot.minOff = none ∧
          runningCount u + rank u < u.cfg.cap then
        { u.allot with
          running := true, minOff := none, minRun := if u.cfg.minRunTime = 0 then none else some u.cfg.minRunTime }
      else u.allot := by
  have grants : granted u = true ↔ u.allot.running = false ∧ u.allot.forced = false ∧ u.allot.request = true ∧
      u.allot.minOff = none ∧ runningCount u + rank u < u.cfg.cap := by
    simp [granted, and_assoc]
  have outcome : (evaluateGrant u).allot = if granted u = true then (startDehumidifier u).allot else u.allot := by
    unfold evaluateGrant
    split <;> rfl
  exact outcome.trans (if_congr grants rfl rfl)

/-- An event that leaves the fire state gives the allotter nothing. -/
theorem settleFire_allot_of_state (before : FireRecord) (v : State) (h : v.fire.state = before.state) :
    (settleFire before v).allot = v.allot := by
  rw [settleFire, if_pos h]
  split <;> rfl

/-- The allotter after staleness notices that leave the fire state. -/
theorem AfterNotice.grants (h : AfterNotice w t) (cfg : w.cfg = s.cfg) (fire : w.fire = s.fire) (allot : w.allot = s.allot)
    (hs : t.fire.state = s.fire.state) :
    t.allot =
      if s.allot.running = false ∧ s.allot.forced = false ∧ s.allot.request = true ∧ s.allot.minOff = none ∧
          runningCount t + rank t < s.cfg.cap then
        { s.allot with
          running := true, minOff := none, minRun := if s.cfg.minRunTime = 0 then none else some s.cfg.minRunTime }
      else s.allot := by
  generalize hu : settleFire w.fire (evaluateFire w) = u
  have noticed : staleNotice w = evaluateGrant u := by rw [← hu]; rfl
  have state : (evaluateFire w).fire.state = w.fire.state := by
    have := congrArg FireRecord.state h.fire
    rw [noticed, evaluateGrant_fire, ← hu, settleFire_fireState] at this
    rw [← this, hs, fire]
  have unmoved : (evaluateFire w).allot = w.allot := congrArg (fun v => v.allot) (beyondMove_evaluateFire w)
  have stands : u.allot = s.allot := by
    rw [← hu, settleFire_allot_of_state w.fire _ state, unmoved, allot]
  have settled : beyondSettling u = beyondSettling (evaluateFire w) := hu ▸ beyondSettling_settleFire _ _
  have cfg' : u.cfg = s.cfg := (cfg_of_beyondSettling settled).trans ((evaluateFire_cfg w).trans cfg)
  have own : u.own = w.own :=
    (congrArg (fun v => v.own) settled).trans (congrArg (fun v => v.own) (beyondMove_evaluateFire w))
  have climate : t.climate = u.climate := by
    rw [h.climate, noticed, evaluateGrant_frame]
  have peers : u.line.peers = w.line.peers := by
    rw [peers_of_beyondSettling settled, evaluateFire_line]
  have counts : runningCount t + rank t = runningCount u + rank u :=
    runningCount_add_rank_congr (h.own.trans own.symm) (h.cfg.trans (cfg.trans cfg'.symm)) (by rw [climate])
      (h.peers.trans peers.symm)
  rw [h.allot, noticed, evaluateGrant_allot, stands, cfg', counts]

end

end

/-! ### The expiry and the clearing as events -/

section
variable {s : State}

theorem exec_statusTimerExpiry (run : s.phase = .running) :
    exec .statusTimerExpiry s = .next (queueAlarmIfChanged s (statusOver s)) := runEvent_running statusOver s run

theorem exec_lineStuckClear (run : s.phase = .running) (h : troubleActive .lineStuck s = true) :
    exec .lineStuckClear s = .next (queueAlarmIfChanged s (staleNotice (recovered s))) := by
  rw [← lineRecovered_of_stuck s h]
  exact runEvent_running lineRecovered s run

/-- An expiry at which some peer goes stale. -/
theorem statusOver_of_stale (h : ∃ p ∈ s.line.peers, p.fresh = true ∧ 2 ≤ p.age) :
    AfterNotice (aged s) (queueAlarmIfChanged s (statusOver s)) := by
  rw [statusOver_eq, if_neg fun none => (filter_goesStale_eq_nil_iff s).1 none h]
  exact afterNotice_closeWindow s (aged s)

/-- An expiry at which no peer goes stale leaves the fire record and the allotter. -/
theorem statusOver_of_fresh (h : ¬ ∃ p ∈ s.line.peers, p.fresh = true ∧ 2 ≤ p.age) :
    (queueAlarmIfChanged s (statusOver s)).fire = s.fire ∧ (queueAlarmIfChanged s (statusOver s)).allot = s.allot := by
  rw [statusOver_eq, if_pos ((filter_goesStale_eq_nil_iff s).2 h), queueAlarmIfChanged_frame, closeWindow_frame]
  exact ⟨rfl, rfl⟩

theorem recovered_frame (s : State) :
    (recovered s).cfg = s.cfg ∧ (recovered s).fire = s.fire ∧ (recovered s).allot = s.allot := by
  unfold recovered
  rw [setTrouble_frame]
  exact ⟨rfl, rfl, rfl⟩

end

/-- Settles O59: the waits by the re-offer checks, HELD by the evaluation that each of the four events ends with, and the
allotter by the grant evaluation of the notices. -/
theorem peerUpdatesEndWaitsAndAbortsEndHeld : Obligations.PeerUpdatesEndWaitsAndAbortsEndHeld := by
  unfold Obligations.PeerUpdatesEndWaitsAndAbortsEndHeld
  refine ⟨fun s f h _ settled => ⟨_, exec_stateFrame_accepted h, fun hs => ?_⟩,
    fun s f h _ settled => ⟨_, exec_alarmFrame_accepted h, fun hs => ?_⟩,
    fun s f h _ hs h6 => ⟨_, exec_stateFrame_accepted h, ?_⟩,
    fun s i c run _ conv hs ha hr hb => abortOff_held run conv hs ha hr hb,
    fun s run hs => ⟨_, exec_statusTimerExpiry run, ?_⟩,
    fun s run stuck hs => ⟨_, exec_lineStuckClear run stuck, ?_⟩,
    fun s run => ⟨_, exec_statusTimerExpiry run, fun fresh => (statusOver_of_fresh fresh).2, fun stale hs => ?_⟩,
    fun s run stuck => ⟨_, exec_lineStuckClear run stuck, fun hs => ?_⟩⟩
  · exact custody_afterUpdate_of_state f .state _ s settled hs _ (waitEnds_afterState f s) fun _ k => ⟨k.1, k.2.1⟩
  · exact custody_afterUpdate_of_state f .alarm _ s settled hs _ (waitEnds_afterAlarm f s) fun _ k => ⟨k.1, k.2.1⟩
  · have quiet : ¬ FollowsEdge f (stateFire f.payload) s := fun k =>
      h6 ((byte_eq_iff_toNat _ 6 (by omega)).2 k.2.1)
    exact (updateOutcome_afterUpdate (shows_afterState f.payload _) f s .state (by simp [hs]) quiet).held hs
  · split
    case isTrue stale => exact (statusOver_of_stale stale).held rfl rfl hs
    case isFalse fresh => exact (statusOver_of_fresh fresh).1
  · obtain ⟨cfg, fire, -⟩ := recovered_frame s
    exact (afterNotice_staleNotice s (recovered s)).held cfg fire hs
  · exact (statusOver_of_stale stale).grants rfl rfl rfl hs
  · obtain ⟨cfg, fire, allot⟩ := recovered_frame s
    exact (afterNotice_staleNotice s (recovered s)).grants cfg fire allot hs

end Sys2Proof.Machine
end

section
/-! ## TRANSMIT_START (O56) -/

namespace Sys2Proof.Machine

/-! ### The class that is taken (R172, R173) -/

section
variable (s : State)

/-- The oldest entry that owes a frame, an owed OFFER only without giver suspension (R134). -/
theorem owingEntry_eq :
    owingEntry s = s.custody.entries.find? (fun e => decide (e.owed ≠ none ∧
      (e.owed = some .offer → s.custody.suspended = false))) := by
  refine congrArg (s.custody.entries.find? ·) (funext fun e => ?_)
  cases e.owed with
  | none => simp
  | some o => cases o <;> simp

theorem handoverWaiting_of_reply {r : Reply} {rs : List Reply} (h : s.custody.replies = r :: rs) :
    handoverWaiting s = true := by
  simp [handoverWaiting, h]

theorem handoverWaiting_of_owing {e : CustodyEntry} (h : owingEntry s = some e) : handoverWaiting s = true := by
  simp [handoverWaiting, h]

theorem handoverWaiting_of_none (hr : s.custody.replies = []) (he : owingEntry s = none) : handoverWaiting s = false := by
  simp [handoverWaiting, hr, he]

/-- No frame of a class lower than the one named waits. -/
def NothingBefore (c : TxClass) (s : State) : Prop := ∀ d : TxClass, d.index < c.index → classWaiting s d = false

variable {s}

theorem lowestWaiting_of_waiting {c : TxClass} (before : NothingBefore c s) (h : classWaiting s c = true) :
    lowestWaiting s = some c := by
  unfold lowestWaiting txClasses
  cases c with
  | alarm => simp [h]
  | handover => simp [h, before .alarm (by decide)]
  | answer => simp [h, before .alarm (by decide), before .handover (by decide)]
  | report => simp [h, before .alarm (by decide), before .handover (by decide), before .answer (by decide)]
  | state =>
    simp [h, before .alarm (by decide), before .handover (by decide), before .answer (by decide),
      before .report (by decide)]

theorem nothingBefore_alarm : NothingBefore .alarm s := fun _ h => absurd h (Nat.not_lt_zero _)

theorem nothingBefore_handover (h : s.line.alarmQueued = false) : NothingBefore .handover s := by
  intro d hd
  cases d with
  | alarm => exact h
  | handover | answer | report | state => exact absurd hd (by decide)

theorem nothingBefore_answer (h : s.line.alarmQueued = false) (retry : s.line.handoverRetry = none)
    (replies : s.custody.replies = []) (owing : owingEntry s = none) : NothingBefore .answer s := by
  intro d hd
  cases d with
  | alarm => exact h
  | handover => simp [classWaiting, retry, handoverWaiting_of_none s replies owing]
  | answer | report | state => exact absurd hd (by decide)

theorem nothingBefore_report (before : NothingBefore .answer s) (retry : s.line.answerRetry = none)
    (answers : s.line.answers = []) : NothingBefore .report s := by
  intro d hd
  cases d with
  | alarm => exact before .alarm (by decide)
  | handover => exact before .handover (by decide)
  | answer => simp [classWaiting, retry, answers]
  | report | state => exact absurd hd (by decide)

theorem nothingBefore_state (before : NothingBefore .report s) (retry : s.line.reportRetry = none)
    (reports : s.line.reports = []) : NothingBefore .state s := by
  intro d hd
  cases d with
  | alarm => exact before .alarm (by decide)
  | handover => exact before .handover (by decide)
  | answer => exact before .answer (by decide)
  | report => simp [classWaiting, retry, reports]
  | state => exact absurd hd (by decide)

theorem lowestWaiting_of_none (before : NothingBefore .state s) (h : s.line.stateQueued = false) :
    lowestWaiting s = none := by
  have state : classWaiting s .state = false := h
  simp [lowestWaiting, txClasses, before .alarm (by decide), before .handover (by decide), before .answer (by decide),
    before .report (by decide), state]

end

/-! ### The event -/

section
variable (s : State)

/-- The taking of a frame leaves the fire record, so it queues no ALARM (R43). -/
theorem exec_transmitStart (idle : Nat) (run : s.phase = .running) :
    exec (.transmitStart idle) s = .next (transmitStart idle s) := by
  have frame : (transmitStart idle s).fire = s.fire ∧ (transmitStart idle s).cfg = s.cfg := by
    unfold transmitStart takeClass takeAlarmSlot takeStateSlot takeHandover takeOwed takeAnswer takeReport
    repeat' split
    all_goals exact ⟨rfl, rfl⟩
  exact runEvent_of_fire_eq run frame.1 frame.2

/-- The transmitter is free and the station may send (R173). -/
structure MaySend (s : State) : Prop where
  run : s.phase = .running
  tx : s.line.tx = none
  stuck : troubleActive .lineStuck s = false
  strap : troubleActive .strapInvalid s = false

variable {s} {c : TxClass}

theorem exec_transmitStart_of_waiting (idle : Nat) (send : MaySend s) (before : NothingBefore c s)
    (h : classWaiting s c = true) :
    exec (.transmitStart idle) s =
      .next (if 4 + 36 * c.index + ownNumber s ≤ idle then takeClass c s else s) := by
  have free : transmitterFree s = true := by simp [transmitterFree, send.tx, send.stuck, send.strap]
  rw [exec_transmitStart s idle send.run, transmitStart, if_pos free, lowestWaiting_of_waiting before h]
  rfl

theorem exec_transmitStart_of_nothing (idle : Nat) (send : MaySend s) (h : lowestWaiting s = none) :
    exec (.transmitStart idle) s = .next s := by
  rw [exec_transmitStart s idle send.run, transmitStart, h]
  exact congrArg Host.Outcome.next (ite_self s)

theorem exec_transmitStart_of_busy (idle : Nat) (run : s.phase = .running)
    (h : s.line.tx.isSome = true ∨ troubleActive .lineStuck s = true ∨ troubleActive .strapInvalid s = true) :
    exec (.transmitStart idle) s = .next s := by
  have busy : transmitterFree s = false := by
    rcases h with h | h | h
    · obtain ⟨x, hx⟩ := Option.isSome_iff_exists.1 h
      simp [transmitterFree, hx]
    · simp [transmitterFree, h]
    · simp [transmitterFree, h]
  rw [exec_transmitStart s idle run, transmitStart, if_neg (by simp [busy])]

end

/-! ### The payloads (13_frame_and_record_formats.md) -/

section
variable (s : State)

theorem flagBit_eq (b : Bool) (i : Nat) : flagBit b i = if b = true then 2 ^ i else 0 := rfl

theorem alarmFlags_eq :
    alarmFlags s =
      (if s.fire.state ≠ .test ∧ ownAbortActive s = true then 1 else 0) + (if s.fire.manual then 2 else 0) := by
  unfold alarmFlags reportedFire
  by_cases h : s.fire.state = .test <;> simp [h, flagBit_eq]

theorem alarmPayload_eq :
    alarmPayload s =
      [toByte s.fire.state.code, toByte (if s.fire.state = .test then 0 else ownAlarmCount s),
        toByte (if s.fire.state = .preDischarge then s.fire.countdown.getD 0 else 0),
        toByte ((if s.fire.state ≠ .test ∧ ownAbortActive s = true then 1 else 0) + (if s.fire.manual then 2 else 0)),
        toByte s.cfg.spaceGroup] := by
  rw [alarmPayload, alarmFlags_eq]
  rfl

theorem roleCode_eq (r : Role) : roleCode r = if r = .bay then 1 else 2 := by cases r <;> rfl

theorem statePayload_eq :
    statePayload s =
      [toByte (if s.role = .bay then 1 else 2), toByte s.cfg.spaceGroup] ++ [toByte s.fire.state.code,
        toByte (if s.fire.state = .test then 0 else ownAlarmCount s),
          toByte (if s.fire.state = .preDischarge then s.fire.countdown.getD 0 else 0)] ++
       [toByte ((if s.fire.state ≠ .test ∧ ownAbortActive s = true then 1 else 0) + (if s.fire.manual then
         2 else 0) + (if s.allot.running then 4 else 0) +
          (if s.allot.request then 8 else 0) + (if s.line.reportsLost then 16 else 0) +
          (if s.climate.bay.isSome then 32 else 0)),
        toByte (s.out.active.toNat / 2 ^ 24), toByte (s.out.active.toNat / 2 ^ 16),
        toByte (s.out.active.toNat / 2 ^ 8), toByte s.out.active.toNat, toByte s.climate.state.code] ++
       bytes16 ((s.climate.bay.map fun b => b.rh).getD 0) ++
       signedBytes16 ((s.climate.bay.map fun b => b.t).getD 0) ++ bytes16 (excess s) ++
       [toByte s.custody.entries.length, toByte s.consignments.length] := by
  have rh : (bayOrZero s.climate.bay).rh = (s.climate.bay.map fun b => b.rh).getD 0 := by cases s.climate.bay <;> rfl
  have t : (bayOrZero s.climate.bay).t = (s.climate.bay.map fun b => b.t).getD 0 := by cases s.climate.bay <;> rfl
  rw [← rh, ← t, ← alarmFlags_eq, ← roleCode_eq]
  rfl

/-- An answer begins with its subject and its start (R180). -/
theorem answerFrame_begins (q : Query) :
    (answerFrame q s).frame.payload.take 2 = [toByte q.subject.code, toByte q.start] := rfl

theorem checkGood_buildFrame (kind : Byte) (dst src : Nat) (payload : List Byte) :
    checkGood kind (buildFrame kind dst src payload).frame = true := beq_self_eq_true _

end

/-! ### The frames taken -/

section
variable {s : State}

theorem takeHandover_of_refuse {r : Reply} {rs : List Reply} {why : RefuseReason} (retry : s.line.handoverRetry = none)
    (h : s.custody.replies = r :: rs) (hk : r.kind = .refuse why) :
    takeClass .handover s =
      { s with
        custody := { s.custody with replies := rs },
        line := { s.line with
          tx := some {
            cls := .handover,
            sent := buildFrame kindRefuse r.dst (ownNumber s) (bytes16 r.consignment ++ tagBytes r.tag ++
              [toByte why.code]),
            carriesLost := false } } } := by
  simp only [takeClass, retry, takeHandover, h, replyFrame, hk]
  rfl

theorem takeHandover_of_late {r : Reply} {rs : List Reply} (retry : s.line.handoverRetry = none)
    (h : s.custody.replies = r :: rs) (hk : r.kind = .late) :
    takeClass .handover s =
      { s with
        custody := { s.custody with replies := rs },
        line := { s.line with
          tx := some {
            cls := .handover,
            sent := buildFrame kindLate r.dst (ownNumber s) (bytes16 r.consignment ++ tagBytes r.tag),
            carriesLost := false } } } := by
  simp only [takeClass, retry, takeHandover, h, replyFrame, hk]
  rfl

theorem afterTaken_eq (o : OwedFrame) (window : Nat) (x : CustodyEntry) :
    afterTaken o window x =
      { x with
        owed := none, state := if o = .offer then .offered else x.state,
        timer := if o = .offer then some window else if o = .taken then some 2 else x.timer } := by
  cases o <;> rfl

/-- The custody list once an owed frame is taken (R134). -/
theorem takeOwed_eq (o : OwedFrame) (e : CustodyEntry) :
    takeOwed o e s =
      { s with custody := { s.custody with
          entries := (if o = .cleared ∧ e.state = .released ∧ e.consignment = none then
            s.custody.entries.filter fun x => x.tag != e.tag else s.custody.entries.map fun x => if x.tag =
              e.tag then { x with
              owed := none,
              state := if o = .offer then .offered else x.state,
              timer := (if o = .offer then some s.cfg.handoverWindow else if o = .taken then some 2 else
                x.timer) } else x) } } := by
  unfold takeOwed
  simp only [Option.isNone_iff_eq_none]
  split
  · rfl
  · simp only [updateCustody, afterTaken_eq]
    rfl

theorem owedPayload_eq (o : OwedFrame) (role : Role) (e : CustodyEntry) :
    owedPayload o role e = bytes16 (e.consignment.getD 0) ++ tagBytes e.tag ++ (if o = .offer then
      [toByte (if role = .dock then e.slot.getD 0 else 0)] ++ bytes16 e.hold ++ [toByte (if e.quarantine then 1 else 0)]
      else []) := rfl

theorem takeHandover_of_owed {e : CustodyEntry} {o : OwedFrame} (retry : s.line.handoverRetry = none)
    (replies : s.custody.replies = []) (owing : owingEntry s = some e) (ho : e.owed = some o) :
    takeClass .handover s =
      { takeOwed o e s with
        line := { s.line with
          tx := some {
            cls := .handover,
            sent := buildFrame o.kind (e.peer.getD 0) (ownNumber s) (owedPayload o s.role e),
            carriesLost := false } } } := by
  simp only [takeClass, retry, takeHandover, replies, owing, ho, owedFrame]
  rfl

theorem takeAnswer_of_query {q : Query} {qs : List Query} (retry : s.line.answerRetry = none)
    (h : s.line.answers = q :: qs) :
    takeClass .answer s =
      { s with
        line := { s.line with answers := qs,
                              tx := some { cls := .answer, sent := answerFrame q s, carriesLost := false } },
        freeCount := s.freeCount + countFree (answerBytes q s) } := by
  simp only [takeClass, retry, takeAnswer, h]
  rfl

theorem takeReport_of_report {r : Report} {rs : List Report} (retry : s.line.reportRetry = none)
    (h : s.line.reports = r :: rs) :
    takeClass .report s =
      { s with
        line := { s.line with
          reports := rs,
          tx := some {
            cls := .report,
            sent := buildFrame kindReport s.cfg.console (ownNumber s) (reportPayload r),
            carriesLost := false } } } := by
  simp only [takeClass, retry, takeReport, h, reportFrame]
  rfl

end

/-- Settles O56: the lowest class by what waits before it, and what the taking of its frame writes. -/
theorem transmitStartTakesTheLowestClassAtItsGap : Obligations.TransmitStartTakesTheLowestClassAtItsGap := by
  unfold Obligations.TransmitStartTakesTheLowestClassAtItsGap
  simp only [← owingEntry_eq]
  refine ⟨fun s idle run tx stuck strap alarm => ?alarm,
    fun s idle g run tx stuck strap alarm retry => ?handoverRetry,
    fun s idle r rs why run tx stuck strap alarm retry replies kind => ?refuse,
    fun s idle r rs run tx stuck strap alarm retry replies kind => ?late,
    fun s idle e o run tx stuck strap alarm retry replies owing ho => ?owed,
    fun s idle g run tx stuck strap alarm retry replies owing answer => ?answerRetry,
    fun s idle q qs run tx stuck strap alarm retry replies owing answer answers => ?answer,
    fun s idle g run tx stuck strap alarm retry replies owing answer answers report => ?reportRetry,
    fun s idle r rs run tx stuck strap alarm retry replies owing answer answers report reports => ?report,
    fun s idle run tx stuck strap alarm retry replies owing answer answers report reports state => ?state,
    fun s idle run tx stuck strap alarm retry replies owing answer answers report reports state => ?nothing,
    fun s idle run busy => exec_transmitStart_of_busy idle run busy⟩
  case alarm =>
    rw [exec_transmitStart_of_waiting idle ⟨run, tx, stuck, strap⟩ nothingBefore_alarm alarm, ← alarmPayload_eq]
    rfl
  case handoverRetry =>
    rw [exec_transmitStart_of_waiting (c := .handover) idle ⟨run, tx, stuck, strap⟩ (nothingBefore_handover alarm)
      (by simp [classWaiting, retry])]
    simp only [takeClass, retry]
    rfl
  case refuse =>
    rw [exec_transmitStart_of_waiting (c := .handover) idle ⟨run, tx, stuck, strap⟩ (nothingBefore_handover alarm)
      (by simp [classWaiting, handoverWaiting_of_reply s replies]), takeHandover_of_refuse retry replies kind]
    rfl
  case late =>
    rw [exec_transmitStart_of_waiting (c := .handover) idle ⟨run, tx, stuck, strap⟩ (nothingBefore_handover alarm)
      (by simp [classWaiting, handoverWaiting_of_reply s replies]), takeHandover_of_late retry replies kind]
    rfl
  case owed =>
    rw [exec_transmitStart_of_waiting (c := .handover) idle ⟨run, tx, stuck, strap⟩ (nothingBefore_handover alarm)
      (by simp [classWaiting, handoverWaiting_of_owing s owing]), takeHandover_of_owed retry replies owing ho, takeOwed_eq,
      owedPayload_eq]
    rfl
  case answerRetry =>
    rw [exec_transmitStart_of_waiting (c := .answer) idle ⟨run, tx, stuck, strap⟩
      (nothingBefore_answer alarm retry replies owing) (by simp [classWaiting, answer])]
    simp only [takeClass, answer]
    rfl
  case answer =>
    refine ⟨_, exec_transmitStart_of_waiting (c := .answer) idle ⟨run, tx, stuck, strap⟩
      (nothingBefore_answer alarm retry replies owing) (by simp [classWaiting, answers]), ?_⟩
    rw [takeAnswer_of_query answer answers]
    have gap : 4 + 36 * TxClass.answer.index + ownNumber s = 76 + ownNumber s := rfl
    rw [gap]
    split
    · refine ⟨rfl, fun x hx => ?_, rfl, rfl⟩
      cases hx
      exact ⟨rfl, rfl, rfl, rfl, checkGood_buildFrame .., answerFrame_begins s q⟩
    · rfl
  case reportRetry =>
    rw [exec_transmitStart_of_waiting (c := .report) idle ⟨run, tx, stuck, strap⟩
      (nothingBefore_report (nothingBefore_answer alarm retry replies owing) answer answers)
      (by simp [classWaiting, report])]
    simp only [takeClass, report]
    rfl
  case report =>
    rw [exec_transmitStart_of_waiting (c := .report) idle ⟨run, tx, stuck, strap⟩
      (nothingBefore_report (nothingBefore_answer alarm retry replies owing) answer answers)
      (by simp [classWaiting, reports]), takeReport_of_report report reports]
    rfl
  case state =>
    rw [exec_transmitStart_of_waiting (c := .state) idle ⟨run, tx, stuck, strap⟩
      (nothingBefore_state (nothingBefore_report (nothingBefore_answer alarm retry replies owing) answer answers) report
        reports) state, ← statePayload_eq]
    rfl
  case nothing =>
    exact exec_transmitStart_of_nothing idle ⟨run, tx, stuck, strap⟩
      (lowestWaiting_of_none
        (nothingBefore_state (nothingBefore_report (nothingBefore_answer alarm retry replies owing) answer answers)
          report reports) state)

end Sys2Proof.Machine
end

section
/-! ## The ledger: what the limits of O11 speak of

The ledger of a station is its consignment table and its custody list, with whether its other lists, its counts and its
fixed records keep their sizes. The lemmas of this section, one for each operation in the order of the model's files, say
which operations leave it. -/

namespace Sys2Proof.Machine

/-- The lists beside the two tables are within their limits, the counts too, and the fixed records have their sizes. -/
def Sized (s : State) : Prop :=
  s.climate.history.length ≤ Config.historyMax ∧ s.custody.replies.length ≤ Config.replyMax ∧
  s.line.reports.length ≤ Config.reportMax ∧ s.line.answers.length ≤ Config.answerMax ∧
  OwedBounded s ∧ CheckCountsBounded s ∧ FixedSizes s

/-- What the limits speak of: whether the lists beside the tables are `Sized`, and the two tables. -/
structure Ledger where
  sized : Prop
  records : List Consignment
  entries : List CustodyEntry

/-- The ledger of a state. -/
def ledger (s : State) : Ledger :=
  { sized := Sized s, records := s.consignments, entries := s.custody.entries }

variable (s : State)

/-! ### Shared operations -/

theorem ledger_congr {s t : State} (hs : Sized t ↔ Sized s) (hc : t.consignments = s.consignments)
    (he : t.custody.entries = s.custody.entries) : ledger t = ledger s := by
  rw [ledger, ledger, propext hs, hc, he]

theorem foldl_ledger {α : Type} (f : State → α → State) (h : ∀ s a, ledger (f s a) = ledger s) (l : List α) :
    ∀ s : State, ledger (l.foldl f s) = ledger s := by
  induction l with
  | nil => exact fun _ => rfl
  | cons a l ih => exact fun s => (ih (f s a)).trans (h s a)

/-- A full queue drops its oldest report, so a queue is within its limit after a report just if it was before. -/
theorem pushReport_within (r : Report) (l : LineController) :
    (pushReport r l).reports.length ≤ Config.reportMax ↔ l.reports.length ≤ Config.reportMax := by
  refine ⟨fun h => ?_, pushReport_length r l⟩
  unfold pushReport at h
  split at h
  · omega
  · simp only [List.length_append, List.length_tail, List.length_singleton] at h
    omega

theorem pushReply_within (rs : List Reply) (r : Reply) :
    (pushReply rs r).length ≤ Config.replyMax ↔ rs.length ≤ Config.replyMax := by
  refine ⟨fun h => ?_, pushReply_length rs r⟩
  unfold pushReply at h
  split at h
  · exact h
  · simp only [List.length_append, List.length_singleton] at h
    omega

@[simp] theorem ledger_queueReport (r : Report) : ledger (queueReport r s) = ledger s := by
  refine ledger_congr ?_ (queueReport_consignments s r) (by rw [queueReport_custody])
  unfold queueReport
  split
  · simp only [Sized, OwedBounded, CheckCountsBounded, FixedSizes, pushReport_within]
    rw [onlyReports_pushReport r s.line]
  · rfl

@[simp] theorem ledger_queueReports (rs : List Report) : ledger (queueReports rs s) = ledger s :=
  foldl_ledger _ (by simp) rs s

@[simp] theorem ledger_refuseCommand (code : Byte) (n : Nat) (t : Tag) :
    ledger (refuseCommand code n t s) = ledger s := ledger_queueReport _ _

@[simp] theorem ledger_setReported (x : Trouble) (b : Bool) : ledger (setReported x b s) = ledger s := rfl
@[simp] theorem ledger_setActive (x : Trouble) (b : Bool) : ledger (setActive x b s) = ledger s := rfl

@[simp] theorem ledger_tellTrouble (x : Trouble) (b : Bool) : ledger (tellTrouble x b s) = ledger s := by
  simp [tellTrouble]

@[simp] theorem ledger_setTrouble (x : Trouble) (b : Bool) : ledger (setTrouble x b s) = ledger s := by
  unfold setTrouble; repeat' split
  all_goals simp

@[simp] theorem ledger_settleTroubles : ledger (settleTroubles s) = ledger s :=
  foldl_ledger _ (fun s x => by unfold settleTrouble; split <;> simp) _ s

@[simp] theorem ledger_queueAlarmIfChanged (a b : State) : ledger (queueAlarmIfChanged a b) = ledger b := by
  unfold queueAlarmIfChanged; split <;> rfl

@[simp] theorem ledger_setInput (i : InputNo) (r : InputRecord) : ledger (setInput i r s) = ledger s :=
  ledger_congr (by simp [Sized, CheckCountsBounded, FixedSizes]) rfl rfl

@[simp] theorem ledger_setLatch (i : InputNo) (l : Latch) : ledger (setLatch i l s) = ledger s :=
  ledger_congr (by simp [Sized, CheckCountsBounded, FixedSizes]) rfl rfl

/-! ### Allotter -/

@[simp] theorem ledger_startDehumidifier : ledger (startDehumidifier s) = ledger s := rfl
@[simp] theorem ledger_stopDehumidifier : ledger (stopDehumidifier s) = ledger s := rfl

@[simp] theorem ledger_evaluateGrant : ledger (evaluateGrant s) = ledger s := by unfold evaluateGrant; split <;> rfl

@[simp] theorem ledger_reevaluateForced : ledger (reevaluateForced s) = ledger s := by
  rw [reevaluateForced_frame]; rfl

@[simp] theorem ledger_allotSampleTaken : ledger (allotSampleTaken s) = ledger s := by
  rw [allotSampleTaken_frame]; rfl

@[simp] theorem ledger_minRunExpired : ledger (minRunExpired s) = ledger s := by
  unfold minRunExpired; dsimp only; repeat' split
  all_goals rfl

@[simp] theorem ledger_minOffExpired : ledger (minOffExpired s) = ledger s := by
  unfold minOffExpired; split
  · rfl
  · exact ledger_evaluateGrant _

/-! ### Replies, holds and slots -/

@[simp] theorem ledger_addReply (r : Reply) : ledger (addReply r s) = ledger s :=
  ledger_congr (by simp [Sized, CheckCountsBounded, FixedSizes, pushReply_within]) rfl rfl

@[simp] theorem ledger_countHoldsDown : ledger (countHoldsDown s) = ledger s := ledger_queueReports _ _

@[simp] theorem ledger_minuteOver : ledger (minuteOver s) = ledger s := by
  unfold minuteOver; split
  · rfl
  · exact ledger_countHoldsDown s

@[simp] theorem ledger_judgePause : ledger (judgePause s) = ledger s := by
  unfold judgePause; dsimp only; split
  · exact ledger_countHoldsDown _
  · rfl

@[simp] theorem ledger_mapSlots (f : Slot → Slot) : ledger (mapSlots f s) = ledger s := rfl
@[simp] theorem ledger_updateSlot (n : Nat) (f : Slot → Slot) : ledger (updateSlot n f s) = ledger s := rfl
@[simp] theorem ledger_giveTag (n : Nat) (t : Tag) : ledger (giveTag n t s) = ledger s := rfl
@[simp] theorem ledger_withSlots (l : List Slot) : ledger (withSlots l s) = ledger s := rfl

theorem ledger_verifyRequest {n : Nat} {t : Tag} {s v : State} (h : verifyRequest n t s = some v) :
    ledger v = ledger s := by
  unfold verifyRequest at h
  repeat' split at h
  all_goals cases h
  simp

theorem ledger_returnRequest {n : Nat} {t : Tag} {s v : State} (h : returnRequest n t s = some v) :
    ledger v = ledger s := by
  unfold returnRequest at h
  repeat' split at h
  all_goals cases h
  simp

@[simp] theorem ledger_revertRequest (num : Nat) : ledger (revertRequest num s) = ledger s := by
  simp [revertRequest]

/-! ### Inputs and the fire controller -/

/-- A move of the fire state leaves the ledger. -/
theorem ledger_of_beyondMove {s t : State} (h : beyondMove t = beyondMove s) : ledger t = ledger s :=
  show ledger (beyondMove t) = ledger (beyondMove s) by rw [h]

@[simp] theorem ledger_evaluateFire : ledger (evaluateFire s) = ledger s :=
  ledger_of_beyondMove (beyondMove_evaluateFire s)

@[simp] theorem ledger_enterDischarged : ledger (enterDischarged s) = ledger s :=
  ledger_of_beyondMove (beyondMove_enterDischarged s)

@[simp] theorem ledger_moveFire (f : FireState) : ledger (moveFire f s) = ledger s := rfl
@[simp] theorem ledger_setCountdown (n : Nat) : ledger (setCountdown n s) = ledger s := rfl
@[simp] theorem ledger_setManual (b : Bool) : ledger (setManual b s) = ledger s := rfl
@[simp] theorem ledger_withAborts (l : List InputNo) : ledger (withAborts l s) = ledger s := rfl
@[simp] theorem ledger_closeEpisode : ledger (closeEpisode s) = ledger s := rfl
@[simp] theorem ledger_applyPostFireHolds : ledger (applyPostFireHolds s) = ledger s := rfl
@[simp] theorem ledger_sounderAfterMove : ledger (sounderAfterMove s) = ledger s := rfl

@[simp] theorem ledger_reverify (i : InputNo) : ledger (reverify i s) = ledger s := ledger_setInput s _ _

@[simp] theorem ledger_reverifyAll (is : List InputNo) : ledger (reverifyAll is s) = ledger s :=
  foldl_ledger _ (by simp) is s

@[simp] theorem ledger_endStabilization : ledger (endStabilization s) = ledger s :=
  (ledger_settleTroubles _).trans (foldl_ledger _ (by simp) _ _)

@[simp] theorem ledger_manualRule : ledger (manualRule s) = ledger s := by
  have moved := ledger_of_beyondMove (beyondMove_manualMove s)
  rw [manualRule_eq]; split <;> simp [moved]

@[simp] theorem ledger_testAlarm (i : InputNo) : ledger (testAlarm i s) = ledger s := ledger_queueReport _ _

@[simp] theorem ledger_actOnAlarm (i : InputNo) : ledger (actOnAlarm i s) = ledger s := by
  unfold actOnAlarm; repeat' split
  all_goals simp

@[simp] theorem ledger_clearLatches (is : List InputNo) : ledger (clearLatches is s) = ledger s :=
  foldl_ledger _ (by simp) is s

@[simp] theorem ledger_endTest : ledger (endTest s) = ledger s := by
  have cleared : ledger (clearedByTestEnd s) = ledger (reverifyAll (testLatched s) (clearLatches (testLatched s) s)) := rfl
  simp [endTest_eq, cleared]

@[simp] theorem ledger_clearForReset : ledger (clearForReset s) = ledger s :=
  ledger_congr (by simp [Sized, clearForReset]) rfl rfl

@[simp] theorem ledger_acceptReset : ledger (acceptReset s) = ledger s := by
  unfold acceptReset; dsimp only
  rw [ledger_evaluateFire, ledger_moveFire]
  split <;> split <;> simp

@[simp] theorem ledger_adopt (p : PeerFire) : ledger (adopt p s) = ledger s := by
  unfold adopt; repeat' split
  all_goals simp

@[simp] theorem ledger_samePeerUpdate (before : Option PeerFire) (now : PeerFire) :
    ledger (samePeerUpdate before now s) = ledger s := by
  unfold samePeerUpdate; split <;> simp

@[simp] theorem ledger_silenceCommand : ledger (silenceCommand s) = ledger s := by
  unfold silenceCommand; split
  · rfl
  · simp

@[simp] theorem ledger_setIsolation (b : Bool) : ledger (setIsolation b s) = ledger s := ledger_setTrouble _ _ _

@[simp] theorem ledger_isolateState : ledger (isolateState s) = ledger s := by
  unfold isolateState; split <;> rfl

@[simp] theorem ledger_testLatchOver (i : InputNo) : ledger (testLatchOver i s) = ledger s := by
  unfold testLatchOver; split <;> simp

@[simp] theorem ledger_cadenceOver : ledger (cadenceOver s) = ledger s := by unfold cadenceOver; split <;> rfl

@[simp] theorem ledger_bandTroubles (i : InputNo) (b : Band) : ledger (bandTroubles i b s) = ledger s := by
  simp [bandTroubles]

/-! ### Climate and conversions -/

/-- A full ring loses its oldest record, so it is within its limit after a record just if it was before. -/
theorem pushHistory_within (h : List HistoryRecord) (r : HistoryRecord) :
    (pushHistory h r).length ≤ Config.historyMax ↔ h.length ≤ Config.historyMax := by
  unfold pushHistory
  split
  · simp only [List.length_append, List.length_singleton]
    omega
  · next full =>
    simp only [Config.historyMax] at full
    simp only [List.length_append, List.length_tail, List.length_singleton]
    omega

theorem ledger_setExcursion (e : ExcursionState) (n : Option Nat) : ledger (setExcursion e n s) = ledger s := rfl

@[simp] theorem ledger_beginDelay (b : Bay) : ledger (beginDelay b s) = ledger s := by
  unfold beginDelay; split <;> simp [ledger_setExcursion]

@[simp] theorem ledger_sampleExcursion (c : ClimateState) : ledger (sampleExcursion c s) = ledger s := by
  unfold sampleExcursion judgeExcursion; repeat' split
  all_goals simp [ledger_setExcursion]

@[simp] theorem ledger_sampleHistory (e : ExcursionState) : ledger (sampleHistory e s) = ledger s := by
  unfold sampleHistory; dsimp only; split
  · exact ledger_congr (by simp only [Sized, pushHistory_within]) rfl rfl
  · rfl

theorem combined_history (cfg : Settings) (a b : Option Bay) (c : ClimateRecord) :
    (combined cfg a b c).history = c.history := by
  unfold combined bothFaulted
  repeat' split
  all_goals rfl

@[simp] theorem ledger_sampleCombined (a b : Option Bay) : ledger (sampleCombined a b s) = ledger s := by
  have written : ledger { s with climate := combined s.cfg a b s.climate } = ledger s :=
    ledger_congr (by simp only [Sized, combined_history]) rfl rfl
  simp [sampleCombined, sampleTroubles, written]

@[simp] theorem ledger_takeSample (a b : Option Bay) : ledger (takeSample a b s) = ledger s := by
  rw [takeSample_eq, sampleNotices, ledger_allotSampleTaken, ledger_judgePause]
  change ledger (sampleRecorded a b s) = _
  simp [sampleRecorded]

@[simp] theorem ledger_climateHoldOver : ledger (climateHoldOver s) = ledger s := by
  unfold climateHoldOver; dsimp only; split
  · rw [ledger_judgePause, ledger_reevaluateForced, ledger_setTrouble]
    rfl
  · rfl

@[simp] theorem ledger_excursionDelayOver : ledger (excursionDelayOver s) = ledger s := by
  unfold excursionDelayOver; split <;> simp [ledger_setExcursion]

@[simp] theorem ledger_wakeArbiter : ledger (wakeArbiter s) = ledger s := by rw [wakeArbiter_eq]; rfl
@[simp] theorem ledger_beginNext : ledger (beginNext s) = ledger s := by rw [beginNext_eq]; rfl

@[simp] theorem ledger_continueScan (i : InputNo) : ledger (continueScan i s) = ledger s := by
  rw [continueScan_frame]; rfl

@[simp] theorem ledger_climateTimerOver : ledger (climateTimerOver s) = ledger s := by
  have reloaded : ledger (climateReloaded s) = ledger s := rfl
  change ledger (requestSequence (climateReloaded s)) = _
  rw [← reloaded]
  generalize climateReloaded s = u
  unfold requestSequence; repeat' split
  · rw [ledger_wakeArbiter]
    rfl
  · refine ledger_congr ?_ rfl rfl
    have within : u.sup.owed + 1 ≤ Config.owedMax ↔ u.sup.owed ≤ Config.owedMax := by omega
    simp only [Sized, OwedBounded, within]
  · simp

/-! ### Slot scan -/

@[simp] theorem ledger_removal (sl : Slot) : ledger (removal sl s) = ledger s := by
  unfold removal removeCartridge; repeat' split
  all_goals simp

@[simp] theorem ledger_inventoryStep (inv : Inventory) (x : Sense) : ledger (inventoryStep inv x s) = ledger s := by
  unfold inventoryStep finishInventory; dsimp only; split
  · rfl
  · split
    · rfl
    · rw [ledger_queueReport]
      rfl

@[simp] theorem ledger_returnWindowOver (n : Nat) : ledger (returnWindowOver n s) = ledger s := by
  unfold returnWindowOver; repeat' split
  all_goals simp

@[simp] theorem ledger_clearQuarantineAt (n : Nat) : ledger (clearQuarantineAt n s) = ledger s := by
  unfold clearQuarantineAt; repeat' split
  all_goals simp

/-! ### Reader -/

@[simp] theorem ledger_withReader (r : ReaderPort) : ledger (withReader r s) = ledger s := rfl
@[simp] theorem ledger_readerNext : ledger (readerNext s) = ledger s := rfl
@[simp] theorem ledger_requestSignal (x : Signal) : ledger (requestSignal x s) = ledger s := rfl

@[simp] theorem ledger_goodResponse : ledger (goodResponse s) = ledger s := by simp [goodResponse]

@[simp] theorem ledger_badResponse : ledger (badResponse s) = ledger s := by
  unfold badResponse; dsimp only; split <;> simp

@[simp] theorem ledger_unknownTag (k : TagKind) (t : Tag) : ledger (unknownTag k t s).1 = ledger s := by
  simp [unknownTag]

@[simp] theorem ledger_bayKnown (t : Tag) : ledger (bayKnown t s).1 = ledger s := by
  unfold bayKnown; split <;> simp

@[simp] theorem ledger_signalResponse (c : Byte) : ledger (signalResponse c s) = ledger s := by
  unfold signalResponse signalAnswered; repeat' split
  all_goals simp

@[simp] theorem ledger_responseTimeout : ledger (responseTimeout s) = ledger s := by
  unfold responseTimeout; split <;> simp

@[simp] theorem ledger_recoveryOver : ledger (recoveryOver s) = ledger s := by unfold recoveryOver; split <;> rfl

/-! ### Line -/

@[simp] theorem ledger_setReceiving (b : Bool) : ledger (setReceiving b s) = ledger s := rfl

@[simp] theorem ledger_setPeer (n : Nat) (p : Peer) : ledger (setPeer n p s) = ledger s :=
  ledger_congr (by simp [Sized, CheckCountsBounded, FixedSizes, setPeer]) rfl rfl

@[simp] theorem ledger_countDiscard : ledger (countDiscard s) = ledger s := by
  unfold countDiscard; dsimp only; split
  · rw [ledger_setTrouble]; rfl
  · rfl

@[simp] theorem ledger_countMismatch : ledger (countMismatch s) = ledger s := by
  unfold countMismatch; dsimp only; split
  · rw [ledger_setTrouble]; rfl
  · rfl

@[simp] theorem ledger_stationConflict : ledger (stationConflict s) = ledger s := ledger_setTrouble _ _ _

@[simp] theorem ledger_takeQuery (n : Nat) (p : List Byte) : ledger (takeQuery n p s) = ledger s := by
  unfold takeQuery; split
  · split
    · refine ledger_congr ?_ rfl rfl
      have within : s.line.answers.length + 1 ≤ Config.answerMax ↔ s.line.answers.length ≤ Config.answerMax := by omega
      simp only [Sized, withLine_line, List.length_append, List.length_singleton, within]
      rfl
    · rfl
  · rfl

@[simp] theorem ledger_failReadback : ledger (failReadback s) = ledger s := by
  unfold failReadback; split
  case h_1 t _ =>
    rw [ledger_countMismatch]
    unfold retryFrame
    split <;> rfl
  case h_2 => rfl

@[simp] theorem ledger_frameGap : ledger (frameGap s) = ledger s := by unfold frameGap; split <;> simp

@[simp] theorem ledger_lineStuck (b : Bool) : ledger (lineStuck b s) = ledger s := by
  unfold lineStuck; dsimp only; rw [ledger_failReadback]; split <;> simp

@[simp] theorem ledger_closeWindow : ledger (closeWindow s) = ledger s := by
  unfold closeWindow; dsimp only; split
  · exact Eq.trans rfl (ledger_setTrouble s .lineNoisy false)
  · rfl

@[simp] theorem ledger_conflictOver : ledger (conflictOver s) = ledger s := by
  unfold conflictOver; split
  · exact ledger_setTrouble _ _ _
  · rfl

@[simp] theorem ledger_frameSent : ledger (frameSent s) = ledger s := by unfold frameSent; split <;> rfl

/-! ### Contacts -/

@[simp] theorem ledger_doorSettled (b : Bool) : ledger (doorSettled b s) = ledger s := by
  unfold doorSettled doorForced; dsimp only; split
  · exact ledger_queueReport _ _
  · rfl

@[simp] theorem ledger_mainsSettled (b : Bool) : ledger (mainsSettled b s) = ledger s := by
  unfold mainsSettled mainsFailed mainsNormal; repeat' split
  · rw [ledger_reevaluateForced, ledger_setTrouble]; rfl
  all_goals rfl

@[simp] theorem ledger_mainsCleared : ledger (mainsCleared s) = ledger s := by
  unfold mainsCleared; split
  · rw [ledger_reevaluateForced, ledger_setTrouble]; rfl
  · rfl

end Sys2Proof.Machine
end

section
/-! ## What becomes of the ledger

`Loose` says of two ledgers that the second keeps what the first keeps of O11 but the owed OFFERs, `Kept` that it keeps
those too: an operation that changes what a HELD entry owes is loose until the offering rule is looked at again (R135). -/

namespace Sys2Proof.Machine

/-! ### The conditions on a ledger -/

/-- A record's timers are where `RecordTimersPlaced` has them (R111). -/
def Consignment.timersPlaced (r : Consignment) : Prop :=
  (r.openingTimer.isSome = true → r.state = .opening) ∧ (r.deadlineTimer.isSome = true → r.state ≠ .opening) ∧
  (r.courierTimer.isSome = true → r.state = .courierPresent ∨ r.state = .receiving)

/-- A HELD entry owes what the offering rule says, for a table in which the records of some numbers are RECEIVING
(R135). -/
def CustodyEntry.settledFor (receiving : Nat → Bool) (e : CustodyEntry) : Prop :=
  e.state = .held →
    e.owed = if (∃ n ∈ e.consignment, receiving n = false) ∧ e.peer.isSome = true ∧ e.wait = .none then some .offer else none

namespace Ledger

/-- The record of a number is in the table and RECEIVING (R135). -/
def receiving (c : Ledger) (n : Nat) : Bool := c.records.any fun r => r.number == n && r.state == .receiving

/-- No number in two records, no tag in two entries (R111, R131). -/
def Distinct (c : Ledger) : Prop := (c.records.map fun r => r.number).Nodup ∧ (c.entries.map fun e => e.tag).Nodup

/-- The two tables are within their limits, and so are the entries of every record (R111, R131). -/
def Bounded (c : Ledger) : Prop :=
  c.records.length ≤ Config.consignmentMax ∧ c.entries.length ≤ Config.custodyMax ∧
  ∀ r ∈ c.records, r.entries.length ≤ Config.entryMax

def TimersPlaced (c : Ledger) : Prop := ∀ r ∈ c.records, r.timersPlaced

def OffersSettled (c : Ledger) : Prop := ∀ e ∈ c.entries, e.settledFor c.receiving

/-- Every custody entry given what it owes by the offering rule. -/
def settle (c : Ledger) : Ledger :=
  { c with entries := c.entries.map fun e =>
      if e.state = .held then
        { e with owed := if (∃ n ∈ e.consignment, c.receiving n = false) ∧ e.peer.isSome = true ∧ e.wait = .none
                 then some .offer else none }
      else e }

end Ledger

theorem offerOwed_iff (s : State) (e : CustodyEntry) :
    offerOwed s e = true ↔
      (∃ n ∈ e.consignment, (ledger s).receiving n = false) ∧ e.peer.isSome = true ∧ e.wait = .none := by
  unfold offerOwed
  cases e.consignment with
  | none => simp
  | some n =>
    simp only [Bool.and_eq_true, Bool.not_eq_true', beq_iff_eq, Option.mem_def, Option.some.injEq, exists_eq_left']
    exact and_comm

/-- What the limits of O11 say of a state, on its ledger. -/
theorem limits_ledger (s : State) :
    (ListsBounded s ∧ OwedBounded s ∧ CheckCountsBounded s ∧ FixedSizes s) ↔ (ledger s).sized ∧ (ledger s).Bounded := by
  simp only [ledger, Sized, Ledger.Bounded]
  tauto

theorem distinct_ledger (s : State) : (RecordNumbersDistinct s ∧ CustodyTagsDistinct s) ↔ (ledger s).Distinct := Iff.rfl

theorem timersPlaced_ledger (s : State) : RecordTimersPlaced s ↔ (ledger s).TimersPlaced := Iff.rfl

theorem offersSettled_ledger (s : State) : OffersSettled s ↔ (ledger s).OffersSettled := by
  simp only [OffersSettled, Ledger.OffersSettled, CustodyEntry.settledFor, offerOwed_iff]
  rfl

theorem ledger_settleOffers (s : State) : ledger (settleOffers s) = (ledger s).settle := by
  have settled : settleOffer s = fun e =>
      if e.state = .held then
        { e with owed := if (∃ n ∈ e.consignment, (ledger s).receiving n = false) ∧ e.peer.isSome = true ∧ e.wait = .none
                 then some .offer else none }
      else e := by
    funext e
    simp only [settleOffer, offerOwed_iff]
  have entries : (settleOffers s).custody.entries = (ledger s).settle.entries :=
    congrArg (fun f => s.custody.entries.map f) settled
  have sized : Sized (settleOffers s) = Sized s := rfl
  rw [ledger, sized, entries]
  rfl

/-! ### The two relations -/

/-- The second ledger keeps the limits of the first, its distinct numbers and tags and its timers. -/
structure Loose (c d : Ledger) : Prop where
  sized : c.Distinct → c.sized → d.sized
  distinct : c.Distinct → d.Distinct
  bounded : c.Distinct → c.Bounded → d.Bounded
  timers : c.Distinct → c.TimersPlaced → d.TimersPlaced

/-- The second ledger keeps, too, that every HELD entry owes what the offering rule says. -/
structure Kept (c d : Ledger) : Prop extends Loose c d where
  offers : c.Distinct → c.TimersPlaced → c.OffersSettled → d.OffersSettled

section
variable {c d e : Ledger}

theorem Loose.trans (h : Loose c d) (k : Loose d e) : Loose c e where
  sized hd := k.sized (h.distinct hd) ∘ h.sized hd
  distinct := k.distinct ∘ h.distinct
  bounded hd := k.bounded (h.distinct hd) ∘ h.bounded hd
  timers hd := k.timers (h.distinct hd) ∘ h.timers hd

theorem Kept.trans (h : Kept c d) (k : Kept d e) : Kept c e where
  toLoose := h.toLoose.trans k.toLoose
  offers hd ht := k.offers (h.distinct hd) (h.timers hd ht) ∘ h.offers hd ht

theorem Kept.refl (c : Ledger) : Kept c c :=
  ⟨⟨fun _ => id, id, fun _ => id, fun _ => id⟩, fun _ _ => id⟩

theorem Kept.of_eq (h : d = c) : Kept c d := h ▸ .refl c

/-- A proof may use that the numbers and the tags are distinct. -/
theorem Kept.of_distinct (h : c.Distinct → Kept c d) : Kept c d where
  sized hd := (h hd).sized hd
  distinct hd := (h hd).distinct hd
  bounded hd := (h hd).bounded hd
  timers hd := (h hd).timers hd
  offers hd := (h hd).offers hd

end

/-! ### Records -/

/-- A record changed: its number stays, its entries stay within their limit, its timers where they belong. -/
structure RecordKept (r r' : Consignment) : Prop where
  number : r'.number = r.number
  entries : r.entries.length ≤ Config.entryMax → r'.entries.length ≤ Config.entryMax
  timers : r.timersPlaced → r'.timersPlaced

namespace Ledger

/-- The record of one number changed. -/
def updateRecord (n : Nat) (f : Consignment → Consignment) (c : Ledger) : Ledger :=
  { c with records := c.records.map fun r => if r.number = n then f r else r }

/-- The record of one number removed. -/
def removeRecord (n : Nat) (c : Ledger) : Ledger := { c with records := c.records.filter fun r => r.number != n }

end Ledger

section
variable {c : Ledger} {n : Nat} {f : Consignment → Consignment}

theorem loose_updateRecord (h : ∀ r ∈ c.records, r.number = n → RecordKept r (f r)) : Loose c (c.updateRecord n f) := by
  have each (r) (hr : r ∈ c.records) : RecordKept r (if r.number = n then f r else r) := by
    split
    case isTrue hn => exact h r hr hn
    case isFalse => exact ⟨rfl, id, id⟩
  refine ⟨fun _ => id, fun hd => ⟨?_, hd.2⟩, fun _ hb => ⟨?_, hb.2.1, ?_⟩, fun _ ht => ?_⟩
  · have numbers : (c.updateRecord n f).records.map (fun r => r.number) = c.records.map fun r => r.number := by
      rw [Ledger.updateRecord, List.map_map]
      exact List.map_congr_left fun r hr => (each r hr).number
    rw [numbers]
    exact hd.1
  · rw [Ledger.updateRecord, List.length_map]
    exact hb.1
  · exact List.forall_mem_map.2 fun r hr => (each r hr).entries (hb.2.2 r hr)
  · exact List.forall_mem_map.2 fun r hr => (each r hr).timers (ht r hr)

/-- A change that makes no record RECEIVING, and none that was another, keeps what the entries owe. -/
theorem kept_updateRecord (h : ∀ r ∈ c.records, r.number = n → RecordKept r (f r) ∧
    (r.state = .receiving ↔ (f r).state = .receiving)) : Kept c (c.updateRecord n f) where
  toLoose := loose_updateRecord fun r hr hn => (h r hr hn).1
  offers _ _ ho := by
    have same : (c.updateRecord n f).receiving = c.receiving := by
      funext m
      rw [Ledger.receiving, Ledger.receiving, Ledger.updateRecord, List.any_map, Bool.eq_iff_iff, List.any_eq_true,
        List.any_eq_true]
      refine exists_congr fun r => and_congr_right fun hr => ?_
      by_cases hn : r.number = n
      · obtain ⟨kept, receiving⟩ := h r hr hn
        simp [hn, kept.number, receiving]
      · simp [hn]
    intro e he
    rw [same]
    exact ho e he

theorem loose_removeRecord : Loose c (c.removeRecord n) where
  sized _ := id
  distinct hd := ⟨hd.1.sublist (List.filter_sublist.map _), hd.2⟩
  bounded _ hb := ⟨(List.length_filter_le ..).trans hb.1, hb.2.1, fun r hr => hb.2.2 r (List.mem_of_mem_filter hr)⟩
  timers _ ht r hr := ht r (List.mem_of_mem_filter hr)

/-- The removal of a record that is not RECEIVING keeps what the entries owe. -/
theorem kept_removeRecord (h : c.Distinct → c.TimersPlaced → ∀ r ∈ c.records, r.number = n → r.state ≠ .receiving) :
    Kept c (c.removeRecord n) where
  toLoose := loose_removeRecord
  offers hd ht ho := by
    have same : (c.removeRecord n).receiving = c.receiving := by
      funext m
      rw [Ledger.receiving, Ledger.receiving, Ledger.removeRecord, List.any_filter, Bool.eq_iff_iff, List.any_eq_true,
        List.any_eq_true]
      refine exists_congr fun r => and_congr_right fun hr => ?_
      by_cases hn : r.number = n
      · simp [h hd ht r hr hn]
      · simp [hn]
    intro e he
    rw [same]
    exact ho e he

/-- A new record, of a number that none has, where the table has room. -/
theorem kept_openRecord {r : Consignment} (fresh : ∀ x ∈ c.records, x.number ≠ r.number)
    (room : c.records.length < Config.consignmentMax) (empty : r.entries = []) (placed : r.timersPlaced)
    (opening : r.state = .opening) : Kept c { c with records := c.records ++ [r] } where
  sized _ := id
  distinct hd := by
    refine ⟨?_, hd.2⟩
    rw [List.map_append, List.map_singleton, List.nodup_append]
    refine ⟨hd.1, List.nodup_singleton _, ?_⟩
    simp only [List.mem_map, List.mem_singleton]
    rintro _ ⟨x, hx, rfl⟩ _ rfl
    exact fresh x hx
  bounded _ hb := by
    refine ⟨by simpa using room, hb.2.1, fun x hx => ?_⟩
    rcases List.mem_append.1 hx with hx | hx
    · exact hb.2.2 x hx
    · rw [List.mem_singleton.1 hx, empty]
      exact Nat.zero_le _
  timers _ ht x hx := by
    rcases List.mem_append.1 hx with hx | hx
    · exact ht x hx
    · rw [List.mem_singleton.1 hx]
      exact placed
  offers _ _ ho := by
    have same : Ledger.receiving { c with records := c.records ++ [r] } = c.receiving := by
      funext m
      simp [Ledger.receiving, opening]
    intro e he
    rw [same]
    exact ho e he

end

/-! ### Custody entries -/

namespace Ledger

/-- Every custody entry changed. -/
def mapEntries (g : CustodyEntry → CustodyEntry) (c : Ledger) : Ledger := { c with entries := c.entries.map g }

/-- The custody entries that satisfy a test. -/
def filterEntries (p : CustodyEntry → Bool) (c : Ledger) : Ledger := { c with entries := c.entries.filter p }

/-- A new custody entry. -/
def addEntry (e : CustodyEntry) (c : Ledger) : Ledger := { c with entries := c.entries ++ [e] }

end Ledger

section
variable {c d : Ledger} {g : CustodyEntry → CustodyEntry} {p : CustodyEntry → Bool} {e : CustodyEntry}

theorem loose_mapEntries (h : ∀ e, (g e).tag = e.tag) : Loose c (c.mapEntries g) where
  sized _ := id
  distinct hd := by
    refine ⟨hd.1, ?_⟩
    have tags : (c.mapEntries g).entries.map (fun e => e.tag) = c.entries.map fun e => e.tag := by
      rw [Ledger.mapEntries, List.map_map]
      exact List.map_congr_left fun e _ => h e
    rw [tags]
    exact hd.2
  bounded _ hb := ⟨hb.1, by rw [Ledger.mapEntries, List.length_map]; exact hb.2.1, hb.2.2⟩
  timers _ ht := ht

/-- A change that leaves each entry not HELD, or HELD and owing what the offering rule says. -/
theorem kept_mapEntries (h : ∀ e, (g e).tag = e.tag)
    (settled : c.Distinct → ∀ e ∈ c.entries, e.settledFor c.receiving → (g e).settledFor c.receiving) :
    Kept c (c.mapEntries g) where
  toLoose := loose_mapEntries h
  offers hd _ ho := List.forall_mem_map.2 fun e he => settled hd e he (ho e he)

theorem kept_filterEntries : Kept c (c.filterEntries p) where
  sized _ := id
  distinct hd := ⟨hd.1, hd.2.sublist (List.filter_sublist.map _)⟩
  bounded _ hb := ⟨hb.1, (List.length_filter_le ..).trans hb.2.1, hb.2.2⟩
  timers _ ht := ht
  offers _ _ ho e he := ho e (List.mem_of_mem_filter he)

/-- A new entry, of a tag that none has, where the list has room. -/
theorem loose_addEntry (fresh : ∀ x ∈ c.entries, x.tag ≠ e.tag) (room : c.entries.length < Config.custodyMax) :
    Loose c (c.addEntry e) where
  sized _ := id
  distinct hd := by
    refine ⟨hd.1, ?_⟩
    rw [Ledger.addEntry, List.map_append, List.map_singleton, List.nodup_append]
    refine ⟨hd.2, List.nodup_singleton _, ?_⟩
    simp only [List.mem_map, List.mem_singleton]
    rintro _ ⟨x, hx, rfl⟩ _ rfl
    exact fresh x hx
  bounded _ hb := ⟨hb.1, by simpa [Ledger.addEntry] using room, hb.2.2⟩
  timers _ ht := ht

theorem kept_addEntry (fresh : ∀ x ∈ c.entries, x.tag ≠ e.tag) (room : c.entries.length < Config.custodyMax)
    (free : e.state ≠ .held) : Kept c (c.addEntry e) where
  toLoose := loose_addEntry fresh room
  offers _ _ ho x hx := by
    rcases List.mem_append.1 hx with hx | hx
    · exact ho x hx
    · rw [List.mem_singleton.1 hx]
      exact fun held => absurd held free

/-- The offering rule looked at again after what is loose. -/
theorem Loose.settle (h : Loose c d) : Kept c d.settle where
  toLoose := h.trans (loose_mapEntries fun e => by split <;> rfl)
  offers _ _ _ := List.forall_mem_map.2 fun e _ => by
    have same : d.settle.receiving = d.receiving := rfl
    rw [same]
    intro held
    split at held
    case isTrue k => rw [if_pos k]
    case isFalse k => exact absurd held k

end

end Sys2Proof.Machine
end

section
/-! ## The ledger after events at the inputs, the fire controller and the line -/

namespace Sys2Proof.Machine

variable {s : State}

/-! ### From states to ledgers -/

/-- An event that leaves the two tables and keeps the sizes. -/
theorem Kept.of_tables {t : State} (hs : Sized s → Sized t) (hc : t.consignments = s.consignments)
    (he : t.custody.entries = s.custody.entries) : Kept (ledger s) (ledger t) := by
  rw [ledger, ledger, hc, he]
  exact ⟨⟨fun _ => hs, id, fun _ => id, fun _ => id⟩, fun _ _ => id⟩

/-- What leaves the ledger before an operation, and after it. -/
theorem Kept.after_eq {u t : State} (h : ledger u = ledger s) (k : Kept (ledger u) (ledger t)) :
    Kept (ledger s) (ledger t) := h ▸ k

theorem Kept.then_eq {u t : State} (k : Kept (ledger s) (ledger u)) (h : ledger t = ledger u) :
    Kept (ledger s) (ledger t) := h.symm ▸ k

theorem foldl_kept {α : Type} (f : State → α → State) (h : ∀ s a, Kept (ledger s) (ledger (f s a))) (l : List α) :
    ∀ s : State, Kept (ledger s) (ledger (l.foldl f s)) := by
  induction l with
  | nil => exact fun _ => .refl _
  | cons a l ih => exact fun s => (h s a).trans (ih (f s a))

@[simp] theorem ledger_mapCustody (g : CustodyEntry → CustodyEntry) :
    ledger (mapCustody g s) = (ledger s).mapEntries g := rfl

@[simp] theorem ledger_updateCustody (t : Tag) (g : CustodyEntry → CustodyEntry) :
    ledger (updateCustody t g s) = (ledger s).mapEntries fun e => if e.tag = t then g e else e := rfl

@[simp] theorem ledger_removeCustody (t : Tag) :
    ledger (removeCustody t s) = (ledger s).filterEntries fun e => e.tag != t := rfl

@[simp] theorem ledger_addCustody (e : CustodyEntry) : ledger (addCustody e s) = (ledger s).addEntry e := rfl

@[simp] theorem ledger_updateRecord (n : Nat) (f : Consignment → Consignment) :
    ledger (updateRecord n f s) = (ledger s).updateRecord n f := rfl

@[simp] theorem ledger_removeRecord (n : Nat) : ledger (removeRecord n s) = (ledger s).removeRecord n := rfl

/-- The custody entry of a tag changed: the one that the tag finds, where tags are distinct. -/
theorem kept_updateCustody {t : Tag} {g : CustodyEntry → CustodyEntry} (tags : ∀ e, (g e).tag = e.tag)
    (settled : ∀ e, findCustody t s = some e → e.settledFor (ledger s).receiving →
      (g e).settledFor (ledger s).receiving) : Kept (ledger s) (ledger (updateCustody t g s)) := by
  rw [ledger_updateCustody]
  refine kept_mapEntries (fun e => by split <;> simp [tags]) fun hd e he ho => ?_
  split
  case isFalse => exact ho
  case isTrue ht =>
    obtain ⟨x, hx⟩ := Option.isSome_iff_exists.1 (show (findCustody t s).isSome = true from
      List.find?_isSome.2 ⟨e, he, by simpa using ht⟩)
    have same : x = e := List.inj_on_of_nodup_map hd.2 (List.mem_of_find?_eq_some hx) he
      ((show x.tag = t by simpa using List.find?_some hx).trans ht.symm)
    exact settled e (same ▸ hx) ho

/-- An entry that is not HELD owes what it owes. -/
theorem settledFor_of_ne {e : CustodyEntry} {receiving : Nat → Bool} (h : e.state ≠ .held) : e.settledFor receiving :=
  fun held => absurd held h

/-! ### The end of an event at the fire controller (R140, R143) -/

theorem foldl_pushReply_within (l : List Reply) : ∀ rs : List Reply,
    (l.foldl pushReply rs).length ≤ Config.replyMax ↔ rs.length ≤ Config.replyMax := by
  induction l with
  | nil => exact fun _ => Iff.rfl
  | cons r l ih => exact fun rs => (ih _).trans (pushReply_within rs r)

theorem ledger_custodyFireStart :
    ledger (custodyFireStart s) = ((ledger s).filterEntries fun e => e.state != .expected).mapEntries suspendEntry := by
  have sized : Sized (custodyFireStart s) = Sized s :=
    propext (by simp [Sized, CheckCountsBounded, FixedSizes, custodyFireStart, foldl_pushReply_within])
  rw [ledger, sized]
  rfl

theorem kept_custodyAfterMove : Kept (ledger s) (ledger (custodyAfterMove s)) := by
  unfold custodyAfterMove
  split
  · rw [ledger_custodyFireStart]
    refine kept_filterEntries.trans (kept_mapEntries (fun e => by unfold suspendEntry; split <;> rfl)
      fun _ e _ ho => ?_)
    unfold suspendEntry
    split
    · exact settledFor_of_ne (by simp)
    · exact ho
  · split
    · refine kept_mapEntries (fun e => by unfold resumeEntry; split <;> rfl) fun _ e _ ho => ?_
      unfold resumeEntry
      split
      · exact settledFor_of_ne (by simp)
      · exact ho
    · exact .refl _

theorem kept_settleFire (before : FireRecord) : Kept (ledger s) (ledger (settleFire before s)) := by
  unfold settleFire
  split
  · exact .of_eq (by split <;> simp)
  · rw [ledger_judgePause]
    exact Kept.after_eq (by simp) kept_custodyAfterMove

/-- An event at the fire controller whose effect leaves the ledger. -/
theorem kept_fireEvent {effect : State → State} (h : ledger (effect s) = ledger s) :
    Kept (ledger s) (ledger (fireEvent effect s)) :=
  .after_eq h (kept_settleFire _)

variable (s)

/-! ### Inputs -/

theorem kept_alarmVerified (i : InputNo) : Kept (ledger s) (ledger (alarmVerified i s)) :=
  kept_fireEvent (by split <;> simp)

theorem kept_abortOn (i : InputNo) : Kept (ledger s) (ledger (abortOn i s)) :=
  kept_fireEvent (by dsimp only; rw [ledger_evaluateFire]; split <;> simp)

theorem kept_abortOff (i : InputNo) : Kept (ledger s) (ledger (abortOff i s)) := kept_fireEvent (by simp)

theorem kept_verified (i : InputNo) : Kept (ledger s) (ledger (verified i s)) := by
  unfold verified
  dsimp only
  split
  · exact .after_eq (by simp) (kept_abortOn _ i)
  · exact .after_eq (by simp) (kept_alarmVerified _ i)

theorem kept_settleBand (i : InputNo) (b : Band) : Kept (ledger s) (ledger (settleBand i b s)) := by
  unfold settleBand
  dsimp only
  split
  · exact .after_eq (by simp) (kept_abortOff _ i)
  · exact .of_eq (by simp)

theorem kept_judgeSettled (i : InputNo) (c : Code) : Kept (ledger s) (ledger (judgeSettled i c s)) := by
  unfold judgeSettled
  dsimp only
  repeat' split
  case isFalse.isFalse.isTrue => exact kept_settleBand s i _
  all_goals exact .of_eq (by simp)

theorem kept_unverified (i : InputNo) (c : Code) : Kept (ledger s) (ledger (unverified i c s)) := by
  unfold unverified
  dsimp only
  exact .after_eq (by split <;> simp) (kept_judgeSettled _ i c)

theorem kept_judgeCode (i : InputNo) (c : Code) : Kept (ledger s) (ledger (judgeCode i c s)) := by
  unfold judgeCode continueVerification
  repeat' split
  · exact .refl _
  · exact .of_eq (by simp)
  · exact kept_verified s i
  · exact kept_unverified s i c
  · exact kept_judgeSettled s i c

theorem kept_inputConverted (c : Code) : Kept (ledger s) (ledger (inputConverted c s)) := by
  unfold inputConverted
  split
  · exact .then_eq (kept_judgeCode s _ c) (ledger_continueScan _ _)
  · exact .refl _

theorem kept_verifyOver (i : InputNo) : Kept (ledger s) (ledger (verifyOver i s)) := by
  unfold verifyOver
  split
  · exact kept_verified s i
  · exact .refl _

/-! ### Fire commands and timers -/

theorem kept_fireReset : Kept (ledger s) (ledger (fireReset s)) := by
  unfold fireReset
  split
  · exact kept_fireEvent (by simp)
  · exact .of_eq (by simp)

theorem kept_testStart : Kept (ledger s) (ledger (testStart s)) := by
  unfold testStart
  split
  · exact kept_fireEvent rfl
  · exact .of_eq (by simp)

theorem kept_testEnd : Kept (ledger s) (ledger (testEnd s)) := by
  unfold testEnd
  split
  · exact kept_fireEvent (by simp)
  · exact .of_eq (by simp)

theorem kept_testTimerOver : Kept (ledger s) (ledger (testTimerOver s)) := by
  unfold testTimerOver
  split
  · exact kept_fireEvent (by simp)
  · exact .refl _

theorem kept_isolateOn : Kept (ledger s) (ledger (isolateOn s)) := by
  unfold isolateOn
  split
  · exact .refl _
  · exact kept_fireEvent (by simp)

theorem kept_isolateOff : Kept (ledger s) (ledger (isolateOff s)) := by
  unfold isolateOff
  split
  · exact kept_fireEvent (by simp)
  · exact .refl _

theorem kept_stabilizationOver : Kept (ledger s) (ledger (stabilizationOver s)) := by
  unfold stabilizationOver
  split
  · exact kept_fireEvent (by simp)
  · exact .refl _

theorem kept_countdownOver : Kept (ledger s) (ledger (countdownOver s)) := by
  unfold countdownOver
  split
  · split
    · exact kept_fireEvent (by simp)
    · exact .refl _
  · exact .refl _

/-! ### Peer updates and staleness (R139, R170, R171) -/

theorem kept_firePeerUpdate (before after : Peer) : Kept (ledger s) (ledger (firePeerUpdate before after s)) := by
  refine kept_fireEvent ?_
  repeat' split
  all_goals simp

theorem kept_peerUpdate (n : Nat) (k : UpdateKind) (after : Peer) :
    Kept (ledger s) (ledger (peerUpdate n k after s)) := by
  unfold peerUpdate reofferChecks
  refine .trans (.after_eq (ledger_setPeer s n after) (kept_firePeerUpdate _ (peerOf n s) after)) ?_
  rw [ledger_settleOffers, ledger_mapCustody, ledger_evaluateGrant]
  exact (loose_mapEntries fun e => by split <;> rfl).settle

theorem kept_staleNotice : Kept (ledger s) (ledger (staleNotice s)) :=
  .then_eq (kept_fireEvent (by simp)) (ledger_evaluateGrant _)

theorem kept_raiseAges : Kept (ledger s) (ledger (raiseAges s)) := by
  refine .trans (.of_eq ?_) (foldl_kept _ (fun u _ => kept_staleNotice u) _ _)
  exact ledger_congr (by simp [Sized, CheckCountsBounded, FixedSizes]) rfl rfl

theorem kept_statusOver : Kept (ledger s) (ledger (statusOver s)) := by
  unfold statusOver
  refine .then_eq ?_ (ledger_closeWindow _)
  exact .after_eq (u := queueState (withLine { s.line with statusTimer := some s.cfg.statusInterval } s)) rfl
    (kept_raiseAges _)

theorem kept_lineRecovered : Kept (ledger s) (ledger (lineRecovered s)) := by
  unfold lineRecovered
  split
  · refine .trans (.of_eq ?_) (kept_staleNotice _)
    rw [ledger_setTrouble]
    exact ledger_congr (by simp [Sized, CheckCountsBounded, FixedSizes]) rfl rfl
  · exact .refl _

/-! ### The climate sequences and the release circuit check (R13, R16) -/

theorem kept_afterSequence : Kept (ledger s) (ledger (afterSequence s)) := by
  have begun : Kept (ledger s) (ledger { s with sup := owedBegun s.sup }) :=
    .of_tables (fun ⟨hh, hr, hq, ha, ho, hc, hf⟩ => ⟨hh, hr, hq, ha, (Nat.sub_le ..).trans ho, hc, hf⟩) rfl rfl
  rw [afterSequence_eq]
  split
  · exact .then_eq begun (ledger_setTrouble _ _ _)
  · exact begun

theorem kept_sequenceEnded (a b : Option Bay) : Kept (ledger s) (ledger (sequenceEnded a b s)) := by
  have sampled : ledger (takeSample a b { s with sup := { s.sup with seq := none } }) = ledger s :=
    (ledger_takeSample _ a b).trans rfl
  exact .after_eq sampled (kept_afterSequence _)

theorem kept_probeConverted (c : Code) : Kept (ledger s) (ledger (probeConverted c s)) := by
  unfold probeConverted addProbeCode takeResult
  split
  · refine .then_eq ?_ (ledger_beginNext _)
    dsimp only
    split
    · exact kept_sequenceEnded s _ _
    · exact .of_eq rfl
  · exact .refl _

theorem kept_releaseCheck (c : CircuitCheck) : Kept (ledger s) (ledger (releaseCheck c s)) := by
  have checked : Kept (ledger s) (ledger (counted c s)) := by
    refine .of_tables (fun ⟨history, replies, reports, answers, owed, checks, sizes⟩ => ?_)
      (by rw [counted_frame]) (by rw [counted_frame])
    have bounded : CheckCountsBounded (counted c s) := by
      unfold counted
      repeat' split
      · exact ⟨Nat.zero_le _, Nat.min_le_left ..⟩
      · exact ⟨Nat.min_le_left .., Nat.zero_le _⟩
      · exact checks
    rw [counted_frame] at bounded ⊢
    exact ⟨history, replies, reports, answers, owed, bounded, sizes⟩
  rw [releaseCheck_eq]
  split
  · exact .then_eq checked (ledger_setTrouble _ _ _)
  · exact checked

theorem kept_scanTimerOver (c : CircuitCheck) : Kept (ledger s) (ledger (scanTimerOver c s)) :=
  .then_eq (.after_eq (u := { s with sup := { s.sup with scanPending := true } }) rfl (kept_releaseCheck _ c))
    (ledger_wakeArbiter _)

end Sys2Proof.Machine
end

section
/-! ## The ledger after events at the consignment table -/

namespace Sys2Proof.Machine

variable (s : State)

/-! ### Records and entries -/

/-- Where numbers are distinct, a record of the table is the only one of its number. -/
theorem eq_of_number {s : State} (hd : (ledger s).Distinct) {c r : Consignment} (hc : c ∈ s.consignments)
    (hr : r ∈ s.consignments) (hn : r.number = c.number) : r = c :=
  List.inj_on_of_nodup_map hd.1 hr hc hn

/-- A record whose list of entries is written, no longer than before. -/
theorem recordKept_entries (r : Consignment) (es : List Entry) (h : es.length = r.entries.length) :
    RecordKept r { r with entries := es } :=
  ⟨rfl, fun hr => h.le.trans hr, id⟩

theorem setEntryAt_length (st : EntryState) (k : Nat) (l : List Entry) : (setEntryAt st k l).length = l.length := by
  induction l generalizing k with
  | nil => cases k <;> rfl
  | cons e l ih => cases k <;> simp [setEntryAt, ih]

theorem kept_markEntry (num k : Nat) (st : EntryState) : Kept (ledger s) (ledger (markEntry num k st s)) :=
  kept_updateRecord fun r _ _ => ⟨recordKept_entries r _ (setEntryAt_length ..), Iff.rfl⟩

/-! ### Closing (R128) -/

theorem ledger_closeCustody (num : Nat) :
    ledger (closeCustody num s) = ((ledger s).filterEntries (staysAtClosing num)).mapEntries (loseNumber num) := rfl

theorem kept_closeRecord (c : Consignment) (x : CloseCause) : Kept (ledger s) (ledger (closeRecord c x s)) := by
  have reverted : ledger (if s.role = .bay then revertRequest c.number s else s) = ledger s := by split <;> simp
  unfold closeRecord
  dsimp only
  rw [ledger_settleOffers, ledger_removeRecord, ledger_queueReport, ledger_closeCustody, reverted]
  have lost : Loose ((ledger s).filterEntries (staysAtClosing c.number))
      (((ledger s).filterEntries (staysAtClosing c.number)).mapEntries (loseNumber c.number)) :=
    loose_mapEntries fun e => by unfold loseNumber; split <;> rfl
  exact ((kept_filterEntries.toLoose.trans lost).trans loose_removeRecord).settle

theorem kept_completionTest (num : Nat) : Kept (ledger s) (ledger (completionTest num s)) := by
  unfold completionTest
  split
  · split
    · exact kept_closeRecord s _ _
    · exact .refl _
  · exact .refl _

/-! ### Notices (R117, R118, R120) -/

theorem kept_notice (num : Nat) (p : Entry → Bool) (st : EntryState) : Kept (ledger s) (ledger (notice num p st s)) := by
  unfold notice
  split
  · split
    · exact (kept_updateRecord fun r _ _ => ⟨recordKept_entries r _ (setFirst_length ..), Iff.rfl⟩).trans
        (kept_completionTest (updateRecord num _ s) num)
    · exact .refl _
  · exact .refl _

theorem kept_noticeOf (num : Option Nat) (p : Entry → Bool) (st : EntryState) :
    Kept (ledger s) (ledger (noticeOf num p st s)) := by
  unfold noticeOf
  split
  · exact kept_notice s _ p st
  · exact .refl _

theorem kept_receivedNotice (num : Option Nat) (t : Tag) : Kept (ledger s) (ledger (receivedNotice num t s)) := by
  unfold receivedNotice
  split
  · split
    · exact kept_notice s _ _ _
    · exact .refl _
  · exact .refl _

theorem kept_clearNumber (t : Tag) : Kept (ledger s) (ledger (clearNumber t s)) := by
  unfold clearNumber
  rw [ledger_settleOffers, ledger_updateCustody]
  exact (loose_mapEntries fun e => by split <;> rfl).settle

/-- The number of an entry cleared, and the notice to the record that had it. -/
theorem kept_finalNotice (num : Option Nat) (t : Tag) (p : Entry → Bool) (st : EntryState) :
    Kept (ledger s) (ledger (noticeOf num p st (clearNumber t s))) :=
  (kept_clearNumber s t).trans (kept_noticeOf _ num p st)

/-! ### Opening and the entries of a record (R113, R114) -/

theorem kept_takeConsign (p : List Byte) : Kept (ledger s) (ledger (takeConsign p s)) := by
  unfold takeConsign
  dsimp only
  split
  · exact .refl _
  case isFalse absent =>
    split
    · exact .of_eq (by simp)
    · repeat' split
      case isFalse.isFalse.isFalse room =>
        refine kept_openRecord (c := ledger s) ?_ (Nat.not_le.1 room) rfl ⟨fun _ => rfl, nofun, nofun⟩ rfl
        intro x hx hn
        exact absent (List.find?_isSome.2 ⟨x, hx, by simpa [openedRecord] using hn⟩)
      all_goals exact .of_eq (by simp)

theorem firstState_ne (role : Role) (d : Direction) : firstState role d ≠ .opening ∧ firstState role d ≠ .receiving := by
  cases role <;> cases d <;> simp [firstState]

/-- The entries of a frame enter a record in OPENING; a last flag ends OPENING (R114, R116). -/
theorem kept_takeEntries {num : Nat} {c : Consignment} (hf : findRecord num s = some c) (ho : c.state = .opening)
    (fs : List Entry) : Kept (ledger s) (ledger (takeEntries num fs s)) := by
  refine .of_distinct fun hd => ?_
  have only (r) (hr : r ∈ (ledger s).records) (hn : r.number = num) : r = c := eq_of_findRecord hd.1 hf hr hn
  have taken := takeEntries_eq s.scanner.slots hf fs c.entries []
  rw [revised_self hd.1 hf] at taken
  generalize hes : c.entries ++ (upToLast fs).take (16 - c.entries.length) = es at taken
  generalize [] ++ overflowReports num ((upToLast fs).drop (16 - c.entries.length)) = rs at taken
  have within : c.entries.length ≤ Config.entryMax → es.length ≤ Config.entryMax := by
    rw [← hes]
    simp only [Config.entryMax, List.length_append, List.length_take]
    omega
  rw [show takeEntries num fs s = _ from taken]
  split
  · rw [endOpening_eq es rs hd.1 hf]
    refine .trans ?_ (kept_completionTest _ num)
    rw [ledger_queueReports, ledger_withSlots, ledger_updateRecord]
    refine kept_updateRecord fun r hr hn => ?_
    obtain rfl := only r hr hn
    obtain ⟨left, quiet⟩ := firstState_ne s.role r.direction
    refine ⟨⟨rfl, fun h => ?_, fun placed => ⟨nofun, fun _ => left, fun on => ?_⟩⟩, ?_⟩
    · rw [validated_length]
      exact within h
    · rcases placed.2.2 on with h | h <;> simp [ho] at h
    · exact iff_of_false (by simp [ho]) quiet
  · rw [id, ledger_queueReports, revised, ledger_withSlots, ledger_updateRecord]
    refine kept_updateRecord fun r hr hn => ?_
    obtain rfl := only r hr hn
    exact ⟨⟨rfl, within, id⟩, Iff.rfl⟩

theorem kept_takeEntry (p : List Byte) : Kept (ledger s) (ledger (takeEntry p s)) := by
  unfold takeEntry
  dsimp only
  split
  case h_1 hf =>
    split
    case isTrue ho => exact kept_takeEntries s hf ho _
    case isFalse => exact .refl _
  case h_2 => exact .refl _

/-- A record in OPENING is removed (R115). -/
theorem kept_removeRecord_of_find {num : Nat} {c : Consignment} (hf : findRecord num s = some c)
    (ho : (ledger s).TimersPlaced → c.state = .opening) : Kept (ledger s) (ledger (removeRecord num s)) :=
  kept_removeRecord fun hd ht r hr hn => by
    rw [eq_of_findRecord hd.1 hf hr hn, ho ht]
    simp

theorem kept_takeCancel (p : List Byte) : Kept (ledger s) (ledger (takeCancel p s)) := by
  unfold takeCancel
  dsimp only
  split
  case h_1 hf =>
    split
    case isTrue ho => exact .then_eq (kept_removeRecord_of_find s hf fun _ => ho) (ledger_queueReport _ _)
    case isFalse => exact kept_closeRecord s _ _
  case h_2 => exact .refl _

/-! ### Courier sessions (R122 to R125) -/

section
variable {s} {c : Consignment} (hc : c ∈ s.consignments)
include hc

theorem kept_startSession (ho : c.state ≠ .opening) : Kept (ledger s) (ledger (startSession c.number s)) := by
  refine .of_distinct fun hd => ?_
  unfold startSession
  rw [ledger_settleOffers, ledger_updateRecord]
  refine (loose_updateRecord fun r hr hn => ?_).settle
  obtain rfl := eq_of_number hd hc hr hn
  have begun : (if r.state = .staging then .courierPresent else .receiving : ConsignmentState) = .courierPresent ∨
      (if r.state = .staging then .courierPresent else .receiving : ConsignmentState) = .receiving := by
    split <;> simp
  refine ⟨rfl, id, fun placed => ⟨fun on => absurd (placed.1 on) ho, fun _ h => ?_, fun _ => begun⟩⟩
  rcases begun with e | e <;> cases e.symm.trans h

theorem kept_signOffInbound (hr : c.state = .receiving) : Kept (ledger s) (ledger (signOffInbound c s)) := by
  refine .of_distinct fun hd => ?_
  unfold signOffInbound
  dsimp only
  refine .trans ?_ (kept_completionTest _ c.number)
  rw [ledger_settleOffers, ledger_mapCustody, ledger_updateRecord]
  refine Loose.settle (.trans (loose_updateRecord fun r hm hn => ?_)
    (loose_mapEntries fun e => by unfold writeHold; split <;> rfl))
  obtain rfl := eq_of_number hd hc hm hn
  refine ⟨rfl, fun h => by simpa using h, fun placed => ⟨fun on => ?_, fun _ => by simp, nofun⟩⟩
  exact absurd ((placed.1 on).symm.trans hr) (by simp)

end

theorem kept_signOffActive (num k : Nat) (t : Tag) : Kept (ledger s) (ledger (signOffActive num k t s)) := by
  unfold signOffActive
  split
  · exact (kept_markEntry s num k _).trans kept_filterEntries
  · split
    · exact .trans (.then_eq (kept_markEntry s num k _) (ledger_queueReport _ _)) (kept_clearNumber _ t)
    · exact kept_markEntry s num k _

theorem kept_signOffEntry (num k : Nat) (e : Entry) : Kept (ledger s) (ledger (signOffEntry num k e s)) := by
  unfold signOffEntry
  repeat' split
  · exact kept_signOffActive s num k _
  · exact kept_markEntry s num k _
  · exact kept_markEntry s num k _
  · exact .refl _

theorem kept_signOffFrom (num k : Nat) (es : List Entry) : Kept (ledger s) (ledger (signOffFrom num k es s)) := by
  induction es generalizing k s with
  | nil => exact .refl _
  | cons e es ih => exact (kept_signOffEntry s num k e).trans (ih _ (k + 1))

/-- A courier window timer taken away (R123, R125). -/
theorem kept_courierTimerGone (num : Nat) :
    Kept (ledger s) (ledger (updateRecord num (fun c => { c with courierTimer := none }) s)) :=
  kept_updateRecord fun _ _ _ => ⟨⟨rfl, id, fun placed => ⟨placed.1, placed.2.1, nofun⟩⟩, Iff.rfl⟩

theorem kept_signOffOutbound (c : Consignment) : Kept (ledger s) (ledger (signOffOutbound c s)) := by
  unfold signOffOutbound
  dsimp only
  refine .trans ((kept_courierTimerGone s c.number).trans (kept_signOffFrom _ c.number 0 c.entries)) ?_
  split
  · exact kept_closeRecord _ _ _
  · exact .refl _

theorem kept_courierWindowOver {s : State} {c : Consignment} (hc : c ∈ s.consignments) :
    Kept (ledger s) (ledger (courierWindowOver c s)) := by
  have told : (queueReport (courierTimeoutReport c) s).consignments = s.consignments := queueReport_consignments ..
  unfold courierWindowOver
  dsimp only
  refine .after_eq (ledger_queueReport s (courierTimeoutReport c)) ?_
  generalize queueReport (courierTimeoutReport c) s = u at told
  rw [← told] at hc
  split
  case h_1 hs =>
    refine .of_distinct fun hd => ?_
    rw [ledger_settleOffers, ledger_mapCustody, ledger_updateRecord]
    refine Loose.settle (.trans (loose_updateRecord fun r hm hn => ?_)
      (loose_mapEntries fun e => by unfold unloadEntry; split <;> rfl))
    obtain rfl := eq_of_number hd hc hm hn
    exact ⟨rfl, id, fun placed => ⟨fun on => absurd ((placed.1 on).symm.trans hs) (by simp), fun _ => by simp, nofun⟩⟩
  case h_2 hs => exact kept_signOffInbound hc hs
  case h_3 => exact kept_courierTimerGone u _

/-! ### Timers -/

theorem kept_openingOver (num : Nat) : Kept (ledger s) (ledger (openingOver num s)) := by
  unfold openingOver
  split
  case h_1 c hf =>
    split
    case isTrue on =>
      refine .then_eq (kept_removeRecord_of_find s hf fun placed => ?_) (ledger_queueReport _ _)
      exact (placed c (List.mem_of_find?_eq_some hf)).1 on
    case isFalse => exact .refl _
  case h_2 => exact .refl _

theorem kept_courierOver (num : Nat) : Kept (ledger s) (ledger (courierOver num s)) := by
  unfold courierOver
  split
  case h_1 hf =>
    split
    · exact kept_courierWindowOver (List.mem_of_find?_eq_some hf)
    · exact .refl _
  case h_2 => exact .refl _

theorem kept_deadlineOver (num : Nat) : Kept (ledger s) (ledger (deadlineOver num s)) := by
  unfold deadlineOver
  split
  · split
    · exact kept_closeRecord s _ _
    · exact .refl _
  · exact .refl _

end Sys2Proof.Machine
end

section
/-! ## The ledger after handover events -/

namespace Sys2Proof.Machine

variable (s : State)

theorem tag_of_findCustody {t : Tag} {s : State} {e : CustodyEntry} (h : findCustody t s = some e) : e.tag = t := by
  simpa using List.find?_some h

theorem findCustody_of_custodyNamed {t : Option Tag} {s : State} {e : CustodyEntry} (h : custodyNamed t s = some e) :
    findCustody e.tag s = some e := by
  obtain ⟨u, _, hf⟩ := Option.bind_eq_some_iff.1 h
  rw [tag_of_findCustody hf]
  exact hf

theorem findCustody_of_entryFrom {n : Nat} {t : Option Tag} {s : State} {e : CustodyEntry}
    (h : entryFrom n t s = some e) : findCustody e.tag s = some e := by
  unfold entryFrom at h
  split at h
  · split at h
    · cases h
      exact findCustody_of_custodyNamed ‹_›
    · nomatch h
  · nomatch h

/-- A new entry whose tag no entry has, where the list is not full. -/
theorem room_of_not_custodyFull {s : State} (h : ¬ custodyFull s = true) :
    (ledger s).entries.length < Config.custodyMax := by
  simpa [custodyFull, ledger] using h

theorem fresh_of_findCustody {t : Tag} {s : State} (h : findCustody t s = none) :
    ∀ x ∈ (ledger s).entries, x.tag ≠ t := fun x hx => by
  simpa using List.find?_eq_none.1 h x hx

/-! ### The taker (R141, R142, R144, R145) -/

theorem handoverNames_of_offerRefusal {num source slot : Nat} {t : Option Tag} (h : offerRefusal num t source slot s = none) :
    (∃ u, t = some u ∧ findCustody u s = none) ∧ ¬ custodyFull s = true := by
  unfold offerRefusal at h
  repeat' split at h
  case isFalse.isFalse.isFalse.isFalse.isFalse.isFalse free expected _ _ room =>
    cases t with
    | none => simp at expected
    | some u => exact ⟨⟨u, rfl, by simpa [custodyNamed] using free⟩, room⟩
  all_goals nomatch h

theorem kept_takeOffer (source : Nat) (p : List Byte) : Kept (ledger s) (ledger (takeOffer source p s)) := by
  unfold takeOffer
  split
  · exact .of_eq (ledger_addReply _ _)
  case h_2 h =>
    obtain ⟨⟨u, hu, free⟩, room⟩ := handoverNames_of_offerRefusal s h
    have named : handoverTag p = u := by
      unfold handoverNames optTag at hu
      split at hu
      · nomatch hu
      · exact Option.some.inj hu
    refine kept_addEntry ?_ (room_of_not_custodyFull room) (by simp [expectedEntry, newCustody])
    rw [← named] at free
    exact fresh_of_findCustody free

theorem kept_claimExpected (t : Tag) : Kept (ledger s) (ledger (claimExpected t s)) :=
  kept_updateCustody (fun _ => rfl) fun _ _ _ => settledFor_of_ne (by simp)

theorem kept_disputeEntry (e : CustodyEntry) (x : DisputeCause) : Kept (ledger s) (ledger (disputeEntry e x s)) := by
  unfold disputeEntry disputedNotice
  refine .trans (.then_eq ?_ (ledger_queueReport _ _)) (kept_finalNotice _ e.consignment e.tag _ _)
  exact kept_updateCustody (fun _ => rfl) fun _ _ _ => settledFor_of_ne (by simp)

/-- An entry changed, and the offering rule looked at again. -/
theorem kept_settleCustody (t : Tag) (g : CustodyEntry → CustodyEntry) (h : ∀ e, e.tag = t → (g e).tag = e.tag) :
    Kept (ledger s) (ledger (settleOffers (updateCustody t g s))) := by
  rw [ledger_settleOffers, ledger_updateCustody]
  exact (loose_mapEntries fun e => by split <;> simp [*]).settle

theorem kept_confirmTaking (e : CustodyEntry) : Kept (ledger s) (ledger (confirmTaking e s)) := by
  have held := kept_settleCustody s e.tag (fun _ => { e with state := .held, peer := none, timer := none, owed := none })
    fun _ hx => hx.symm
  unfold confirmTaking
  dsimp only
  refine held.trans ?_
  generalize settleOffers _ = u
  split
  · split
    case h_1 h => exact .of_eq (ledger_returnRequest h)
    case h_2 => exact kept_disputeEntry _ _ _
  · exact kept_receivedNotice _ _ _

theorem kept_takeCleared (n : Nat) (p : List Byte) : Kept (ledger s) (ledger (takeCleared n p s)) := by
  unfold takeCleared
  repeat' split
  · exact kept_confirmTaking s _
  all_goals exact .refl _

theorem kept_takeLate (n : Nat) (p : List Byte) : Kept (ledger s) (ledger (takeLate n p s)) := by
  unfold takeLate
  repeat' split
  · exact kept_disputeEntry s _ _
  all_goals exact .refl _

theorem kept_takeWithdraw (n : Nat) (p : List Byte) : Kept (ledger s) (ledger (takeWithdraw n p s)) := by
  unfold takeWithdraw
  repeat' split
  · exact kept_disputeEntry s _ _
  · exact kept_filterEntries
  all_goals exact .refl _

/-! ### The giver (R136 to R138) -/

theorem kept_releaseEntry (e : CustodyEntry) : Kept (ledger s) (ledger (releaseEntry e s)) := by
  refine .trans ?_ (kept_noticeOf _ e.consignment (activeWith e.tag) .done)
  exact kept_updateCustody (fun _ => rfl) fun _ _ _ => settledFor_of_ne (by simp)

/-- A frame owed by an entry that is not HELD. -/
theorem kept_owe {t : Tag} {e : CustodyEntry} (hf : findCustody t s = some e) (free : e.state ≠ .held) (f : OwedFrame) :
    Kept (ledger s) (ledger (owe t f s)) :=
  kept_updateCustody (fun _ => rfl) fun x hx _ => by
    cases hf.symm.trans hx
    exact settledFor_of_ne free

theorem kept_takeTaken (n : Nat) (p : List Byte) : Kept (ledger s) (ledger (takeTaken n p s)) := by
  have told : Kept (ledger s) (ledger (replyLate n p s)) := .of_eq (ledger_addReply _ _)
  unfold takeTaken
  split
  case h_1 e h =>
    have found := findCustody_of_entryFrom h
    split
    case h_1 => exact kept_releaseEntry s e
    case h_2 => exact kept_releaseEntry s e
    case h_3 released => exact kept_owe s found (by simp [released]) _
    case h_4 adrift => exact kept_owe s found (by simp [adrift]) _
    case h_5 => exact told
  case h_2 => exact told

theorem kept_refuseEntry (e : CustodyEntry) (r : RefuseReason) : Kept (ledger s) (ledger (refuseEntry e r s)) := by
  have held := kept_settleCustody s e.tag
    (fun e => { e with state := .held, timer := none, owed := none, wait := r.wait }) fun _ _ => rfl
  unfold refuseEntry
  dsimp only
  refine (held.then_eq (ledger_queueReport _ (custodyReport .handoverRefused e r.code))).trans ?_
  split
  · exact kept_finalNotice _ _ _ _ _
  · exact .refl _

theorem kept_takeRefuse (n : Nat) (p : List Byte) : Kept (ledger s) (ledger (takeRefuse n p s)) := by
  unfold takeRefuse
  repeat' split
  · exact kept_refuseEntry s _ _
  all_goals exact .refl _

/-! ### Timers (R137, R142, R144) -/

theorem kept_handoverOver (t : Tag) : Kept (ledger s) (ledger (handoverOver t s)) := by
  unfold handoverOver
  repeat' split
  · refine .trans (.then_eq ?_ (ledger_queueReport _ _)) (kept_finalNotice _ _ t _ _)
    exact kept_updateCustody (fun _ => rfl) fun _ _ _ => settledFor_of_ne (by simp)
  all_goals exact .refl _

theorem kept_lapseOver (t : Tag) : Kept (ledger s) (ledger (lapseOver t s)) := by
  unfold lapseOver
  repeat' split
  · exact .then_eq kept_filterEntries (ledger_queueReport _ _)
  all_goals exact .refl _

theorem kept_confirmOver (t : Tag) : Kept (ledger s) (ledger (confirmOver t s)) := by
  unfold confirmOver
  repeat' split
  case h_1.isTrue.isTrue hf taking _ =>
    exact kept_updateCustody (fun _ => rfl) fun x hx _ => by
      cases hf.symm.trans hx
      exact settledFor_of_ne (by simp [taking.1])
  case h_1.isTrue.isFalse => exact kept_disputeEntry s _ _
  all_goals exact .refl _

/-! ### RESOLVE (R148) -/

@[simp] theorem ledger_returnKept (t : Tag) : ledger (returnKept t s) = ledger s := by
  unfold returnKept
  split
  · split
    case h_1 sl _ =>
      cases h : returnRequest sl.number t s with
      | none => rfl
      | some v => exact ledger_returnRequest h
    case h_2 => rfl
  · rfl

theorem kept_keptEntry (t : Tag) : Kept (ledger s) (ledger (updateCustody t keptEntry s)) :=
  kept_updateCustody (fun e => by unfold keptEntry; split <;> rfl) fun e _ h => by
    unfold keptEntry
    split
    · exact h
    · intro _
      simp

theorem kept_resolveWith (args : List Byte) : Kept (ledger s) (ledger (resolveWith args s)) := by
  have refused : Kept (ledger s) (ledger (refuseCommand codeResolve 0 (tagAt args 0) s)) :=
    .of_eq (ledger_refuseCommand ..)
  unfold resolveWith
  dsimp only
  split
  · split
    · exact .then_eq (kept_keptEntry s _) (ledger_returnKept _ _)
    · split
      · exact kept_filterEntries
      · exact refused
  · exact refused

end Sys2Proof.Machine
end

section
/-! ## The ledger after events at the slots, the reader and the transmitter -/

namespace Sys2Proof.Machine

variable (s : State)

/-! ### Slot scan (R81, R84, R86, R90, R93) -/

theorem kept_seat (sl : Slot) : Kept (ledger s) (ledger (seat sl s)) := by
  unfold seat
  dsimp only
  cases custodyOfSlot sl s with
  | none =>
    refine .after_eq ?_ (kept_noticeOf _ sl.consignment (activeWith sl.reportTag) .done)
    split <;> simp [seatSlot]
  | some e =>
    refine .trans (kept_filterEntries (p := fun x => x.tag != e.tag))
      (.after_eq (s := removeCustody e.tag s) ?_ (kept_noticeOf _ sl.consignment (activeWith sl.reportTag) .done))
    split <;> simp [seatSlot]

theorem kept_presence (sl : Slot) : Kept (ledger s) (ledger (presence sl s)) := by
  unfold presence returnEvacuee strayPresence
  dsimp only
  split
  case h_1 => exact kept_seat s sl
  all_goals exact .of_eq (by simp)

theorem kept_sampleSlot (n : Nat) (b : Bool) : Kept (ledger s) (ledger (sampleSlot n b s)) := by
  unfold sampleSlot
  repeat' split
  case h_1.isFalse.isFalse.isTrue => exact .after_eq (ledger_updateSlot ..) (kept_presence _ _)
  all_goals exact .of_eq (by simp)

theorem kept_slotScanStep (x : Sense) : Kept (ledger s) (ledger (slotScanStep x s)) := by
  have sampled (d : Nat) : Kept (ledger s) (ledger (sampleLine d x s)) :=
    foldl_kept _ (fun u k => kept_sampleSlot u (slotAt d k) _) _ s
  have driven (t : State) (d : Nat) : ledger { t with scanner := { t.scanner with drive := d } } = ledger t := rfl
  unfold slotScanStep
  dsimp only
  refine .then_eq ?_ (driven _ _)
  split
  · exact .of_eq (by simp)
  · split
    · exact sampled _
    · exact .refl _

theorem kept_pullWindowOver (n : Nat) : Kept (ledger s) (ledger (pullWindowOver n s)) := by
  unfold pullWindowOver
  dsimp only
  split
  · split
    · split
      · exact .after_eq (by simp) (kept_notice _ _ _ _)
      · exact .of_eq (by simp)
    · exact .refl _
  · exact .refl _

/-! ### Reads (R105 to R109, R146) -/

/-- A new custody entry, and the offering rule looked at again. -/
theorem kept_newCustody {s : State} {e : CustodyEntry} (free : findCustody e.tag s = none) (room : ¬ custodyFull s = true) :
    Kept (ledger s) (ledger (settleOffers (addCustody e s))) := by
  rw [ledger_settleOffers, ledger_addCustody]
  exact (loose_addEntry (fresh_of_findCustody free) (room_of_not_custodyFull room)).settle

theorem verifyFirst_eq {t : Tag} {l : List PullCandidate} {s v : State} (h : verifyFirst t l s = some v) :
    ∃ c u, ledger u = ledger s ∧ v = settleOffers (addCustody (pulledEntry t c s) u) := by
  induction l with
  | nil => nomatch h
  | cons c l ih =>
    unfold verifyFirst at h
    split at h
    case h_1 u hu => exact ⟨c, u, ledger_verifyRequest hu, (Option.some.inj h).symm⟩
    case h_2 => exact ih h

theorem kept_verifyFirst {t : Tag} {l : List PullCandidate} {s v : State} (h : verifyFirst t l s = some v)
    (free : findCustody t s = none) (room : ¬ custodyFull s = true) : Kept (ledger s) (ledger v) := by
  obtain ⟨c, u, same, rfl⟩ := verifyFirst_eq h
  have added : ledger (settleOffers (addCustody (pulledEntry t c s) u)) =
      ledger (settleOffers (addCustody (pulledEntry t c s) s)) := by
    simp only [ledger_settleOffers, ledger_addCustody, same]
  rw [added]
  exact kept_newCustody free room

theorem kept_routeBayCartridge (t : Tag) : Kept (ledger s) (ledger (routeBayCartridge t s).1) := by
  unfold routeBayCartridge
  repeat' split
  case isTrue => exact kept_claimExpected s t
  case h_1.isFalse free _ v h room =>
    exact kept_verifyFirst h (by simpa using free) room
  all_goals exact .of_eq (by simp)

/-- A badge reaches no record in OPENING (R107). -/
theorem kept_badgeAt {s : State} {id : Tag} {c : Consignment} (hc : c ∈ s.consignments) (h : badgeReaches id c = true) :
    Kept (ledger s) (ledger (badgeAt c s)) := by
  unfold badgeAt
  split
  case h_1 => exact kept_signOffOutbound s c
  case h_2 hr => exact kept_signOffInbound hc hr
  case h_3 =>
    refine kept_startSession hc fun ho => ?_
    simp [badgeReaches, ho] at h

theorem kept_routeDockBadge (id : Tag) : Kept (ledger s) (ledger (routeDockBadge id s).1) := by
  unfold routeDockBadge
  split
  case h_1 h => exact kept_badgeAt (List.mem_of_find?_eq_some h) (List.find?_some h)
  case h_2 => exact .of_eq (by simp)

theorem kept_routeDockCase (t : Tag) (x : Option CaseClimate) : Kept (ledger s) (ledger (routeDockCase t x s).1) := by
  unfold routeDockCase
  split
  · refine kept_updateRecord fun r _ _ => ?_
    unfold storeCase
    split <;> exact ⟨⟨rfl, id, id⟩, Iff.rfl⟩
  · exact .of_eq (by simp)

theorem kept_receiveCartridge {t : Tag} {s : State} (free : findCustody t s = none) (room : ¬ custodyFull s = true)
    (c : Consignment) : Kept (ledger s) (ledger (receiveCartridge t c s)) := by
  unfold receiveCartridge
  split
  case h_1 e _ =>
    have begun : Kept (ledger s) (ledger
        (updateRecord c.number (fun c => { c with entries := setFirst (waitingWith t) .active c.entries }) s)) :=
      kept_updateRecord fun r _ _ => ⟨recordKept_entries r _ (setFirst_length ..), Iff.rfl⟩
    exact begun.trans (kept_newCustody (e := receivedEntry t c.number e) free room)
  case h_2 => exact .refl _

theorem kept_dockKnown (t : Tag) : Kept (ledger s) (ledger (dockKnown t s).1) := by
  unfold dockKnown
  repeat' split
  · exact kept_updateCustody (fun _ => rfl) fun _ _ _ => settledFor_of_ne (by simp)
  · exact kept_settleCustody s t _ fun _ _ => rfl
  · exact .of_eq (by simp)

theorem kept_routeDockCartridge (t : Tag) : Kept (ledger s) (ledger (routeDockCartridge t s).1) := by
  unfold routeDockCartridge
  repeat' split
  case isTrue => exact kept_claimExpected s t
  case isFalse.isTrue => exact kept_dockKnown s t
  case h_1.isTrue => exact .refl _
  case h_1.isFalse free _ c _ room => exact kept_receiveCartridge (by simpa using free) room c
  case h_2 => exact kept_dockKnown s t

theorem kept_route (k : TagKind) (id : Tag) (x : Option CaseClimate) :
    Kept (ledger s) (ledger (route k id x s).1) := by
  unfold route
  split
  · exact kept_routeBayCartridge s id
  · exact .of_eq (by simp)
  · exact kept_routeDockCartridge s id
  · exact kept_routeDockBadge s id
  · exact kept_routeDockCase s id x

theorem kept_goodRead (b : Bool) (r : ReadStatus) : Kept (ledger s) (ledger (goodRead b r s)) := by
  unfold goodRead
  split
  case h_1 k id x =>
    unfold routeRead
    split
    · exact .refl _
    · exact .after_eq (ledger_withReader ..) (.then_eq (kept_route _ k id x) (ledger_requestSignal ..))
  all_goals exact .of_eq (by split <;> simp)

theorem kept_readResponse (cs : List Byte) : Kept (ledger s) (ledger (readResponse cs s)) := by
  unfold readResponse
  repeat' split
  case h_3 => exact .after_eq (ledger_goodResponse s) (.then_eq (kept_goodRead _ _ _) (ledger_readerNext _))
  all_goals exact .of_eq (by simp)

/-! ### The transmitter (R134, R173) -/

theorem kept_takeOwed {e : CustodyEntry} (he : e ∈ s.custody.entries) {f : OwedFrame} (hf : e.owed = some f) :
    Kept (ledger s) (ledger (takeOwed f e s)) := by
  unfold takeOwed
  split
  · exact kept_filterEntries
  · refine .of_distinct fun hd => kept_updateCustody (fun x => by unfold afterTaken; split <;> rfl) fun x hx ho => ?_
    have same : x = e := List.inj_on_of_nodup_map hd.2 (List.mem_of_find?_eq_some hx) he (tag_of_findCustody hx)
    subst same
    have offer (held : x.state = .held) : f = .offer := by
      have owed := ho held
      rw [hf] at owed
      split at owed
      · exact Option.some.inj owed
      · nomatch owed
    unfold afterTaken
    split
    case h_1 => exact settledFor_of_ne (by simp)
    case h_2 => exact settledFor_of_ne fun held => nomatch offer held
    case h_3 no _ => exact settledFor_of_ne fun held => no (offer held)

theorem takeOwed_line (f : OwedFrame) (e : CustodyEntry) : (takeOwed f e s).line = s.line := by
  unfold takeOwed
  split <;> rfl

theorem kept_takeHandover : Kept (ledger s) (ledger (takeHandover s)) := by
  unfold takeHandover
  split
  case h_1 r rest full =>
    refine .of_tables (fun ⟨history, replies, others⟩ => ⟨history, ?_, others⟩) rfl rfl
    rw [full] at replies
    exact (Nat.le_succ _).trans replies
  case h_2 =>
    split
    case h_1 e he =>
      split
      case h_1 f hf =>
        refine .then_eq (kept_takeOwed s (List.mem_of_find?_eq_some he) hf) ?_
        rw [← takeOwed_line s f e]
        rfl
      case h_2 => exact .refl _
    case h_2 => exact .refl _

theorem kept_takeAnswer : Kept (ledger s) (ledger (takeAnswer s)) := by
  unfold takeAnswer
  split
  case h_1 q rest full =>
    refine .of_tables (fun ⟨history, replies, reports, answers, others⟩ => ⟨history, replies, reports, ?_, others⟩) rfl rfl
    rw [full] at answers
    exact (Nat.le_succ _).trans answers
  case h_2 => exact .refl _

theorem kept_takeReport : Kept (ledger s) (ledger (takeReport s)) := by
  unfold takeReport
  split
  case h_1 r rest full =>
    refine .of_tables (fun ⟨history, replies, reports, others⟩ => ⟨history, replies, ?_, others⟩) rfl rfl
    rw [full] at reports
    exact (Nat.le_succ _).trans reports
  case h_2 => exact .refl _

theorem kept_takeClass (c : TxClass) : Kept (ledger s) (ledger (takeClass c s)) := by
  unfold takeClass
  split
  · exact .of_eq rfl
  · split
    · exact .of_eq rfl
    · exact kept_takeHandover s
  · split
    · exact .of_eq rfl
    · exact kept_takeAnswer s
  · split
    · exact .of_eq rfl
    · exact kept_takeReport s
  · exact .of_eq rfl

theorem kept_transmitStart (n : Nat) : Kept (ledger s) (ledger (transmitStart n s)) := by
  unfold transmitStart
  repeat' split
  · exact kept_takeClass s _
  all_goals exact .refl _

end Sys2Proof.Machine
end

section
/-! ## What a step keeps of the ledger (O11) -/

namespace Sys2Proof.Machine

variable (s : State)

/-! ### Frames -/

/-- What a complete frame does: nothing at the ledger, or its owner's act. -/
theorem kept_receive (kind : Byte) (f : Frame) (act : State → State) (h : ∀ u, Kept (ledger u) (ledger (act u))) :
    Kept (ledger s) (ledger (receive kind f act s)) := by
  unfold receive validFrame
  dsimp only
  repeat' split
  case h_4.isFalse.isTrue => exact .after_eq (by simp) (h _)
  all_goals exact .of_eq (by simp)

theorem kept_consoleOnly (f : Frame) (act : State → State) (h : ∀ u, Kept (ledger u) (ledger (act u))) (u : State) :
    Kept (ledger u) (ledger (consoleOnly f act u)) := by
  unfold consoleOnly
  split
  · exact h u
  · exact .refl _

theorem kept_receiveCommand (code : Byte) (f : Frame) (act : List Byte → State → State)
    (h : ∀ u, Kept (ledger u) (ledger (act f.payload u))) :
    Kept (ledger s) (ledger (receiveCommand code f act s)) := by
  refine kept_receive s _ _ _ (kept_consoleOnly f _ fun u => ?_)
  unfold commandAct
  split
  · exact h u
  · exact .of_eq (ledger_refuseCommand ..)

theorem kept_discardFrame (x : DiscardCause) : Kept (ledger s) (ledger (discardFrame x s)) := by
  unfold discardFrame
  split
  case h_4 kind f => exact kept_receive s kind f id fun u => .refl _
  all_goals exact .of_eq (by split <;> simp)

/-! ### Starts and RESTART (R17, R65, R151, R182 to R186) -/

/-- A ledger with no record and no entry keeps all but the sizes. -/
theorem kept_of_empty {c d : Ledger} (sized : d.sized) (records : d.records = []) (entries : d.entries = []) : Kept c d where
  sized _ _ := sized
  distinct _ := by simp [Ledger.Distinct, records, entries]
  bounded _ _ := by simp [Ledger.Bounded, records, entries]
  timers _ _ := by simp [Ledger.TimersPlaced, records]
  offers _ _ _ := by simp [Ledger.OffersSettled, entries]

theorem sized_reset : Sized State.reset := by
  refine ⟨Nat.zero_le _, Nat.zero_le _, Nat.zero_le _, Nat.zero_le _, Nat.zero_le _, ⟨Nat.zero_le _, Nat.zero_le _⟩, ?_⟩
  exact ⟨rfl, rfl, rfl, List.length_replicate⟩

/-- A start leaves no record and no entry. -/
theorem kept_beginStart (own : Strap) (role : Role) : Kept (ledger s) (ledger (beginStart own role s)) :=
  kept_of_empty sized_reset rfl rfl

/-- The configured values have six input types (R2, R184). -/
theorem judgedImage_inputTypes (image : List Byte) :
    ((judgeImage image).getD Settings.defaults).inputTypes.length = 6 := by
  unfold judgeImage
  repeat' split
  all_goals rfl

theorem kept_startStation (image : List Byte) (attention : Bool) (check : CircuitCheck) :
    Kept (ledger s) (ledger (startStation image attention check s)) := by
  have started : Kept (ledger s) (ledger (startBlocks attention (applyImage image s))) := by
    refine .of_tables (fun ⟨history, replies, reports, answers, _, _, _, _, latches, peers⟩ => ?_) rfl rfl
    have types := judgedImage_inputTypes image
    refine ⟨history, replies, reports, answers, Nat.zero_le _, ⟨Nat.zero_le _, Nat.zero_le _⟩, ?_, types, latches, peers⟩
    exact (List.length_map _).trans types
  unfold startStation
  rw [ledger_readerNext, ledger_wakeArbiter]
  exact started.trans (kept_releaseCheck _ check)

theorem restartEntry_tag (e : CustodyEntry) : (restartEntry e).tag = e.tag := by
  unfold restartEntry
  split <;> rfl

/-- An entry that a RESTART leaves HELD has no number and owes nothing (R151). -/
theorem settledFor_restartEntry (e : CustodyEntry) (receiving : Nat → Bool) : (restartEntry e).settledFor receiving := by
  unfold restartEntry
  dsimp only
  split
  case h_1 => exact settledFor_of_ne (by simp)
  case h_2 => exact settledFor_of_ne (by simp)
  case h_3 adrift => exact settledFor_of_ne (by simp [adrift])
  case h_4 disputed => exact settledFor_of_ne (by simp [disputed])
  case h_5 => intro _; simp

theorem kept_blocksRestarted : Kept (ledger s) (ledger (blocksRestarted s)) := by
  rw [blocksRestarted_frame]
  have none (P : Consignment → Prop) : ∀ r ∈ ([] : List Consignment), P r := List.forall_mem_nil P
  refine ⟨⟨fun _ => ?_, fun hd => ⟨List.nodup_nil, ?_⟩, fun _ hb => ⟨Nat.zero_le _, ?_, none _⟩, fun _ _ => none _⟩,
    fun _ _ _ => ?_⟩
  · rintro ⟨history, _, _, _, _, _, _, types, _, _⟩
    refine ⟨history, Nat.zero_le _, Nat.zero_le _, Nat.zero_le _, Nat.zero_le _, ⟨Nat.zero_le _, Nat.zero_le _⟩, ?_, types,
      List.length_replicate, List.length_replicate⟩
    exact (List.length_map _).trans types
  · have tags : ((s.custody.entries.filter staysAtRestart).map restartEntry).map (fun e => e.tag) =
        (s.custody.entries.filter staysAtRestart).map fun e => e.tag := by
      rw [List.map_map]
      exact List.map_congr_left fun e _ => restartEntry_tag e
    exact tags ▸ hd.2.sublist (List.filter_sublist.map _)
  · exact (List.length_map _).le.trans ((List.length_filter_le ..).trans hb.2.1)
  · exact List.forall_mem_map.2 fun e _ => settledFor_restartEntry e _

theorem kept_restartCommand : Kept (ledger s) (ledger (restartCommand s)) := by
  unfold restartCommand
  split
  · exact .of_eq (ledger_refuseCommand ..)
  · rw [takeRestart_eq, ledger_queueReports]
    exact kept_blocksRestarted s

/-! ### Commands -/

/-- The effect of every command that is an event of a running station, and what it keeps of the ledger. -/
theorem kept_effect (c : Instr) (h : actsUnstarted c = false) :
    ∃ effect : State → State, exec c s = runEvent effect s ∧ Kept (ledger s) (ledger (effect s)) :=
  match c with
  | .powerOn .. => nomatch h
  | .resetPin .. => nomatch h
  | .configImageRead .. => nomatch h
  | .mainsContactSettled .. => nomatch h
  | .mainsClearDelayExpiry => nomatch h
  | .uptimeMinute => ⟨_, rfl, .of_eq rfl⟩
  | .fireReset .. => ⟨_, rfl, kept_receiveCommand s _ _ _ fun u => kept_fireReset u⟩
  | .silence .. => ⟨_, rfl, kept_receiveCommand s _ _ _ fun u => .of_eq (ledger_silenceCommand u)⟩
  | .testStart .. => ⟨_, rfl, kept_receiveCommand s _ _ _ fun u => kept_testStart u⟩
  | .testEnd .. => ⟨_, rfl, kept_receiveCommand s _ _ _ fun u => kept_testEnd u⟩
  | .isolateOn .. => ⟨_, rfl, kept_receiveCommand s _ _ _ fun u => kept_isolateOn u⟩
  | .isolateOff .. => ⟨_, rfl, kept_receiveCommand s _ _ _ fun u => kept_isolateOff u⟩
  | .clearQuarantine .. => ⟨_, rfl, kept_receiveCommand s _ _ _ fun u => .of_eq (ledger_clearQuarantineAt u _)⟩
  | .restart .. => ⟨_, rfl, kept_receiveCommand s _ _ _ fun u => kept_restartCommand u⟩
  | .resolve .. => ⟨_, rfl, kept_receiveCommand s _ _ _ fun u => kept_resolveWith u _⟩
  | .commandInvalid f =>
    ⟨_, rfl, kept_receive s _ f _ (kept_consoleOnly f _ fun u => .of_eq (ledger_refuseCommand u ..))⟩
  | .stateFrame f => ⟨_, rfl, kept_receive s _ f _ fun u => kept_peerUpdate u ..⟩
  | .alarmFrame f => ⟨_, rfl, kept_receive s _ f _ fun u => kept_peerUpdate u ..⟩
  | .consign f => ⟨_, rfl, kept_receive s _ f _ (kept_consoleOnly f _ fun u => kept_takeConsign u _)⟩
  | .entry f => ⟨_, rfl, kept_receive s _ f _ (kept_consoleOnly f _ fun u => kept_takeEntry u _)⟩
  | .cancel f => ⟨_, rfl, kept_receive s _ f _ (kept_consoleOnly f _ fun u => kept_takeCancel u _)⟩
  | .offer f => ⟨_, rfl, kept_receive s _ f _ fun u => kept_takeOffer u ..⟩
  | .taken f => ⟨_, rfl, kept_receive s _ f _ fun u => kept_takeTaken u ..⟩
  | .cleared f => ⟨_, rfl, kept_receive s _ f _ fun u => kept_takeCleared u ..⟩
  | .withdraw f => ⟨_, rfl, kept_receive s _ f _ fun u => kept_takeWithdraw u ..⟩
  | .late f => ⟨_, rfl, kept_receive s _ f _ fun u => kept_takeLate u ..⟩
  | .refuse f => ⟨_, rfl, kept_receive s _ f _ fun u => kept_takeRefuse u ..⟩
  | .query f => ⟨_, rfl, kept_receive s _ f _ (kept_consoleOnly f _ fun u => .of_eq (ledger_takeQuery u ..))⟩
  | .discardedFrame .. => ⟨_, rfl, kept_discardFrame s _⟩
  | .frameGapTimeout => ⟨_, rfl, .of_eq (ledger_frameGap s)⟩
  | .lineStuckSet .. => ⟨_, rfl, .of_eq (ledger_lineStuck s _)⟩
  | .lineStuckClear => ⟨_, rfl, kept_lineRecovered s⟩
  | .transmitStart .. => ⟨_, rfl, kept_transmitStart s _⟩
  | .frameSent => ⟨_, rfl, .of_eq (ledger_frameSent s)⟩
  | .readbackFailure => ⟨_, rfl, .of_eq (ledger_failReadback s)⟩
  | .statusTimerExpiry => ⟨_, rfl, kept_statusOver s⟩
  | .conflictTimerExpiry => ⟨_, rfl, .of_eq (ledger_conflictOver s)⟩
  | .scanTimerExpiry .. => ⟨_, rfl, kept_scanTimerOver s _⟩
  | .inputConversionEnd .. => ⟨_, rfl, kept_inputConverted s _⟩
  | .probeConversionEnd .. => ⟨_, rfl, kept_probeConverted s _⟩
  | .verifyTimerExpiry .. => ⟨_, rfl, kept_verifyOver s _⟩
  | .climateTimerExpiry => ⟨_, rfl, .of_eq (ledger_climateTimerOver s)⟩
  | .climateHoldTimerExpiry => ⟨_, rfl, .of_eq (ledger_climateHoldOver s)⟩
  | .excursionDelayExpiry => ⟨_, rfl, .of_eq (ledger_excursionDelayOver s)⟩
  | .stabilizationTimerExpiry => ⟨_, rfl, kept_stabilizationOver s⟩
  | .countdownExpiry => ⟨_, rfl, kept_countdownOver s⟩
  | .releasePulseExpiry => ⟨_, rfl, .of_eq rfl⟩
  | .testTimerExpiry => ⟨_, rfl, kept_testTimerOver s⟩
  | .testLatchClearExpiry .. => ⟨_, rfl, .of_eq (ledger_testLatchOver s _)⟩
  | .testPulseEnd => ⟨_, rfl, .of_eq rfl⟩
  | .sounderCadenceExpiry => ⟨_, rfl, .of_eq (ledger_cadenceOver s)⟩
  | .minRunTimerExpiry => ⟨_, rfl, .of_eq (ledger_minRunExpired s)⟩
  | .minOffTimerExpiry => ⟨_, rfl, .of_eq (ledger_minOffExpired s)⟩
  | .slotScanStep .. => ⟨_, rfl, kept_slotScanStep s _⟩
  | .pullWindowExpiry .. => ⟨_, rfl, kept_pullWindowOver s _⟩
  | .returnWindowExpiry .. => ⟨_, rfl, .of_eq (ledger_returnWindowOver s _)⟩
  | .attentionRise => ⟨_, rfl, .of_eq rfl⟩
  | .readResponse .. => ⟨_, rfl, kept_readResponse s _⟩
  | .signalResponse .. => ⟨_, rfl, .of_eq (ledger_signalResponse s _)⟩
  | .responseTimeout => ⟨_, rfl, .of_eq (ledger_responseTimeout s)⟩
  | .bounceTimerExpiry => ⟨_, rfl, .of_eq rfl⟩
  | .recoveryTimerExpiry => ⟨_, rfl, .of_eq (ledger_recoveryOver s)⟩
  | .readerRestartDelayExpiry => ⟨_, rfl, .of_eq rfl⟩
  | .openingTimerExpiry .. => ⟨_, rfl, kept_openingOver s _⟩
  | .courierWindowExpiry .. => ⟨_, rfl, kept_courierOver s _⟩
  | .deadlineTimerExpiry .. => ⟨_, rfl, kept_deadlineOver s _⟩
  | .handoverTimerExpiry .. => ⟨_, rfl, kept_handoverOver s _⟩
  | .lapseTimerExpiry .. => ⟨_, rfl, kept_lapseOver s _⟩
  | .confirmTimerExpiry .. => ⟨_, rfl, kept_confirmOver s _⟩
  | .minuteTimerExpiry => ⟨minuteOver, rfl, .of_eq (ledger_minuteOver s)⟩
  | .doorContactSettled .. => ⟨_, rfl, .of_eq (ledger_doorSettled s _)⟩
  | .doorForcedTimerExpiry => ⟨_, rfl, .of_eq rfl⟩
  | .validFrameDropped _ f => ⟨_, rfl, kept_receive s _ f _ fun _ => .of_eq rfl⟩

theorem kept_exec {s t : State} (c : Instr) (h : exec c s = .next t) : Kept (ledger s) (ledger t) := by
  cases hc : actsUnstarted c with
  | false =>
    obtain ⟨effect, run, kept⟩ := kept_effect s c hc
    rw [run] at h
    cases h
    split
    · exact .then_eq kept (ledger_queueAlarmIfChanged ..)
    · exact .refl _
  | true =>
    cases c
    case powerOn own role => cases h; exact kept_beginStart s own role
    case resetPin own role => cases h; exact kept_beginStart s own role
    case configImageRead image attention check =>
      cases h
      split
      · exact kept_startStation s image attention check
      · exact kept_startStation s image attention check
      · exact .refl _
    case mainsContactSettled b => cases h; split <;> exact .of_eq (by simp)
    case mainsClearDelayExpiry => cases h; split <;> exact .of_eq (by simp)
    all_goals cases hc

/-! ### Seconds -/

theorem sized_tick : Sized (tick s) ↔ Sized s := by
  simp [Sized, tick, tickFire, FixedSizes]

theorem recordKept_tickRecord (r : Consignment) : RecordKept r (tickRecord r) := by
  refine ⟨rfl, id, fun placed => ?_⟩
  simpa [Consignment.timersPlaced, tickRecord, decTimer_isSome] using placed

/-- A second leaves of an entry all but its timer. -/
theorem tickCustody_frame (e : CustodyEntry) : tickCustody e = { e with timer := (tickCustody e).timer } := by
  unfold tickCustody
  split <;> rfl

theorem kept_tick : Kept (ledger s) (ledger (tick s)) := by
  have same : (ledger (tick s)).receiving = (ledger s).receiving := by
    funext n
    exact List.any_map
  refine ⟨⟨fun _ => (sized_tick s).2, fun hd => ⟨?_, ?_⟩, fun _ hb => ⟨?_, ?_, ?_⟩, fun _ ht => ?_⟩, fun _ _ ho => ?_⟩
  · exact (congrArg List.Nodup List.map_map).mpr hd.1
  · have tags : (s.custody.entries.map tickCustody).map (fun e => e.tag) = s.custody.entries.map fun e => e.tag := by
      rw [List.map_map]
      exact List.map_congr_left fun e _ => by rw [Function.comp_apply, tickCustody_frame]
    exact tags ▸ hd.2
  · exact (List.length_map _).le.trans hb.1
  · exact (List.length_map _).le.trans hb.2.1
  · exact List.forall_mem_map.2 hb.2.2
  · exact List.forall_mem_map.2 fun r hr => (recordKept_tickRecord r).timers (ht r hr)
  · refine List.forall_mem_map.2 fun e he => ?_
    rw [same, tickCustody_frame]
    exact ho e he

theorem kept_step {s t : State} (h : step s = .next t) : Kept (ledger s) (ledger t) := by
  unfold step at h
  split at h
  · cases h
    exact kept_tick s
  · next c rest _ => exact .after_eq (u := { s with pending := rest }) rfl (kept_exec c h)

/-- Settles O11: what a step keeps of the ledger. -/
theorem listsNumbersAndCountsKeepTheirLimits : Obligations.ListsNumbersAndCountsKeepTheirLimits := by
  unfold Obligations.ListsNumbersAndCountsKeepTheirLimits
  refine ⟨fun s t lists numbers tags owed checks sizes h => ?_, fun s t numbers tags timers offers h => ?_⟩
  · obtain ⟨sized, bounded⟩ := (limits_ledger s).1 ⟨lists, owed, checks, sizes⟩
    have kept := kept_step h
    have distinct : (ledger s).Distinct := ⟨numbers, tags⟩
    obtain ⟨lists', owed', checks', sizes'⟩ :=
      (limits_ledger t).2 ⟨kept.sized distinct sized, kept.bounded distinct bounded⟩
    obtain ⟨numbers', tags'⟩ := (distinct_ledger t).2 (kept.distinct distinct)
    exact ⟨lists', numbers', tags', owed', checks', sizes'⟩
  · have kept := kept_step h
    have distinct : (ledger s).Distinct := ⟨numbers, tags⟩
    exact ⟨(timersPlaced_ledger t).2 (kept.timers distinct timers),
      (offersSettled_ledger t).2 (kept.offers distinct timers ((offersSettled_ledger s).1 offers))⟩

end Sys2Proof.Machine
end

section
/-! ## The values of a probe (O24) -/

namespace Sys2Proof.Machine

/-- The quotient of R49 is the nearest: it is off the exact value by less than half a divisor. -/
theorem nearestQuotient (x : Nat) : x ≤ 4095 * ((x + 2047) / 4095) + 2047 ∧ 4095 * ((x + 2047) / 4095) ≤ x + 2047 := by
  omega

theorem humidityOf_nearest (a : Nat) : a * 1000 ≤ 4095 * humidityOf a + 2047 ∧ 4095 * humidityOf a ≤ a * 1000 + 2047 :=
  nearestQuotient (a * 1000)

theorem temperatureOf_eq (a : Nat) : temperatureOf a = -400 + ((a * 1100 + 2047) / 4095 : Nat) :=
  (sub_eq_neg_add ..)

theorem temperatureOf_nearest (a : Nat) :
    (a * 1100 : Nat) ≤ 4095 * (temperatureOf a + 400) + 2047 ∧ 4095 * (temperatureOf a + 400) ≤ (a * 1100 : Nat) + 2047 := by
  obtain ⟨low, high⟩ := nearestQuotient (a * 1100)
  rw [temperatureOf_eq]
  omega

/-- Settles O24: both values are nearest quotients, and the bounds follow. -/
theorem probeConversionRoundsToTheNearerTenth : Obligations.ProbeConversionRoundsToTheNearerTenth := by
  unfold Obligations.ProbeConversionRoundsToTheNearerTenth
  intro a ha
  have humidity := humidityOf_nearest a
  have temperature := temperatureOf_nearest a
  refine ⟨rfl, temperatureOf_eq a, ?_, ?_, ?_, ?_, ?_, fun low high => ⟨?_, ?_, ?_, ?_⟩⟩ <;> omega

end Sys2Proof.Machine
end

section
/-! ## The climate unit's timers run out (O34) -/

namespace Sys2Proof.Machine

/-! ### Forcing and the pause, where they hold -/

section
variable {s : State}

/-- Where a forced-off condition holds the allotter is forced: an event that finds it free stops what runs (R68, R74). -/
theorem reevaluateForced_of_forced (h : forcedCondition s = true) :
    reevaluateForced s =
      { s with allot := if s.allot.forced = true then s.allot else forcedOff s,
               line := { s.line with
                 stateQueued := s.line.stateQueued || (s.allot.running && !s.allot.forced) } } := by
  unfold reevaluateForced
  rw [h]
  cases hf : s.allot.forced with
  | true => simp
  | false =>
    unfold beginForcing stopDehumidifier forcedOff startTimer queueState
    cases hr : s.allot.running <;> simp [hr]

/-- Where a pause condition holds the hold countdown is paused, and nothing else happens (R160). -/
theorem judgePause_of_pause (h : pauseCondition s = true) : judgePause s = { s with hold := { s.hold with paused := true } } := by
  unfold judgePause
  rw [h]
  simp

end

/-! ### Entry to LOST (R51, R53, R58) -/

variable (s : State)

/-- The climate unit lost, the other blocks not told yet. -/
def climateLostNow : State :=
  { s with climate := { s.climate with state := .lost, bay := none, holdTimer := none, excursionTimer := none } }

/-- The same with CLIMATE_LOST set. -/
def lostTroubleSet : State := setTrouble .climateLost true (climateLostNow s)

theorem oneTrouble_lostTroubleSet : OneTrouble .climateLost (climateLostNow s) (lostTroubleSet s) :=
  oneTrouble_setTrouble _ _ _

theorem lostTroubleSet_frame :
    lostTroubleSet s =
      { climateLostNow s with
        line := (lostTroubleSet s).line,
        out := { s.out with active := (lostTroubleSet s).out.active, reported := (lostTroubleSet s).out.reported } } :=
  (oneTrouble_lostTroubleSet s).frame

/-- The hold timer's expiry: LOST with its trouble, the allotter forced, the countdown paused. -/
theorem climateHoldOver_eq (h : s.climate.holdTimer.isSome = true) :
    climateHoldOver s =
      { climateLostNow s with
        allot := if s.allot.forced = true then s.allot else forcedOff s,
        hold := { s.hold with paused := true },
        line := { (lostTroubleSet s).line with
          stateQueued := s.line.stateQueued || (s.allot.running && !s.allot.forced) },
        out := { s.out with active := (lostTroubleSet s).out.active, reported := (lostTroubleSet s).out.reported } } := by
  have run : climateHoldOver s = judgePause (reevaluateForced (lostTroubleSet s)) := if_pos h
  have lost : (lostTroubleSet s).climate.state = .lost := by rw [lostTroubleSet_frame]; rfl
  have allot : (lostTroubleSet s).allot = s.allot := by rw [lostTroubleSet_frame]; rfl
  have cfg : (lostTroubleSet s).cfg = s.cfg := by rw [lostTroubleSet_frame]; rfl
  have hold : (lostTroubleSet s).hold = s.hold := by rw [lostTroubleSet_frame]; rfl
  have stateQueued : (lostTroubleSet s).line.stateQueued = s.line.stateQueued :=
    by rw [(oneTrouble_lostTroubleSet s).reports]; rfl
  have off : forcedOff (lostTroubleSet s) = forcedOff s := by rw [forcedOff, forcedOff, allot, cfg]
  rw [run, reevaluateForced_of_forced (by simp [forcedCondition, lost, ClimateState.blind]), allot, off, stateQueued]
  refine (judgePause_of_pause ?_).trans (by rw [hold, lostTroubleSet_frame])
  simp [pauseCondition, lost, ClimateState.blind]

/-- A pause begins beside a report. -/
theorem paused_queueReport (r : Report) :
    { queueReport r s with hold := { (queueReport r s).hold with paused := true } } =
      queueReport r { s with hold := { s.hold with paused := true } } := by
  rw [queueReport_frame r s, queueReport_frame r { s with hold := { s.hold with paused := true } }, queueReport_line,
    queueReport_line]
  rfl

/-- The excursion delay's expiry: EXCURSION with its report, the countdown paused (R57). -/
theorem excursionDelayOver_eq (h : s.climate.excursionTimer.isSome = true) :
    excursionDelayOver s =
      queueReport (excursionReport .excursionStart (bayOrZero s.climate.bay))
        { s with
          climate := { s.climate with excursion := .excursion, excursionTimer := none },
          hold := { s.hold with paused := true } } := by
  have run : excursionDelayOver s =
      judgePause (queueReport (excursionReport .excursionStart (bayOrZero s.climate.bay)) (setExcursion .excursion none s)) :=
    if_pos h
  rw [run, judgePause_of_pause]
  · exact paused_queueReport ..
  · rw [pauseCondition, queueReport_climate]
    rfl

/-- Settles O34: what each expiry leaves, and nothing without its timer. -/
theorem climateTimersEnterLostAndExcursion : Obligations.ClimateTimersEnterLostAndExcursion := by
  unfold Obligations.ClimateTimersEnterLostAndExcursion
  refine ⟨fun s hr ht => ?_, fun s hr ht => ?_, fun s hr ht => ?_, fun s hr ht => ?_⟩
  · have after := climateHoldOver_eq s ht
    have one := oneTrouble_lostTroubleSet s
    have trouble (x : Trouble) : troubleActive x (climateHoldOver s) = troubleActive x (lostTroubleSet s) := by
      rw [after]; rfl
    refine ⟨climateHoldOver s, runEvent_of_fire_eq hr (by rw [after]; rfl) (by rw [after]; rfl), by rw [after]; rfl,
      by rw [after]; rfl, ?_, ?_, by rw [after], by rw [after], by rw [after], fun x _ hx => ?_, by rw [after]; rfl, ?_⟩
    · rw [trouble, lostTroubleSet, troubleActive_setTrouble, if_pos rfl]
    · rw [after]
      dsimp only
      split
      case isTrue forced => exact forced
      case isFalse => unfold forcedOff; split <;> rfl
    · rw [trouble, (one.others x hx).1]
      rfl
    · rw [after]
      exact congrArg (fun l : LineController =>
        { l with stateQueued := s.line.stateQueued || (s.allot.running && !s.allot.forced) }) one.reports
  · have stays : climateHoldOver s = s := if_neg (by simp [ht])
    exact (runEvent_of_fire_eq hr (by rw [stays]) (by rw [stays])).trans (by rw [stays])
  · have after := excursionDelayOver_eq s ht
    have report : excursionReport .excursionStart (bayOrZero s.climate.bay) =
        { kind := .excursionStart, value1 := (s.climate.bay.map fun b => (b.rh : Int)).getD 0,
          value2 := (s.climate.bay.map fun b => b.t).getD 0 } := by
      cases s.climate.bay <;> rfl
    refine (runEvent_of_fire_eq hr ?_ ?_).trans (by rw [after, report])
    · rw [after, queueReport_fire]
    · rw [after, queueReport_cfg]
  · have stays : excursionDelayOver s = s := if_neg (by simp [ht])
    exact (runEvent_of_fire_eq hr (by rw [stays]) (by rw [stays])).trans (by rw [stays])

end Sys2Proof.Machine
end

section
/-! ## What an operation tells the console

`Told rs s t` says that of the report queue, from one state to another, nothing but that certain reports entered it one
after another (R179). -/

namespace Sys2Proof.Machine

/-! ### The queue of reports -/

/-- The queued reports with one more; a full queue drops its oldest (R179). -/
def enqueue (q : List Report) (r : Report) : List Report :=
  if q.length < Config.reportMax then q ++ [r] else q.tail ++ [r]

theorem pushReport_reports (r : Report) (l : LineController) : (pushReport r l).reports = enqueue l.reports r := by
  unfold pushReport enqueue
  split <;> rfl

theorem mem_foldl_enqueue {r : Report} {rs q : List Report} (h : r ∈ rs.foldl enqueue q) : r ∈ q ∨ r ∈ rs := by
  induction rs generalizing q with
  | nil => exact .inl h
  | cons a rs ih =>
    rcases ih h with h | h
    · have entered : r ∈ q ∨ r = a := by
        unfold enqueue at h
        split at h
        · simpa using h
        · rcases List.mem_append.1 h with h | h
          · exact .inl (List.mem_of_mem_tail h)
          · exact .inr (List.mem_singleton.1 h)
      rcases entered with h | rfl
      · exact .inl h
      · exact .inr List.mem_cons_self
    · exact .inr (List.mem_cons_of_mem a h)

/-- Of the reports that enter a queue the newest eight stay, behind what else stays. -/
theorem suffix_foldl_enqueue (rs q : List Report) : rs.drop (rs.length - 8) <:+ rs.foldl enqueue q := by
  induction rs using List.reverseRecOn with
  | nil => exact List.nil_suffix
  | append_singleton rs r ih =>
    have newest : (rs ++ [r]).drop ((rs ++ [r]).length - 8) = rs.drop (rs.length - 7) ++ [r] := by
      rw [List.length_append, List.length_singleton, List.drop_append_of_le_length (by omega)]
      rfl
    have older : rs.drop (rs.length - 7) <:+ rs.foldl enqueue q :=
      (List.drop_suffix_drop_left rs (by omega)).trans ih
    rw [newest, List.foldl_append, List.foldl_cons, List.foldl_nil, enqueue]
    split
    · exact List.suffix_append_self_iff.2 older
    case isFalse full =>
      refine List.suffix_append_self_iff.2 (List.suffix_of_suffix_length_le older (List.tail_suffix _) ?_)
      rw [List.length_drop, List.length_tail]
      have full : 8 ≤ (rs.foldl enqueue q).length := Nat.not_lt.1 full
      omega

/-- The queued reports after certain reports arise; none enters where none leaves the station (R179). -/
def queuedAfter (s : State) (rs : List Report) : List Report :=
  if reportsGoOut s then rs.foldl enqueue s.line.reports else s.line.reports

/-! ### The relation -/

/-- Certain reports arise from `s` to `t`, and the queue of reports is changed by nothing else. -/
structure Told (rs : List Report) (s t : State) : Prop where
  queue : t.line.reports = queuedAfter s rs
  out : reportsGoOut t = reportsGoOut s

section
variable {s t u : State} {rs rs' : List Report}

theorem Told.trans (h : Told rs s t) (k : Told rs' t u) : Told (rs ++ rs') s u where
  queue := by
    rw [k.queue, queuedAfter, queuedAfter, h.queue, h.out, queuedAfter, List.foldl_append]
    split <;> rfl
  out := k.out.trans h.out

theorem Told.none (hl : t.line.reports = s.line.reports) (ho : reportsGoOut t = reportsGoOut s) : Told [] s t where
  queue := by
    rw [hl, queuedAfter]
    split <;> rfl
  out := ho

/-- A report of the queue stood in it or arose. -/
theorem Told.mem (h : Told rs s t) {r : Report} (hr : r ∈ t.line.reports) : r ∈ s.line.reports ∨ r ∈ rs := by
  rw [h.queue, queuedAfter] at hr
  split at hr
  · exact mem_foldl_enqueue hr
  · exact .inl hr

/-- The newest eight of the last reports that arise end the queue. -/
theorem Told.suffix (h : Told (rs ++ rs') s t) (ho : reportsGoOut s = true) :
    rs'.drop (rs'.length - 8) <:+ t.line.reports := by
  rw [h.queue, queuedAfter, if_pos ho, List.foldl_append]
  exact suffix_foldl_enqueue rs' _

/-- The last reports that arise end the queue where it holds them all. -/
theorem Told.suffix_of_few (h : Told (rs ++ rs') s t) (ho : reportsGoOut s = true) (few : rs'.length ≤ 8) :
    rs' <:+ t.line.reports := by
  simpa [Nat.sub_eq_zero_of_le few] using h.suffix ho

end

/-! ### What each operation of a sample tells -/

variable (s : State)

theorem foldl_pushReport_reports (rs : List Report) (l : LineController) :
    (rs.foldl (fun l r => pushReport r l) l).reports = rs.foldl enqueue l.reports := by
  induction rs generalizing l with
  | nil => rfl
  | cons r rs ih => rw [List.foldl_cons, ih, pushReport_reports]; rfl

theorem told_queueReports (rs : List Report) : Told rs s (queueReports rs s) where
  queue := by
    rw [queueReports_line, queuedAfter]
    split
    · exact foldl_pushReport_reports rs s.line
    · rfl
  out := reportsGoOut_queueReports s rs

theorem told_queueReport (r : Report) : Told [r] s (queueReport r s) := told_queueReports s [r]

/-- What a trouble's owner tells: a change outside STABILIZING (R187). -/
def troubleTold (x : Trouble) (b : Bool) (s : State) : List Report :=
  if troubleActive x s = b ∨ s.fire.state = .stabilizing then [] else [troubleReport x b]

theorem told_setTrouble {x : Trouble} (b : Bool) (hx : x ≠ .strapInvalid) :
    Told (troubleTold x b s) s (setTrouble x b s) where
  queue := by
    have out : reportsGoOut (setActive x b s) = reportsGoOut s := by
      rw [reportsGoOut, troubleActive_setActive, if_neg hx.symm]
      rfl
    have active : Told [] s (setActive x b s) := .none rfl out
    unfold setTrouble troubleTold
    by_cases same : troubleActive x s = b
    · rw [if_pos same, if_pos (.inl same)]
      exact (Told.none rfl rfl).queue
    · rw [if_neg same]
      by_cases quiet : s.fire.state = .stabilizing
      · rw [if_pos quiet, if_pos (.inr quiet)]
        exact active.queue
      · rw [if_neg quiet, if_neg (not_or.2 ⟨same, quiet⟩)]
        exact (active.trans (told_queueReport (setActive x b s) (troubleReport x b))).queue
  out := by
    rw [reportsGoOut, troubleActive_setTrouble, if_neg hx.symm, setTrouble_frame]
    rfl

/-- The HOLD_DONE reports of a minute expiry that waited in a pause that ends from `s` to `t` (R160, R161). -/
def holdsEnded (s t : State) : List Report :=
  if s.hold.paused = true ∧ s.hold.seconds = 0 ∧ pauseCondition t = false then
    (s.scanner.slots.filter holdEnds).map holdDoneReport
  else []

theorem told_judgePause : Told (holdsEnded s s) s (judgePause s) := by
  have test : (s.hold.paused && !pauseCondition s && s.hold.seconds == 0) = true ↔
      s.hold.paused = true ∧ s.hold.seconds = 0 ∧ pauseCondition s = false := by
    simp [and_assoc, and_comm (a := s.hold.seconds = 0)]
  unfold judgePause holdsEnded countHoldsDown
  simp only [test]
  split
  · have started (u : State) (hl : u.line = s.line) (ho : reportsGoOut u = reportsGoOut s) (rs : List Report) :
        Told rs s (queueReports rs u) :=
      (Told.none (congrArg _ hl) ho).trans (told_queueReports u rs)
    refine started _ ?_ ?_ _ <;> rfl
  · exact .none rfl rfl

theorem told_allotSampleTaken : Told [] s (allotSampleTaken s) := by
  rw [allotSampleTaken_frame]
  exact .none rfl rfl

theorem told_sampleNotices : Told (holdsEnded s s) s (sampleNotices s) :=
  List.append_nil (holdsEnded s s) ▸ (told_judgePause s).trans (told_allotSampleTaken _)

/-- What an owed sequence begun tells: the end of CLIMATE_STARVED (R16). -/
def starvedTold (s : State) : List Report := if s.sup.owed = 1 then troubleTold .climateStarved false s else []

theorem told_afterSequence : Told (starvedTold s) s (afterSequence s) := by
  have begun : Told [] s { s with sup := owedBegun s.sup } := .none rfl rfl
  rw [afterSequence_eq, starvedTold]
  split
  · exact begun.trans (told_setTrouble { s with sup := owedBegun s.sup } (x := .climateStarved) false (by simp))
  · exact begun

theorem troubleTold_kind {x : Trouble} {b : Bool} {r : Report} (h : r ∈ troubleTold x b s) :
    r.kind = .troubleSet ∨ r.kind = .troubleClear := by
  unfold troubleTold at h
  split at h
  · cases h
  · rw [List.mem_singleton.1 h]
    cases b <;> simp [troubleReport]

theorem holdsEnded_kind {s t : State} {r : Report} (h : r ∈ holdsEnded s t) : r.kind = .holdDone := by
  unfold holdsEnded at h
  split at h
  · obtain ⟨sl, _, rfl⟩ := List.mem_map.1 h
    rfl
  · cases h

theorem starvedTold_kind {r : Report} (h : r ∈ starvedTold s) : r.kind = .troubleSet ∨ r.kind = .troubleClear := by
  unfold starvedTold at h
  split at h
  · exact troubleTold_kind s h
  · cases h

end Sys2Proof.Machine
end

section
/-! ## The excursion part of a sample (R55 to R58) -/

namespace Sys2Proof.Machine

theorem outOfBand_iff (cfg : Settings) (b : Bay) :
    outOfBand cfg b = true ↔ cfg.rhHigh ≤ b.rh ∨ b.rh ≤ cfg.rhLow ∨ cfg.tHigh ≤ b.t ∨ b.t ≤ cfg.tLow := by
  simp [outOfBand, or_assoc]

theorem wellInBand_iff (cfg : Settings) (b : Bay) :
    wellInBand cfg b = true ↔
      b.rh + 20 ≤ cfg.rhHigh ∧ cfg.rhLow + 20 ≤ b.rh ∧ b.t + 20 ≤ cfg.tHigh ∧ cfg.tLow + 20 ≤ b.t := by
  simp [wellInBand, and_assoc]

/-- What the evaluation of the excursion state can do (R56 to R58). -/
inductive ExcursionMove (leftLost : Bool) (b : Bay) (s : State) : State → Prop
  /-- nothing; a delay runs on -/
  | stays (inBand : s.climate.excursion = .inBand → outOfBand s.cfg b = false)
      (pending : s.climate.excursion = .pending → outOfBand s.cfg b = true ∧ leftLost = false)
      (excursion : s.climate.excursion = .excursion → wellInBand s.cfg b = false) : ExcursionMove leftLost b s s
  /-- a delay ends in band -/
  | calms (pending : s.climate.excursion = .pending) (inside : outOfBand s.cfg b = false) :
      ExcursionMove leftLost b s (setExcursion .inBand none s)
  /-- a delay begins, or begins again after LOST -/
  | delays (from' : s.climate.excursion = .inBand ∨ s.climate.excursion = .pending ∧ leftLost = true)
      (outside : outOfBand s.cfg b = true) (delay : s.cfg.excursionDelay ≠ 0) :
      ExcursionMove leftLost b s (setExcursion .pending (some s.cfg.excursionDelay) s)
  /-- an excursion starts, where the delay is 0 -/
  | starts (from' : s.climate.excursion = .inBand ∨ s.climate.excursion = .pending ∧ leftLost = true)
      (outside : outOfBand s.cfg b = true) (delay : s.cfg.excursionDelay = 0) :
      ExcursionMove leftLost b s (queueReport (excursionReport .excursionStart b) (setExcursion .excursion none s))
  /-- an excursion ends -/
  | ends (excursion : s.climate.excursion = .excursion) (well : wellInBand s.cfg b = true) :
      ExcursionMove leftLost b s (queueReport (excursionReport .excursionEnd b) (setExcursion .inBand none s))

theorem excursionMove_judgeExcursion (leftLost : Bool) (b : Bay) (s : State) :
    ExcursionMove leftLost b s (judgeExcursion leftLost b s) := by
  have begins (from' : s.climate.excursion = .inBand ∨ s.climate.excursion = .pending ∧ leftLost = true)
      (outside : outOfBand s.cfg b = true) : ExcursionMove leftLost b s (beginDelay b s) := by
    unfold beginDelay
    split
    case isTrue none => exact .starts from' outside none
    case isFalse delay => exact .delays from' outside delay
  unfold judgeExcursion
  split
  case h_1 inBand =>
    split
    case isTrue outside => exact begins (.inl inBand) outside
    case isFalse inside => exact .stays (fun _ => by simpa using inside) (by simp [inBand]) (by simp [inBand])
  case h_2 pending =>
    split
    case isTrue outside =>
      split
      case isTrue left => exact begins (.inr ⟨pending, left⟩) outside
      case isFalse left =>
        exact .stays (by simp [pending]) (fun _ => ⟨outside, by simpa using left⟩) (by simp [pending])
    case isFalse inside => exact .calms pending (by simpa using inside)
  case h_3 excursion =>
    split
    case isTrue well => exact .ends excursion well
    case isFalse well => exact .stays (by simp [excursion]) (by simp [excursion]) fun _ => by simpa using well

section
variable {leftLost : Bool} {b : Bay} {s t : State} (m : ExcursionMove leftLost b s t)
include m

theorem ExcursionMove.excursion_eq :
    t.climate.excursion =
      if s.climate.excursion = .inBand then
        (if ¬ outOfBand s.cfg b = true then .inBand else if s.cfg.excursionDelay = 0 then .excursion else .pending)
      else if s.climate.excursion = .pending then
        (if ¬ outOfBand s.cfg b = true then .inBand
         else if leftLost = true ∧ s.cfg.excursionDelay = 0 then .excursion else .pending)
      else if wellInBand s.cfg b = true then .inBand else .excursion := by
  cases m with
  | stays inBand pending excursion =>
    cases e : s.climate.excursion with
    | inBand => simp [inBand e]
    | pending => simp [pending e]
    | excursion => simp [excursion e]
  | calms pending inside => simp [setExcursion, pending, inside]
  | delays from' outside delay => rcases from' with e | ⟨e, left⟩ <;> simp [setExcursion, e, outside, delay]
  | starts from' outside delay => rcases from' with e | ⟨e, left⟩ <;> simp [setExcursion, *]
  | ends excursion well => simp [setExcursion, excursion, well]

/-- The timer of a delay runs on, or begins. -/
theorem ExcursionMove.timer_of_pending (h : t.climate.excursion = .pending) :
    t.climate.excursionTimer =
      if s.climate.excursion = .pending ∧ leftLost = false then s.climate.excursionTimer
      else some s.cfg.excursionDelay := by
  cases m with
  | stays inBand pending excursion => rw [if_pos ⟨h, (pending h).2⟩]
  | calms => cases h
  | delays from' outside delay => rcases from' with e | ⟨e, left⟩ <;> simp [setExcursion, *]
  | starts =>
    rw [queueReport_climate] at h
    cases h
  | ends =>
    rw [queueReport_climate] at h
    cases h

/-- A move that leaves no delay leaves no timer. -/
theorem ExcursionMove.timer_of_ne (h : t.climate.excursion ≠ s.climate.excursion) (hp : t.climate.excursion ≠ .pending) :
    t.climate.excursionTimer = none := by
  cases m with
  | stays => exact absurd rfl h
  | calms => rfl
  | delays => exact absurd rfl hp
  | starts => rw [queueReport_climate]; rfl
  | ends => rw [queueReport_climate]; rfl

end

/-- What the console is told of a move of the excursion state (R57, R58). -/
def excursionTold (before after : ExcursionState) (b : Bay) : List Report :=
  if before ≠ .excursion ∧ after = .excursion then [excursionReport .excursionStart b]
  else if before = .excursion ∧ after = .inBand then [excursionReport .excursionEnd b]
  else []

theorem excursionTold_self (e : ExcursionState) (b : Bay) : excursionTold e e b = [] := by
  cases e <;> simp [excursionTold]

theorem ExcursionMove.told {leftLost : Bool} {b : Bay} {s t : State} (m : ExcursionMove leftLost b s t) :
    Told (excursionTold s.climate.excursion t.climate.excursion b) s t := by
  have written (e : ExcursionState) (n : Option Nat) : Told [] s (setExcursion e n s) := .none rfl rfl
  cases m with
  | stays => exact excursionTold_self .. ▸ .none rfl rfl
  | calms pending => simpa [excursionTold, setExcursion, pending] using written .inBand none
  | delays from' =>
    have told : excursionTold s.climate.excursion .pending b = [] := by simp [excursionTold]
    exact told ▸ written ..
  | starts from' =>
    have told : excursionTold s.climate.excursion .excursion b = [excursionReport .excursionStart b] := by
      rcases from' with e | ⟨e, _⟩ <;> simp [excursionTold, e]
    rw [queueReport_climate]
    exact told ▸ (written ..).trans (told_queueReport ..)
  | ends excursion =>
    rw [queueReport_climate, excursion]
    exact (written ..).trans (told_queueReport ..)

/-! ### In a sample -/

variable (s : State)

/-- In LOST the excursion state is frozen, and its timer goes (R58). -/
theorem sampleExcursion_lost (before : ClimateState) (h : s.climate.state = .lost) :
    sampleExcursion before s = setExcursion s.climate.excursion none s := by
  rw [sampleExcursion, h]

theorem sampleExcursion_of_bay (before : ClimateState) {b : Bay} (h : s.climate.state ≠ .lost) (hb : s.climate.bay = some b) :
    ExcursionMove (before == .lost) b s (sampleExcursion before s) := by
  have judged : sampleExcursion before s = judgeExcursion (before == .lost) b s := by
    rw [sampleExcursion, hb]
    cases e : s.climate.state <;> simp [e] at h ⊢
  rw [judged]
  exact excursionMove_judgeExcursion ..

theorem told_sampleExcursion (before : ClimateState) :
    Told (excursionTold s.climate.excursion (sampleExcursion before s).climate.excursion (bayOrZero s.climate.bay)) s
      (sampleExcursion before s) := by
  by_cases h : s.climate.state = .lost
  · rw [sampleExcursion_lost s before h]
    exact excursionTold_self .. ▸ .none rfl rfl
  · cases hb : s.climate.bay with
    | some b => exact (sampleExcursion_of_bay s before h hb).told
    | none =>
      have stays : sampleExcursion before s = s := by
        rw [sampleExcursion, hb]
        cases e : s.climate.state <;> simp [e] at h ⊢
      rw [stays]
      exact excursionTold_self .. ▸ .none rfl rfl

end Sys2Proof.Machine
end

section
/-! ## The records of a sample, and what it tells (R47 to R49, R54, R57 to R62) -/

namespace Sys2Proof.Machine

/-! ### Probe values (R47 to R49) -/

/-- Half of 2^n is added before the sum is divided, for one conversion too. -/
theorem averageCode_eq (n sum : Nat) : averageCode n sum = (sum + 2 ^ n / 2) / 2 ^ n := by
  cases n with
  | zero => simp [averageCode]
  | succ n => rw [averageCode, if_neg (Nat.succ_ne_zero n), Nat.pow_succ, Nat.mul_div_cancel _ (by decide)]; rfl

theorem probeValue_eq (n : Nat) (rh t : Channel) :
    probeValue n rh t =
      if rh.low ≤ 8 ∨ 4087 ≤ rh.high ∨ t.low ≤ 8 ∨ 4087 ≤ t.high then none
      else some { rh := humidityOf (averageCode n rh.sum), t := temperatureOf (averageCode n t.sum) } := by
  simp [probeValue, channelFaulted, or_assoc]

/-! ### The history (R59 to R61) -/

theorem beyondDeadband_iff (d : Nat) (x y : Option Bay) :
    beyondDeadband d x y = true ↔
      ∃ a ∈ x, ∃ b ∈ y, d ≤ ((a.rh : Int) - (b.rh : Int)).natAbs ∨ d ≤ (a.t - b.t).natAbs := by
  cases x <;> cases y <;> simp [beyondDeadband]

theorem changed_iff (d : Nat) (last : Option HistoryRecord) (r : HistoryRecord) :
    changed d last r = true ↔ ∀ l ∈ last, l.climate ≠ r.climate ∨
      ∃ a ∈ r.bay, ∃ b ∈ l.bay, d ≤ ((a.rh : Int) - (b.rh : Int)).natAbs ∨ d ≤ (a.t - b.t).natAbs := by
  cases last with
  | none => simp [changed]
  | some l => simp [changed, beyondDeadband_iff, ne_comm]

/-- The policies (R60). -/
theorem storeRecord_iff (s : State) (before : ExcursionState) (r : HistoryRecord) :
    storeRecord s before r = true ↔
      s.climate.storedSinceStart = false ∨ s.cfg.policy = .every ∨
      (s.cfg.policy = .change ∧ ∀ l ∈ s.climate.history.getLast?, l.climate ≠ r.climate ∨
        ∃ a ∈ r.bay, ∃ b ∈ l.bay,
          s.cfg.deadband ≤ ((a.rh : Int) - (b.rh : Int)).natAbs ∨ s.cfg.deadband ≤ (a.t - b.t).natAbs) ∨
      (s.cfg.policy = .excursion ∧ (r.excursion ≠ .inBand ∨ before ≠ .inBand)) := by
  rw [← changed_iff, storeRecord, Bool.or_eq_true, Bool.not_eq_true']
  refine or_congr_right ?_
  cases s.cfg.policy <;> simp

theorem pushHistory_eq (h : List HistoryRecord) (r : HistoryRecord) :
    pushHistory h r = (if h.length < 64 then h else h.tail) ++ [r] :=
  (apply_ite (· ++ [r]) (h.length < 64) h h.tail).symm

section
variable (s : State) (before : ExcursionState)

theorem sampleHistory_history :
    (sampleHistory before s).climate.history =
      if storeRecord s before (sampleRecord s) = true then pushHistory s.climate.history (sampleRecord s)
      else s.climate.history := by
  unfold sampleHistory
  dsimp only
  split <;> rfl

/-- The first sample since the start is stored. -/
theorem sampleHistory_storedSinceStart : (sampleHistory before s).climate.storedSinceStart = true := by
  unfold sampleHistory
  dsimp only
  split
  case isTrue => rfl
  case isFalse kept => exact Bool.not_eq_false _ ▸ fun first => kept ((storeRecord_iff ..).2 (.inl first))

end

/-! ### The sample judged, before its record is made -/

variable (s : State) (a b : Option Bay)

/-- The sample combined, with its troubles told and its excursion state moved. -/
def sampleJudged (a b : Option Bay) (s : State) : State := sampleExcursion s.climate.state (sampleCombined a b s)

/-- A sample's combination writes the state, the bay values and the hold timer. -/
theorem combined_frame (cfg : Settings) (c : ClimateRecord) :
    combined cfg a b c =
      { c with state := (combined cfg a b c).state, bay := (combined cfg a b c).bay,
               holdTimer := (combined cfg a b c).holdTimer } := by
  unfold combined bothFaulted
  repeat' split
  all_goals rfl

theorem sampleCombined_frame :
    sampleCombined a b s =
      { s with
        climate := { s.climate with
          state := (sampleCombined a b s).climate.state, bay := (sampleCombined a b s).climate.bay,
          holdTimer := (sampleCombined a b s).climate.holdTimer },
        line := (sampleCombined a b s).line, out := (sampleCombined a b s).out } := by
  have told (u : State) (x y z : Trouble) (i j k : Bool) :
      setTrouble x i (setTrouble y j (setTrouble z k u)) =
        { u with line := (setTrouble x i (setTrouble y j (setTrouble z k u))).line,
                 out := (setTrouble x i (setTrouble y j (setTrouble z k u))).out } := by
    rw [setTrouble_frame x, setTrouble_frame y, setTrouble_frame z]
  have made := combined_frame a b s.cfg s.climate
  rw [← sampleCombined_climate] at made
  rw [← made, sampleCombined_climate]
  exact told ..

/-- What is judged differs from the sample's beginning in the climate record, the line record and the drivers; of the
climate record the history and the episode are as they were. -/
theorem sampleJudged_frame :
    sampleJudged a b s =
      { s with
        climate := { s.climate with
          state := (sampleJudged a b s).climate.state, bay := (sampleJudged a b s).climate.bay,
          holdTimer := (sampleJudged a b s).climate.holdTimer,
          excursion := (sampleJudged a b s).climate.excursion,
          excursionTimer := (sampleJudged a b s).climate.excursionTimer },
        line := (sampleJudged a b s).line, out := (sampleJudged a b s).out } := by
  have made := sampleCombined_frame s a b
  have moved := sampleExcursion_frame (sampleCombined a b s) s.climate.state
  unfold sampleJudged
  generalize sampleCombined a b s = u at *
  generalize sampleExcursion s.climate.state u = v at *
  rw [moved, made]

/-- The climate record after a sample. -/
theorem takeSample_climate :
    (takeSample a b s).climate =
      { (sampleJudged a b s).climate with
        history := (sampleHistory s.climate.excursion (sampleJudged a b s)).climate.history,
        storedSinceStart := true,
        episode := countSample (sampleJudged a b s).climate.bay s.climate.episode } := by
  have judged : (sampleJudged a b s).climate.episode = s.climate.episode := by rw [sampleJudged_frame]
  have recorded : sampleRecorded a b s = sampleHistory s.climate.excursion (sampleJudged a b s) := rfl
  rw [takeSample_eq, sampleNotices_climate, recorded,
    ← sampleHistory_storedSinceStart (sampleJudged a b s) s.climate.excursion, ← judged, sampleEpisode,
    sampleHistory_frame]

/-- The record of a sample is stored by the policy (R60, R61). -/
theorem takeSample_history :
    (takeSample a b s).climate.history =
      if storeRecord s s.climate.excursion (sampleRecord (sampleJudged a b s)) = true then
        pushHistory s.climate.history (sampleRecord (sampleJudged a b s))
      else s.climate.history := by
  have stored : storeRecord (sampleJudged a b s) s.climate.excursion = storeRecord s s.climate.excursion := by
    unfold storeRecord
    rw [sampleJudged_frame]
  have history : (sampleJudged a b s).climate.history = s.climate.history := by rw [sampleJudged_frame]
  rw [takeSample_climate, sampleHistory_history, stored, history]

/-- Its fields: those after the sample, but what the notices to the allotter and the fire controller change (R59). -/
theorem sampleRecord_sampleJudged :
    sampleRecord (sampleJudged a b s) =
      { stamp := s.uptime, bay := (takeSample a b s).climate.bay, climate := (takeSample a b s).climate.state,
        running := s.allot.running, fireRaised := s.fire.state.raised,
        excursion := (takeSample a b s).climate.excursion } := by
  rw [takeSample_climate, sampleRecord, sampleJudged_frame]

/-! ### What a sample tells -/

theorem sampleNotices_fire : (sampleNotices s).fire = s.fire := by
  rw [sampleNotices, allotSampleTaken_frame, judgePause_frame]

theorem told_sampleCombined :
    ∃ rs, (∀ r ∈ rs, r.kind = .troubleSet ∨ r.kind = .troubleClear) ∧ Told rs s (sampleCombined a b s) := by
  have combine (c : ClimateRecord) : Told [] s { s with climate := c } := .none rfl rfl
  refine ⟨_, ?_, (((combine _).trans (told_setTrouble _ _ (x := .probeFault) (by simp))).trans
    (told_setTrouble _ _ (x := .probeDisagree) (by simp))).trans (told_setTrouble _ _ (x := .climateLost) (by simp))⟩
  intro r hr
  simp only [List.nil_append, List.mem_append] at hr
  rcases hr with (hr | hr) | hr
  all_goals exact troubleTold_kind _ hr

theorem told_takeSample :
    ∃ rs, (∀ r ∈ rs, r.kind = .troubleSet ∨ r.kind = .troubleClear) ∧
      Told (rs ++ (excursionTold s.climate.excursion (takeSample a b s).climate.excursion
        (bayOrZero (takeSample a b s).climate.bay) ++ holdsEnded s (takeSample a b s))) s (takeSample a b s) := by
  obtain ⟨rs, kinds, combined⟩ := told_sampleCombined s a b
  have moved := told_sampleExcursion (sampleCombined a b s) s.climate.state
  have excursion : (sampleCombined a b s).climate.excursion = s.climate.excursion := by rw [sampleCombined_frame]
  have bay : (sampleCombined a b s).climate.bay = (sampleJudged a b s).climate.bay := by
    rw [sampleJudged, sampleExcursion_frame]
  have recorded : sampleRecorded a b s = sampleHistory s.climate.excursion (sampleJudged a b s) := rfl
  have kept : Told [] (sampleJudged a b s) (sampleEpisode (sampleRecorded a b s)) := by
    rw [recorded, sampleHistory_frame]
    exact .none rfl rfl
  have notified := told_sampleNotices (sampleEpisode (sampleRecorded a b s))
  have holds : holdsEnded (sampleEpisode (sampleRecorded a b s)) (sampleEpisode (sampleRecorded a b s)) =
      holdsEnded s (takeSample a b s) := by
    have pause : pauseCondition (takeSample a b s) = pauseCondition (sampleEpisode (sampleRecorded a b s)) :=
      pauseCondition_congr (sampleNotices_climate _) (congrArg FireRecord.state (sampleNotices_fire _))
    rw [holdsEnded, holdsEnded, pause, recorded, sampleHistory_frame, sampleJudged_frame]
    rfl
  rw [excursion, bay] at moved
  rw [holds] at notified
  have all := combined.trans ((moved.trans kept).trans notified)
  rw [List.append_nil] at all
  rw [takeSample_climate]
  exact ⟨rs, kinds, all⟩

theorem starvedTold_eq :
    starvedTold s =
      if s.sup.owed = 1 ∧ troubleActive .climateStarved s = true ∧ s.fire.state ≠ .stabilizing then
        [{ kind := .troubleClear, code := Trouble.climateStarved.code }]
      else [] := by
  have quiet : (troubleActive .climateStarved s = false ∨ s.fire.state = .stabilizing) ↔
      ¬ (troubleActive .climateStarved s = true ∧ s.fire.state ≠ .stabilizing) := by
    rw [not_and_or, Bool.not_eq_true, not_not]
  unfold starvedTold troubleTold
  simp only [quiet, ite_not, ite_and]
  rfl

theorem starvedTold_takeSample : starvedTold (takeSample a b s) = starvedTold s := by
  have active : troubleActive .climateStarved (takeSample a b s) = troubleActive .climateStarved s := by
    rw [troubleActive, takeSample_out]
    exact troubleActive_sampleCombined s a b .climateStarved
  have frame := eq_of_beyondSampling (beyondSampling_takeSample s a b)
  rw [starvedTold_eq, starvedTold_eq, active, frame]

/-- The sequence gone, its sample taken. -/
def sequenceSampled (a b : Option Bay) (s : State) : State := takeSample a b { s with sup := { s.sup with seq := none } }

theorem sequenceEnded_climate_eq : (sequenceEnded a b s).climate = (sequenceSampled a b s).climate := by
  rw [sequenceEnded, (oneTrouble_afterSequence _).frame]
  rfl

/-- The sample of a sequence that ends tells its troubles, its excursion and the holds that end with it, and the end of
CLIMATE_STARVED after them. -/
theorem told_sequenceEnded :
    ∃ rs, (∀ r ∈ rs, r.kind = .troubleSet ∨ r.kind = .troubleClear) ∧
      Told (rs ++ (excursionTold s.climate.excursion (sequenceEnded a b s).climate.excursion
        (bayOrZero (sequenceEnded a b s).climate.bay) ++ holdsEnded s (sequenceEnded a b s) ++ starvedTold s)) s
        (sequenceEnded a b s) := by
  obtain ⟨rs, kinds, sampled⟩ := told_takeSample { s with sup := { s.sup with seq := none } } a b
  have starved := told_afterSequence (sequenceSampled a b s)
  have owed : starvedTold (sequenceSampled a b s) = starvedTold s := starvedTold_takeSample _ a b
  have fire : (sequenceEnded a b s).fire = (sequenceSampled a b s).fire := by
    rw [sequenceEnded, (oneTrouble_afterSequence _).frame]
    rfl
  have holds : holdsEnded s (sequenceEnded a b s) = holdsEnded s (sequenceSampled a b s) := by
    rw [holdsEnded, holdsEnded, pauseCondition_congr (sequenceEnded_climate_eq s a b) (congrArg _ fire)]
  rw [owed] at starved
  have all := sampled.trans starved
  rw [List.append_assoc] at all
  rw [holds, sequenceEnded_climate_eq]
  exact ⟨rs, kinds, all.queue, all.out⟩

end Sys2Proof.Machine
end

section
/-! ## The last conversion of a sequence moves the excursion state and makes its record (O57) -/

namespace Sys2Proof.Machine

section
variable {s : State} {a b : Option Bay}

@[simp] theorem sampleCombined_excursion : (sampleCombined a b s).climate.excursion = s.climate.excursion := by
  rw [sampleCombined_frame]

@[simp] theorem sampleCombined_excursionTimer :
    (sampleCombined a b s).climate.excursionTimer = s.climate.excursionTimer := by
  rw [sampleCombined_frame]

@[simp] theorem sampleCombined_cfg : (sampleCombined a b s).cfg = s.cfg := by
  rw [sampleCombined_frame]

/-- A sample in LOST: the excursion state is frozen, and its timer goes (R58). -/
theorem takeSample_lost (h : (takeSample a b s).climate.state = .lost) :
    (takeSample a b s).climate.excursion = s.climate.excursion ∧ (takeSample a b s).climate.excursionTimer = none := by
  rw [takeSample_climate] at h ⊢
  have lost : (sampleCombined a b s).climate.state = .lost := by
    rw [← h, sampleJudged, sampleExcursion_frame]
  have frozen := sampleExcursion_lost (sampleCombined a b s) s.climate.state lost
  rw [sampleJudged, frozen, sampleCombined_excursion]
  exact ⟨rfl, rfl⟩

/-- What became of the excursion state where the bay values are judged. -/
theorem excursionMove_takeSample {x : Bay} (h : (takeSample a b s).climate.state ≠ .lost)
    (hb : (takeSample a b s).climate.bay = some x) :
    ExcursionMove (s.climate.state == .lost) x (sampleCombined a b s) (sampleJudged a b s) := by
  rw [takeSample_climate] at h hb
  have parts : (sampleJudged a b s).climate.state = (sampleCombined a b s).climate.state ∧
      (sampleJudged a b s).climate.bay = (sampleCombined a b s).climate.bay := by
    rw [sampleJudged, sampleExcursion_frame]
    exact ⟨rfl, rfl⟩
  exact sampleExcursion_of_bay _ _ (parts.1 ▸ h) (parts.2 ▸ hb)

section
variable {x : Bay} (h : (takeSample a b s).climate.state ≠ .lost) (hb : (takeSample a b s).climate.bay = some x)
include h hb

theorem takeSample_excursion :
    (takeSample a b s).climate.excursion =
      if s.climate.excursion = .inBand then
        (if ¬ (s.cfg.rhHigh ≤ x.rh ∨ x.rh ≤ s.cfg.rhLow ∨ s.cfg.tHigh ≤ x.t ∨ x.t ≤ s.cfg.tLow) then .inBand
         else if s.cfg.excursionDelay = 0 then .excursion else .pending)
      else if s.climate.excursion = .pending then
        (if ¬ (s.cfg.rhHigh ≤ x.rh ∨ x.rh ≤ s.cfg.rhLow ∨ s.cfg.tHigh ≤ x.t ∨ x.t ≤ s.cfg.tLow) then .inBand
         else if s.climate.state = .lost ∧ s.cfg.excursionDelay = 0 then .excursion else .pending)
      else if x.rh + 20 ≤ s.cfg.rhHigh ∧ s.cfg.rhLow + 20 ≤ x.rh ∧ x.t + 20 ≤ s.cfg.tHigh ∧ s.cfg.tLow + 20 ≤ x.t then
        .inBand
      else .excursion := by
  have moved := (excursionMove_takeSample h hb).excursion_eq
  simp only [outOfBand_iff, wellInBand_iff, beq_iff_eq, sampleCombined_excursion, sampleCombined_cfg] at moved
  rw [takeSample_climate]
  exact moved

theorem takeSample_timer_of_pending (hp : (takeSample a b s).climate.excursion = .pending) :
    (takeSample a b s).climate.excursionTimer =
      if s.climate.excursion = .pending ∧ s.climate.state ≠ .lost then s.climate.excursionTimer
      else some s.cfg.excursionDelay := by
  have move := excursionMove_takeSample h hb
  rw [takeSample_climate] at hp ⊢
  have timer := move.timer_of_pending hp
  simp only [beq_eq_false_iff_ne, sampleCombined_excursion, sampleCombined_excursionTimer, sampleCombined_cfg] at timer
  exact timer

theorem takeSample_timer_of_ne (hn : (takeSample a b s).climate.excursion ≠ s.climate.excursion)
    (hp : (takeSample a b s).climate.excursion ≠ .pending) : (takeSample a b s).climate.excursionTimer = none := by
  have move := excursionMove_takeSample h hb
  rw [takeSample_climate] at hn hp ⊢
  exact move.timer_of_ne (by rwa [sampleCombined_excursion]) hp

end

/-- An episode that is OPEN widens its extremes to the bay values (R62). -/
theorem extremes_countSample {x : Bay} {e : Episode} (h : e.status = .opened) :
    (countSample (some x) e).extremes = some
      { tMin := min ((e.extremes.map fun y => y.tMin).getD x.t) x.t,
        tMax := max ((e.extremes.map fun y => y.tMax).getD x.t) x.t,
        rhMax := max ((e.extremes.map fun y => y.rhMax).getD x.rh) x.rh } := by
  simp only [countSample, h, if_true]
  cases e.extremes <;> simp [widen]

theorem countSample_of_ne (bay : Option Bay) {e : Episode} (h : e.status ≠ .opened) : countSample bay e = e := by
  unfold countSample
  split
  · exact if_neg h
  · rfl

end

theorem holdEnds_eq : holdEnds = fun sl => decide (sl.state = .hold ∧ sl.hold.getD 0 ≤ 1) := by
  funext sl
  simp [holdEnds, Bool.beq_eq_decide_eq]

/-- A report of an excursion arises from a move of the excursion state, as its kind says. -/
theorem excursionTold_kind {before after : ExcursionState} {x : Bay} {r : Report} (h : r ∈ excursionTold before after x) :
    (r.kind = .excursionStart → after = .excursion ∧ before ≠ .excursion) ∧
    (r.kind = .excursionEnd → after = .inBand ∧ before = .excursion) := by
  unfold excursionTold at h
  split at h
  case isTrue starts =>
    rw [List.mem_singleton.1 h]
    exact ⟨fun _ => starts.symm, nofun⟩
  case isFalse =>
    split at h
    case isTrue ends =>
      rw [List.mem_singleton.1 h]
      exact ⟨nofun, fun _ => ends.symm⟩
    case isFalse => cases h

/-- A report of a trouble or of a hold is none of an excursion. -/
theorem not_excursionReport {r : Report} {P Q : Prop}
    (h : (r.kind = .troubleSet ∨ r.kind = .troubleClear) ∨ r.kind = .holdDone) :
    (r.kind = .excursionStart → P) ∧ (r.kind = .excursionEnd → Q) := by
  rcases h with (h | h) | h <;> rw [h] <;> exact ⟨nofun, nofun⟩

section
variable {s : State} {a b : Option Bay} {x : Bay}

/-- A sample that enters EXCURSION: its report, and the end of CLIMATE_STARVED after it. -/
theorem suffix_of_starts (hx : x ∈ (sequenceSampled a b s).climate.bay) (out : reportsGoOut s = true)
    (enters : (sequenceSampled a b s).climate.excursion = .excursion) (before : s.climate.excursion ≠ .excursion) :
    [excursionReport .excursionStart x] ++ starvedTold s <:+ (sequenceEnded a b s).line.reports := by
  obtain ⟨rs, _, told⟩ := told_sequenceEnded s a b
  have starts : excursionTold s.climate.excursion (sequenceSampled a b s).climate.excursion x =
      [excursionReport .excursionStart x] := if_pos ⟨before, enters⟩
  have paused : holdsEnded s (sequenceEnded a b s) = [] := by
    refine if_neg fun h => ?_
    rw [pauseCondition, sequenceEnded_climate_eq, enters] at h
    simp at h
  rw [sequenceEnded_climate_eq, Option.mem_def.1 hx, bayOrZero, Option.getD_some, starts, paused, List.append_nil] at told
  exact told.suffix_of_few out (by rw [starvedTold_eq]; split <;> simp)

/-- A sample that ends an excursion: of its report, the holds that end with it and the end of CLIMATE_STARVED, the newest
eight. -/
theorem suffix_of_ends (hx : x ∈ (sequenceSampled a b s).climate.bay) (out : reportsGoOut s = true)
    (before : s.climate.excursion = .excursion) (leaves : (sequenceSampled a b s).climate.excursion = .inBand) :
    ([excursionReport .excursionEnd x] ++ holdsEnded s (sequenceEnded a b s) ++ starvedTold s).drop
      ((holdsEnded s (sequenceEnded a b s) ++ starvedTold s).length - 7) <:+ (sequenceEnded a b s).line.reports := by
  obtain ⟨rs, _, told⟩ := told_sequenceEnded s a b
  have ends : excursionTold s.climate.excursion (sequenceSampled a b s).climate.excursion x =
      [excursionReport .excursionEnd x] := (if_neg fun h => h.1 before).trans (if_pos ⟨before, leaves⟩)
  rw [sequenceEnded_climate_eq, Option.mem_def.1 hx, bayOrZero, Option.getD_some, ends] at told
  have count (r : Report) (h k : List Report) : ([r] ++ h ++ k).length - 8 = (h ++ k).length - 7 := by
    simp only [List.length_append, List.length_singleton]
    omega
  exact count .. ▸ told.suffix out

/-- Every report of an excursion that a sample queues is of its own move. -/
theorem mem_sequenceEnded_reports {r : Report} (hr : r ∈ (sequenceEnded a b s).line.reports) :
    r ∈ s.line.reports ∨
      (r.kind = .excursionStart →
        (sequenceSampled a b s).climate.excursion = .excursion ∧ s.climate.excursion ≠ .excursion) ∧
      (r.kind = .excursionEnd →
        (sequenceSampled a b s).climate.excursion = .inBand ∧ s.climate.excursion = .excursion) := by
  obtain ⟨rs, kinds, told⟩ := told_sequenceEnded s a b
  rw [sequenceEnded_climate_eq] at told
  rcases told.mem hr with old | new
  · exact .inl old
  · simp only [List.mem_append] at new
    rcases new with trouble | (excursion | hold) | starved
    · exact .inr (not_excursionReport (.inl (kinds r trouble)))
    · exact .inr (excursionTold_kind excursion)
    · exact .inr (not_excursionReport (.inr (holdsEnded_kind hold)))
    · exact .inr (not_excursionReport (.inl (starvedTold_kind s starved)))

end

/-- Settles O57: the sample's move of the excursion state, its record and what it tells. -/
theorem samplesMoveTheExcursionAndTheHistory : Obligations.SamplesMoveTheExcursionAndTheHistory := by
  unfold Obligations.SamplesMoveTheExcursionAndTheHistory
  refine ⟨fun n rh t => ?_, fun s c q hr hc hq hdone => ⟨_, exec_probeConversionEnd_last s hr hc hq hdone, ?_⟩⟩
  · rw [probeValue_eq, averageCode_eq, averageCode_eq, temperatureOf_eq]
    rfl
  · generalize probeValue s.cfg.averaging (q.add c).rhA (q.add c).tA = a
    generalize probeValue s.cfg.averaging (q.add c).rhB (q.add c).tB = b
    have climate : (beginNext (sequenceEnded a b s)).climate = (sequenceSampled a b s).climate := by
      rw [beginNext_eq]
      exact sequenceEnded_climate_eq s a b
    have line : (beginNext (sequenceEnded a b s)).line = (sequenceEnded a b s).line := by rw [beginNext_eq]
    have pause : pauseCondition (beginNext (sequenceEnded a b s)) = pauseCondition (sequenceEnded a b s) := by
      rw [beginNext_eq]
      rfl
    rw [climate, line, pause]
    refine ⟨takeSample_lost, fun notLost x hx => ⟨takeSample_excursion notLost hx,
      takeSample_timer_of_pending notLost hx, takeSample_timer_of_ne notLost hx, fun enters before out => ?_,
      fun before leaves out => ?_⟩, fun r => mem_sequenceEnded_reports, ?_, ?_, fun x hx opened => ?_, fun other => ?_⟩
    · exact starvedTold_eq s ▸ suffix_of_starts hx out enters before
    · have newest := suffix_of_ends hx out before leaves
      rw [starvedTold_eq, holdsEnded, holdEnds_eq] at newest
      exact newest
    · rw [sequenceSampled, takeSample_climate]
    · have stored := takeSample_history { s with sup := { s.sup with seq := none } } a b
      rw [sampleRecord_sampleJudged] at stored
      simp only [storeRecord_iff, pushHistory_eq] at stored
      exact stored
    · rw [sequenceSampled, takeSample_climate] at hx ⊢
      have bay : (sampleJudged a b { s with sup := { s.sup with seq := none } }).climate.bay = some x := hx
      dsimp only
      rw [bay]
      exact extremes_countSample opened
    · rw [sequenceSampled, takeSample_climate]
      exact countSample_of_ne _ other

end Sys2Proof.Machine
end

section
/-! ## The acts of the allotter (R66 to R76)

Every act of the allotter writes its record, and queues a STATE exactly where the dehumidifier starts or stops: it is
`allotted` with the record that the rules give. -/

namespace Sys2Proof.Machine

/-! ### The record written -/

/-- The allotter's record after a start (R73). -/
def Allotter.started (cfg : Settings) (a : Allotter) : Allotter :=
  { a with running := true, minOff := none, minRun := if cfg.minRunTime = 0 then none else some cfg.minRunTime }

/-- The record after a stop (R74). -/
def Allotter.stopped (cfg : Settings) (a : Allotter) : Allotter :=
  { a with running := false, minRun := none, minOff := if cfg.minOffTime = 0 then none else some cfg.minOffTime }

/-- The record of an allotter that is not forced, its request judged (R67, R69). -/
def Allotter.judged (request : Bool) (a : Allotter) : Allotter := { a with request := request, forced := false }

/-- The allotter's record written, and a STATE queued where the dehumidifier starts or stops (R73, R74). -/
def allotted (a : Allotter) (s : State) : State :=
  { s with allot := a, line := { s.line with stateQueued := s.line.stateQueued || a.running != s.allot.running } }

section
variable (a b : Allotter) (s : State)

@[simp] theorem allotted_allot : (allotted a s).allot = a := rfl
@[simp] theorem allotted_stateQueued :
    (allotted a s).line.stateQueued = (s.line.stateQueued || a.running != s.allot.running) := rfl
@[simp] theorem allotted_forcedCondition : forcedCondition (allotted a s) = forcedCondition s := rfl

@[simp] theorem allotted_self : allotted s.allot s = s := by simp [allotted]

/-- A record written without a start or a stop is written over by the next. -/
theorem allotted_write (h : b.running = s.allot.running) : allotted a { s with allot := b } = allotted a s := by
  simp [allotted, h]

end

variable (s : State)

theorem startDehumidifier_eq (h : s.allot.running = false) :
    startDehumidifier s = allotted (s.allot.started s.cfg) s := by
  simp [startDehumidifier, queueState, allotted, Allotter.started, startTimer, h]

theorem stopDehumidifier_eq (h : s.allot.running = true) :
    stopDehumidifier s = allotted (s.allot.stopped s.cfg) s := by
  simp [stopDehumidifier, queueState, allotted, Allotter.stopped, startTimer, h]

/-! ### The grant and the stop (R72, R74) -/

theorem granted_iff :
    granted s = true ↔ s.allot.running = false ∧ s.allot.forced = false ∧ s.allot.request = true ∧
      s.allot.minOff = none ∧ runningCount s + rank s < s.cfg.cap := by
  simp [granted, and_assoc]

theorem evaluateGrant_eq :
    evaluateGrant s = allotted (if granted s = true then s.allot.started s.cfg else s.allot) s := by
  unfold evaluateGrant
  split
  case isTrue h => exact startDehumidifier_eq s ((granted_iff s).1 h).1
  case isFalse => exact (allotted_self s).symm

/-- The record of a free allotter in OFF after its request is judged and the grant is evaluated (R67, R69, R72). -/
def grantOn (request : Bool) (s : State) : Allotter :=
  if request = true ∧ s.allot.minOff = none ∧ runningCount s + rank s < s.cfg.cap then
    (s.allot.judged request).started s.cfg
  else s.allot.judged request

/-- The two outcomes, field by field. -/
theorem grantOn_eq (request : Bool) :
    grantOn request s =
      if request = true ∧ s.allot.minOff = none ∧ runningCount s + rank s < s.cfg.cap then
        { running := true, minOff := none, minRun := if s.cfg.minRunTime = 0 then none else some s.cfg.minRunTime,
          request := true, forced := false }
      else { s.allot with request := request, forced := false } := by
  unfold grantOn
  split
  case isTrue h => rw [h.1]; rfl
  case isFalse => rfl

@[simp] theorem grantOn_request (request : Bool) : (grantOn request s).request = request := by
  unfold grantOn; split <;> rfl

@[simp] theorem grantOn_forced (request : Bool) : (grantOn request s).forced = false := by
  unfold grantOn; split <;> rfl

theorem evaluateGrant_judged (request : Bool) (off : s.allot.running = false) :
    evaluateGrant { s with allot := s.allot.judged request } = allotted (grantOn request s) s := by
  have grants : granted { s with allot := s.allot.judged request } = true ↔
      request = true ∧ s.allot.minOff = none ∧ runningCount s + rank s < s.cfg.cap := by
    rw [granted_iff]
    exact ⟨fun ⟨_, _, h⟩ => h, fun h => ⟨off, rfl, h⟩⟩
  rw [evaluateGrant_eq, if_congr grants rfl rfl]
  exact allotted_write _ _ s rfl

/-- The record of a free allotter in RUNNING after its request is judged (R74). -/
def stopOn (request : Bool) (s : State) : Allotter :=
  if request = false ∧ s.allot.minRun = none then (s.allot.judged request).stopped s.cfg else s.allot.judged request

/-- The two outcomes, field by field. -/
theorem stopOn_eq (request : Bool) :
    stopOn request s =
      if request = false ∧ s.allot.minRun = none then
        { running := false, minRun := none, minOff := if s.cfg.minOffTime = 0 then none else some s.cfg.minOffTime,
          request := false, forced := false }
      else { s.allot with request := request, forced := false } := by
  unfold stopOn
  split
  case isTrue h => rw [h.1]; rfl
  case isFalse => rfl

@[simp] theorem stopOn_request (request : Bool) : (stopOn request s).request = request := by
  unfold stopOn; split <;> rfl

@[simp] theorem stopOn_forced (request : Bool) : (stopOn request s).forced = false := by
  unfold stopOn; split <;> rfl

theorem stopOrGrant_judged (request : Bool) :
    stopOrGrant { s with allot := s.allot.judged request } =
      allotted (if s.allot.running = true then stopOn request s else grantOn request s) s := by
  unfold stopOrGrant
  by_cases running : s.allot.running = true
  · have stops : (!request && s.allot.minRun.isNone) = true ↔ request = false ∧ s.allot.minRun = none := by simp
    have judged : { s with allot := s.allot.judged request } = allotted (s.allot.judged request) s := by
      simp [allotted, Allotter.judged]
    rw [if_pos running, if_pos (show (s.allot.judged request).running = true from running), stopOn]
    refine (if_congr stops rfl rfl).trans ?_
    split
    · exact (stopDehumidifier_eq { s with allot := s.allot.judged request } running).trans (allotted_write _ _ s rfl)
    · exact judged
  · rw [if_neg running, if_neg (show ¬ (s.allot.judged request).running = true from running)]
    exact evaluateGrant_judged s request (by simpa using running)

/-! ### Forcing (R68, R69) -/

@[simp] theorem forcedOff_forced : (forcedOff s).forced = true := by
  unfold forcedOff; split <;> rfl

/-- Forcing stops a dehumidifier that runs, and no other. -/
theorem forcing_stops :
    ((if s.allot.forced = true then s.allot else forcedOff s).running != s.allot.running) =
      (s.allot.running && !s.allot.forced) := by
  unfold forcedOff
  cases s.allot.forced <;> cases running : s.allot.running <;> simp [running]

/-- Where a forced-off condition holds an allotter that is free is forced off. -/
theorem reevaluateForced_of_condition (h : forcedCondition s = true) :
    reevaluateForced s = allotted (if s.allot.forced = true then s.allot else forcedOff s) s := by
  rw [reevaluateForced_of_forced h, ← forcing_stops]
  rfl

/-- Where none holds an allotter that was forced, and so in OFF, is free with its request judged. -/
theorem reevaluateForced_of_free (h : forcedCondition s = false)
    (off : s.allot.forced = true → s.allot.running = false) :
    reevaluateForced s =
      allotted (if s.allot.forced = true then grantOn (requestAtForcingEnd s) s else s.allot) s := by
  unfold reevaluateForced
  rw [h]
  cases forced : s.allot.forced with
  | true => exact evaluateGrant_judged s (requestAtForcingEnd s) (off forced)
  | false => exact (allotted_self s).symm

theorem requestAtForcingEnd_of_bay {b : Bay} (h : b ∈ s.climate.bay) :
    requestAtForcingEnd s = decide (s.cfg.rhTarget + s.cfg.bandUp ≤ b.rh) := by
  rw [requestAtForcingEnd, Option.mem_def.1 h]
  rfl

/-! ### The sample (R67, R68) -/

/-- While a condition holds a sample does what forcing does. -/
theorem allotSampleTaken_of_condition (h : forcedCondition s = true) :
    allotSampleTaken s = allotted (if s.allot.forced = true then s.allot else forcedOff s) s := by
  have forced : (if s.allot.forced = true then s.allot else forcedOff s).forced = true := by
    split <;> simp_all
  rw [allotSampleTaken, reevaluateForced_of_condition s h]
  exact if_pos forced

/-- A request that is set only at the set threshold is judged by the set threshold alone. -/
theorem judgedRequest_eq_requestAtForcingEnd (h : s.allot.request = true → requestAtForcingEnd s = true) :
    judgedRequest s = requestAtForcingEnd s := by
  unfold requestAtForcingEnd judgedRequest at *
  cases hb : s.climate.bay with
  | none => simpa [hb] using h
  | some b =>
    simp only [hb, decide_eq_true_eq] at h ⊢
    split
    case isTrue set => exact (decide_eq_true set).symm
    case isFalse below =>
      have clear : s.allot.request = false := Bool.eq_false_iff.2 fun set => below (h set)
      simp [below, clear]

/-- A second look at a dehumidifier that a grant evaluation has just looked at changes nothing. -/
theorem stopOrGrant_evaluateGrant (off : s.allot.running = false) :
    stopOrGrant (evaluateGrant s) = evaluateGrant s := by
  unfold stopOrGrant
  by_cases h : granted s = true
  · have requests := ((granted_iff s).1 h).2.2.1
    have started : evaluateGrant s = startDehumidifier s := if_pos h
    rw [started]
    exact (if_pos rfl).trans (if_neg (by simp [startDehumidifier, queueState, requests]))
  · have stays : evaluateGrant s = s := if_neg h
    rw [stays, if_neg (by simp [off]), stays]

theorem evaluateGrant_request : (evaluateGrant s).allot.request = s.allot.request := by
  rw [evaluateGrant_eq, allotted_allot]
  split <;> rfl

theorem evaluateGrant_forced : (evaluateGrant s).allot.forced = s.allot.forced := by
  rw [evaluateGrant_eq, allotted_allot]
  split <;> rfl

theorem judgedRequest_evaluateGrant (h : s.allot.request = requestAtForcingEnd s) :
    judgedRequest (evaluateGrant s) = (evaluateGrant s).allot.request := by
  have same : requestAtForcingEnd (evaluateGrant s) = requestAtForcingEnd s := by rw [evaluateGrant_frame]; rfl
  have request := evaluateGrant_request s
  rw [judgedRequest_eq_requestAtForcingEnd _ (by rw [request, h, same]; exact id), same, request, h]

/-- Once the allotter is free a sample judges its request, then the stop or the grant. -/
theorem allotSampleTaken_of_reevaluated {t : State} (ht : reevaluateForced s = t) (free : t.allot.forced = false) :
    allotSampleTaken s = stopOrGrant { t with allot := { t.allot with request := judgedRequest t } } := by
  subst ht
  exact if_neg (by simp [free])

/-- While none holds, a sample judges the request, then the stop or the grant; at the end of forcing too, where the set
threshold has been judged before. -/
theorem allotSampleTaken_of_free (h : forcedCondition s = false)
    (off : s.allot.forced = true → s.allot.running = false ∧ s.allot.request = false) :
    allotSampleTaken s =
      allotted (if s.allot.running = true then stopOn (judgedRequest s) s else grantOn (judgedRequest s) s) s := by
  rw [← stopOrGrant_judged]
  cases forced : s.allot.forced with
  | false =>
    have stays : reevaluateForced s = s := by simp [reevaluateForced, h, forced]
    have judged : s.allot.judged (judgedRequest s) = { s.allot with request := judgedRequest s } := by
      rw [Allotter.judged, ← forced]
    rw [allotSampleTaken_of_reevaluated s stays forced, judged]
  | true =>
    obtain ⟨stopped, clear⟩ := off forced
    rw [judgedRequest_eq_requestAtForcingEnd s (by simp [clear])]
    generalize hw : ({ s with allot := s.allot.judged (requestAtForcingEnd s) } : State) = w
    have ended : reevaluateForced s = evaluateGrant w := by
      have ends : reevaluateForced s = endForcing s := by simp [reevaluateForced, h, forced]
      rw [ends, ← hw]
      rfl
    have judged : w.allot.request = requestAtForcingEnd w ∧ w.allot.running = false ∧ w.allot.forced = false := by
      rw [← hw]
      exact ⟨rfl, stopped, rfl⟩
    obtain ⟨request, off, free⟩ := judged
    have granted : stopOrGrant w = evaluateGrant w := if_neg (by simp [off])
    rw [allotSampleTaken_of_reevaluated s ended ((evaluateGrant_forced w).trans free), granted,
      judgedRequest_evaluateGrant w request]
    exact stopOrGrant_evaluateGrant w off

/-- The allotter's record after its notice of a sample. -/
def sampledAllot : Allotter :=
  if forcedCondition s = true then (if s.allot.forced = true then s.allot else forcedOff s)
  else if s.allot.running = true then stopOn (judgedRequest s) s else grantOn (judgedRequest s) s

theorem allotSampleTaken_eq (off : s.allot.forced = true → s.allot.running = false ∧ s.allot.request = false) :
    allotSampleTaken s = allotted (sampledAllot s) s := by
  unfold sampledAllot
  split
  case isTrue h => exact allotSampleTaken_of_condition s h
  case isFalse h => exact allotSampleTaken_of_free s (by simpa using h) off

theorem sampledAllot_forced : (sampledAllot s).forced = forcedCondition s := by
  unfold sampledAllot
  cases h : forcedCondition s with
  | true =>
    rw [if_pos rfl]
    split
    case isTrue forced => exact forced
    case isFalse => exact forcedOff_forced s
  | false =>
    rw [if_neg (by simp)]
    split
    · exact stopOn_forced ..
    · exact grantOn_forced ..

end Sys2Proof.Machine
end

section
/-! ## The allotter's timers and the contacts (O35, O36) -/

namespace Sys2Proof.Machine

variable {s : State}

/-! ### The timers (R75, R76) -/

theorem minRunExpired_absent (h : s.allot.minRun = none) : minRunExpired s = s := if_pos (by simp [h])

theorem minOffExpired_absent (h : s.allot.minOff = none) : minOffExpired s = s := if_pos (by simp [h])

theorem minRunExpired_eq (h : s.allot.minRun.isSome = true) :
    minRunExpired s =
      allotted (if s.allot.running = true ∧ s.allot.request = false then s.allot.stopped s.cfg
        else { s.allot with minRun := none }) s := by
  have present : ¬ s.allot.minRun.isNone = true := by simpa [Option.isSome_iff_ne_none] using h
  have stops : (s.allot.running && !s.allot.request) = true ↔ s.allot.running = true ∧ s.allot.request = false := by
    simp
  unfold minRunExpired
  rw [if_neg present]
  refine (if_congr stops rfl rfl).trans ?_
  split
  case isTrue stop =>
    rw [stopDehumidifier_eq { s with allot := { s.allot with minRun := none } } stop.1]
    exact allotted_write _ _ s rfl
  case isFalse => simp [allotted]

theorem minOffExpired_eq (h : s.allot.minOff.isSome = true) :
    minOffExpired s =
      allotted (if s.allot.running = false ∧ s.allot.forced = false ∧ s.allot.request = true ∧
          runningCount s + rank s < s.cfg.cap then s.allot.started s.cfg
        else { s.allot with minOff := none }) s := by
  have present : ¬ s.allot.minOff.isNone = true := by simpa [Option.isSome_iff_ne_none] using h
  have grants : granted { s with allot := { s.allot with minOff := none } } = true ↔ s.allot.running = false ∧
      s.allot.forced = false ∧ s.allot.request = true ∧ runningCount s + rank s < s.cfg.cap := by
    rw [granted_iff]
    exact ⟨fun ⟨r, f, q, _, c⟩ => ⟨r, f, q, c⟩, fun ⟨r, f, q, c⟩ => ⟨r, f, q, rfl, c⟩⟩
  unfold minOffExpired
  rw [if_neg present, evaluateGrant_eq, if_congr grants rfl rfl]
  exact allotted_write _ _ s rfl

/-- An act of the allotter queues no ALARM (R43). -/
theorem runEvent_allotted {effect : State → State} {a : Allotter} (hr : s.phase = .running)
    (h : effect s = allotted a s) : runEvent effect s = .next (allotted a s) :=
  (runEvent_of_fire_eq hr (by rw [h]; rfl) (by rw [h]; rfl)).trans (by rw [h])

/-- An event that finds nothing to do. -/
theorem runEvent_idle {effect : State → State} (hr : s.phase = .running) (h : effect s = s) :
    runEvent effect s = .next s :=
  (runEvent_of_fire_eq hr (by rw [h]) (by rw [h])).trans (by rw [h])

/-- Settles O35: what each expiry makes of the record, and nothing without its timer. -/
theorem dehumidifierTimersStopAndGrant : Obligations.DehumidifierTimersStopAndGrant := by
  unfold Obligations.DehumidifierTimersStopAndGrant
  refine ⟨fun s hr ht => ?_, fun s hr ht => runEvent_idle hr (minRunExpired_absent ht),
    fun s hr ht => ?_, fun s hr ht => runEvent_idle hr (minOffExpired_absent ht)⟩
  · refine (runEvent_allotted (effect := minRunExpired) hr (minRunExpired_eq ht)).trans ?_
    split
    case isTrue stop => simp [allotted, Allotter.stopped, stop.1]
    case isFalse => simp [allotted]
  · refine (runEvent_allotted (effect := minOffExpired) hr (minOffExpired_eq ht)).trans ?_
    split
    case isTrue start => simp [allotted, Allotter.started, start.1]
    case isFalse => simp [allotted]

/-! ### The mains (R68, R69, R189) -/

/-- MAINS_FAIL, the settled contact and the clearing delay written, the allotter not told yet. -/
def mainsWrite (fail : Bool) (contact : Option Bool) (clearing : Option Nat) (s : State) : State :=
  setTrouble .mainsFail fail { s with out := { s.out with mainsFail := contact, mainsClear := clearing } }

/-- What an act of the allotter leaves of the station after MAINS_FAIL was written in the state `s`. -/
structure MainsWritten (fail : Bool) (contact : Option Bool) (clearing : Option Nat) (s t : State) : Prop where
  mainsFail : troubleActive .mainsFail t = fail
  others : ∀ x ∈ allTroubles, x ≠ .mainsFail → troubleActive x t = troubleActive x s
  contact : t.out.mainsFail = contact
  clearing : t.out.mainsClear = clearing
  queued : t.line.stateQueued = (s.line.stateQueued || t.allot.running != s.allot.running)
  frame : t = { s with
    allot := t.allot, line := t.line,
    out := { s.out with active := t.out.active, reported := t.out.reported, mainsFail := t.out.mainsFail,
                        mainsClear := t.out.mainsClear } }
  reports : OnlyReports { s.line with stateQueued := t.line.stateQueued } t.line

theorem mainsWritten_allotted (a : Allotter) (fail : Bool) (contact : Option Bool) (clearing : Option Nat) (s : State) :
    MainsWritten fail contact clearing s (allotted a (mainsWrite fail contact clearing s)) := by
  have one := oneTrouble_setTrouble { s with out := { s.out with mainsFail := contact, mainsClear := clearing } }
    .mainsFail fail
  have active (x : Trouble) : troubleActive x (mainsWrite fail contact clearing s) =
      if x = .mainsFail then fail else troubleActive x s := troubleActive_setTrouble ..
  change OneTrouble _ _ (mainsWrite fail contact clearing s) at one
  generalize mainsWrite fail contact clearing s = u at *
  have line := one.reports
  have frame := one.frame
  exact
    { mainsFail := (active .mainsFail).trans (if_pos rfl)
      others := fun x _ hx => (active x).trans (if_neg hx)
      contact := by rw [frame]; rfl
      clearing := by rw [frame]; rfl
      queued := by rw [allotted_stateQueued, line, frame]; rfl
      frame := by rw [frame]; rfl
      reports := congrArg (fun l : LineController => { l with stateQueued := (allotted a u).line.stateQueued }) line }

section
variable (s : State)

theorem mainsFailed_eq :
    mainsFailed s =
      allotted (if s.allot.forced = true then s.allot else forcedOff s) (mainsWrite true (some true) none s) := by
  have run : mainsFailed s = reevaluateForced (mainsWrite true (some true) none s) := rfl
  have condition : forcedCondition (mainsWrite true (some true) none s) = true := by
    simp [forcedCondition, mainsWrite, troubleActive_setTrouble]
  have off : forcedOff (mainsWrite true (some true) none s) = forcedOff s := by simp [forcedOff, mainsWrite]
  have allot : (mainsWrite true (some true) none s).allot = s.allot := by simp [mainsWrite]
  rw [run, reevaluateForced_of_condition _ condition, off, allot]

/-- The state with MAINS_FAIL cleared at the end of its delay. -/
def mainsBack : State := mainsWrite false s.out.mainsFail none s

theorem mainsBack_allot : (mainsBack s).allot = s.allot := by simp [mainsBack, mainsWrite]
theorem mainsBack_cfg : (mainsBack s).cfg = s.cfg := by simp [mainsBack, mainsWrite]
theorem mainsBack_climate : (mainsBack s).climate = s.climate := by simp [mainsBack, mainsWrite]
theorem mainsBack_peers : (mainsBack s).line.peers = s.line.peers := setTrouble_peers ..

/-- A condition that holds without the mains held before. -/
theorem forcedCondition_of_mainsBack (h : forcedCondition (mainsBack s) = true) : forcedCondition s = true := by
  have mains : troubleActive .mainsFail (mainsBack s) = false := (troubleActive_setTrouble ..).trans (if_pos rfl)
  have fire : (mainsBack s).fire = s.fire := by simp [mainsBack, mainsWrite]
  simp only [forcedCondition, mains, fire, mainsBack_climate, Bool.or_false, Bool.or_eq_true] at h ⊢
  tauto

/-- The record after MAINS_FAIL has cleared: the end of forcing where the last condition ended (R69). -/
theorem mainsCleared_eq (present : s.out.mainsClear.isSome = true) (guarded : DryingGuarded s) :
    mainsCleared s =
      allotted (if s.allot.forced = true ∧ forcedCondition (mainsBack s) = false then
        grantOn (requestAtForcingEnd (mainsBack s)) (mainsBack s) else s.allot) (mainsBack s) := by
  obtain ⟨forced, off⟩ := guarded
  have run : mainsCleared s = reevaluateForced (mainsBack s) := if_pos present
  rw [run]
  cases condition : forcedCondition (mainsBack s) with
  | true =>
    rw [reevaluateForced_of_condition _ condition, mainsBack_allot, forced, forcedCondition_of_mainsBack s condition]
    rfl
  | false =>
    rw [reevaluateForced_of_free _ condition (by rw [mainsBack_allot]; exact fun h => (off h).1), mainsBack_allot]
    simp

/-- Forcing ends where it held and no condition is left; otherwise the allotter stays. -/
theorem mainsCleared_outcome (guarded : DryingGuarded s) {t : State}
    (ht : t = allotted (if s.allot.forced = true ∧ forcedCondition (mainsBack s) = false then
      grantOn (requestAtForcingEnd (mainsBack s)) (mainsBack s) else s.allot) (mainsBack s)) :
    t.allot.forced = forcedCondition t ∧ (t.allot.forced = s.allot.forced → t.allot = s.allot) ∧
    (t.allot.forced ≠ s.allot.forced → ∀ b ∈ s.climate.bay,
      t.allot.request = decide (s.cfg.rhTarget + s.cfg.bandUp ≤ b.rh) ∧
      t.allot =
        (if t.allot.request = true ∧ s.allot.minOff = none ∧ runningCount s + rank t < s.cfg.cap then
          { running := true, minOff := none, minRun := if s.cfg.minRunTime = 0 then none else some s.cfg.minRunTime,
            request := true, forced := false }
         else { s.allot with request := t.allot.request, forced := false })) := by
  subst ht
  obtain ⟨forced, -⟩ := guarded
  split
  case isTrue ends =>
    refine ⟨(grantOn_forced ..).trans ends.2.symm, fun same => ?_, fun _ b hb => ?_⟩
    · exact absurd ((grantOn_forced ..).symm.trans same) (by simp [ends.1])
    · have counts : runningCount s = runningCount (mainsBack s) := by rw [runningCount, runningCount, mainsBack_peers]
      have request := requestAtForcingEnd_of_bay (mainsBack s) (b := b) (by rwa [mainsBack_climate])
      rw [mainsBack_cfg] at request
      rw [allotted_allot, grantOn_request, request, counts, grantOn_eq, mainsBack_allot, mainsBack_cfg]
      exact ⟨rfl, rfl⟩
  case isFalse stays =>
    refine ⟨?_, fun _ => rfl, fun differs => absurd rfl differs⟩
    rw [allotted_allot, allotted_forcedCondition]
    cases before : s.allot.forced with
    | true => simpa [before] using stays
    | false =>
      cases now : forcedCondition (mainsBack s) with
      | true =>
        exact absurd (before.symm.trans (forced.trans (forcedCondition_of_mainsBack s now))) (by simp)
      | false => rfl

theorem runMains_acts {effect : State → State} (h : s.phase = .running ∨ s.phase = .restarting) :
    runMains effect s = .next (effect s) := by
  rw [runMains, if_pos h]

/-! ### The door (R129, R189) -/

theorem doorSettled_eq (o : Bool) :
    doorSettled o s =
      if s.out.doorOpen = some false ∧ o = true ∧ doorReleased s = false ∧ s.fire.state = .normal then
        queueReport { kind := .doorForced }
          { s with out := { s.out with doorOpen := some true, doorForced := some 60 } }
      else { s with out := { s.out with doorOpen := some o } } := by
  have forces : (s.out.doorOpen = some false ∧ o = true ∧ ¬ doorReleased s = true ∧ s.fire.state = .normal) ↔
      s.out.doorOpen = some false ∧ o = true ∧ doorReleased s = false ∧ s.fire.state = .normal := by simp
  refine (if_congr forces rfl rfl).trans ?_
  split
  case isTrue h => rw [h.2.1]; rfl
  case isFalse => rfl

/-- A door settles without an ALARM (R43). -/
theorem doorSettled_fire_cfg (o : Bool) : (doorSettled o s).fire = s.fire ∧ (doorSettled o s).cfg = s.cfg := by
  rw [doorSettled_eq]
  split <;> simp

end

/-- Settles O36: the two writings of MAINS_FAIL with the allotter's act on them, the contact settled in normal, and the
door. -/
theorem contactsSetMainsFailAndDoorForced : Obligations.ContactsSetMainsFailAndDoorForced := by
  unfold Obligations.ContactsSetMainsFailAndDoorForced
  refine ⟨fun s hp => ⟨_, (runMains_acts s hp).trans (congrArg _ (mainsFailed_eq s)), ?_⟩,
    fun s hp hn => (runMains_acts s hp).trans (congrArg _ (if_neg hn)),
    fun s hp hn => (runMains_acts s hp).trans (congrArg _ (if_pos hn)),
    fun s hp hc guarded => ⟨_, (runMains_acts s hp).trans (congrArg _ (mainsCleared_eq s hc guarded)), ?_⟩,
    fun s hp hc => (runMains_acts s hp).trans (congrArg _ (if_neg (by simp [hc]))),
    fun s o hr => ?_⟩
  · have written :=
      mainsWritten_allotted (if s.allot.forced = true then s.allot else forcedOff s) true (some true) none s
    refine ⟨written.mainsFail, written.contact, written.clearing, ?_, rfl, written.queued.trans ?_, written.others,
      written.frame, written.reports⟩
    · rw [allotted_allot]
      split
      case isTrue forced => exact forced
      case isFalse => exact forcedOff_forced s
    · rw [allotted_allot, forcing_stops]
  · have written := mainsWritten_allotted (if s.allot.forced = true ∧ forcedCondition (mainsBack s) = false then
      grantOn (requestAtForcingEnd (mainsBack s)) (mainsBack s) else s.allot) false s.out.mainsFail none s
    obtain ⟨forced, stays, ends⟩ := mainsCleared_outcome s guarded rfl
    exact ⟨written.mainsFail, written.clearing, forced, stays, ends, written.queued, written.others, written.frame,
      written.reports⟩
  · obtain ⟨fire, cfg⟩ := doorSettled_fire_cfg s o
    exact (runEvent_of_fire_eq (effect := doorSettled o) hr fire cfg).trans (congrArg _ (doorSettled_eq s o))

end Sys2Proof.Machine
end

section
/-! ## The room side: what the converter, the fire controller, the cartridge blocks and the line do not write

The room side of a station is what its climate unit, its allotter and the pause of its hold countdown have, and the
mains with MAINS_FAIL (R46, R66, R160, R189). The lemmas of this section, one for each operation in the order of the
model's files, say that it stands. -/

namespace Sys2Proof.Machine

/-- The state with all but the room side put out of view: the inputs, the fire record and its episode, the cartridge
blocks, the seconds of the hold countdown, the line record, the door and every trouble but MAINS_FAIL. -/
def roomSide (s : State) : State :=
  { s with
    sup := State.reset.sup, fire := State.reset.fire, climate := { s.climate with episode := openedEpisode },
    scanner := State.reset.scanner, reader := State.reset.reader, consignments := [], custody := State.reset.custody,
    hold := { s.hold with seconds := 0 }, line := State.reset.line,
    out := { State.reset.out with
      active := setTroubleBit 0 Trouble.mainsFail.code (troubleActive .mainsFail s),
      mainsFail := s.out.mainsFail, mainsClear := s.out.mainsClear },
    freeCount := 0 }

section
variable {s t : State} (h : roomSide t = roomSide s)
include h

theorem own_of_roomSide : t.own = s.own := congrArg (fun u => u.own) h
theorem cfg_of_roomSide : t.cfg = s.cfg := congrArg (fun u => u.cfg) h
theorem allot_of_roomSide : t.allot = s.allot := congrArg (fun u => u.allot) h
theorem bay_of_roomSide : t.climate.bay = s.climate.bay := congrArg (fun u => u.climate.bay) h
theorem climateState_of_roomSide : t.climate.state = s.climate.state := congrArg (fun u => u.climate.state) h

theorem mainsFail_of_roomSide : troubleActive .mainsFail t = troubleActive .mainsFail s := by
  have bit : ∀ u : State, troubleActive .mainsFail (roomSide u) = troubleActive .mainsFail u := fun u =>
    (setTroubleBit_getLsbD 0 _ _ _ Trouble.mainsFail.code_lt).trans (if_pos rfl)
  rw [← bit t, h, bit s]

end

variable (s : State)

/-! ### Shared operations -/

/-- Whatever is written beside the room side, the drivers apart. -/
@[simp] theorem roomSide_write_others (sup : Supervisor) (fire : FireRecord) (scanner : Scanner) (reader : ReaderPort)
    (consignments : List Consignment) (custody : CustodyRecord) (line : LineController) (freeCount : Nat) :
    roomSide { s with
      sup := sup, fire := fire, scanner := scanner, reader := reader, consignments := consignments, custody := custody,
      line := line, freeCount := freeCount } = roomSide s := rfl

theorem foldl_roomSide {α : Type} (f : State → α → State) (h : ∀ s a, roomSide (f s a) = roomSide s) (l : List α) :
    ∀ s : State, roomSide (l.foldl f s) = roomSide s := by
  induction l with
  | nil => exact fun _ => rfl
  | cons a l ih => exact fun s => (ih (f s a)).trans (h s a)

/-- A move of the fire state leaves the room side. -/
theorem roomSide_of_beyondMove {s t : State} (h : beyondMove t = beyondMove s) : roomSide t = roomSide s :=
  show roomSide (beyondMove t) = roomSide (beyondMove s) by rw [h]

/-- So does a trouble other than MAINS_FAIL. -/
theorem roomSide_of_oneTrouble {x : Trouble} {s t : State} (h : OneTrouble x s t) (hx : x ≠ .mainsFail) :
    roomSide t = roomSide s := by
  have mains := (h.others .mainsFail hx.symm).1
  rw [roomSide, mains, h.frame]
  rfl

@[simp] theorem roomSide_setTrouble (x : Trouble) (b : Bool) (hx : x ≠ .mainsFail) :
    roomSide (setTrouble x b s) = roomSide s := roomSide_of_oneTrouble (oneTrouble_setTrouble s x b) hx

@[simp] theorem roomSide_queueReport (r : Report) : roomSide (queueReport r s) = roomSide s := by
  rw [queueReport_frame]; rfl

@[simp] theorem roomSide_queueReports (rs : List Report) : roomSide (queueReports rs s) = roomSide s := by
  rw [queueReports_frame]; rfl

@[simp] theorem roomSide_refuseCommand (code : Byte) (n : Nat) (t : Tag) :
    roomSide (refuseCommand code n t s) = roomSide s := roomSide_queueReport _ _

@[simp] theorem roomSide_settleTroubles : roomSide (settleTroubles s) = roomSide s := by
  rw [settleTroubles_frame]; rfl

@[simp] theorem roomSide_setInput (i : InputNo) (r : InputRecord) : roomSide (setInput i r s) = roomSide s := rfl
@[simp] theorem roomSide_setLatch (i : InputNo) (l : Latch) : roomSide (setLatch i l s) = roomSide s := rfl

/-! ### Custody, holds and slots -/

@[simp] theorem roomSide_mapCustody (f : CustodyEntry → CustodyEntry) : roomSide (mapCustody f s) = roomSide s := rfl
@[simp] theorem roomSide_updateCustody (t : Tag) (f : CustodyEntry → CustodyEntry) :
    roomSide (updateCustody t f s) = roomSide s := rfl
@[simp] theorem roomSide_removeCustody (t : Tag) : roomSide (removeCustody t s) = roomSide s := rfl
@[simp] theorem roomSide_addCustody (e : CustodyEntry) : roomSide (addCustody e s) = roomSide s := rfl
@[simp] theorem roomSide_addReply (r : Reply) : roomSide (addReply r s) = roomSide s := rfl
@[simp] theorem roomSide_settleOffers : roomSide (settleOffers s) = roomSide s := rfl

@[simp] theorem roomSide_countHoldsDown : roomSide (countHoldsDown s) = roomSide s :=
  (roomSide_queueReports _ _).trans rfl

@[simp] theorem roomSide_minuteOver : roomSide (minuteOver s) = roomSide s := by
  unfold minuteOver; split
  · rfl
  · simp

@[simp] theorem roomSide_mapSlots (f : Slot → Slot) : roomSide (mapSlots f s) = roomSide s := rfl
@[simp] theorem roomSide_updateSlot (n : Nat) (f : Slot → Slot) : roomSide (updateSlot n f s) = roomSide s := rfl
@[simp] theorem roomSide_giveTag (n : Nat) (t : Tag) : roomSide (giveTag n t s) = roomSide s := rfl

theorem roomSide_slotRequest {d : Direction} {num : Nat} {e : Entry} {s v : State}
    (h : slotRequest d num e s = some v) : roomSide v = roomSide s := by
  unfold slotRequest pullRequest awaitRequest at h
  repeat' split at h
  all_goals cases h
  all_goals rfl

theorem roomSide_verifyRequest {n : Nat} {t : Tag} {s v : State} (h : verifyRequest n t s = some v) :
    roomSide v = roomSide s := by
  unfold verifyRequest at h
  repeat' split at h
  all_goals cases h
  simp

theorem roomSide_returnRequest {n : Nat} {t : Tag} {s v : State} (h : returnRequest n t s = some v) :
    roomSide v = roomSide s := by
  unfold returnRequest at h
  repeat' split at h
  all_goals cases h
  simp

@[simp] theorem roomSide_revertRequest (num : Nat) : roomSide (revertRequest num s) = roomSide s := by
  simp [revertRequest]

/-! ### Inputs and the fire controller -/

@[simp] theorem roomSide_reverifyAll (is : List InputNo) : roomSide (reverifyAll is s) = roomSide s := by
  rw [reverifyAll_frame]; rfl

@[simp] theorem roomSide_clearLatches (is : List InputNo) : roomSide (clearLatches is s) = roomSide s := by
  rw [clearLatches_frame]; rfl

@[simp] theorem roomSide_endStabilization : roomSide (endStabilization s) = roomSide s := by
  refine (roomSide_settleTroubles _).trans ?_
  rw [endWithholding_frame]
  rfl

@[simp] theorem roomSide_moveFire (f : FireState) : roomSide (moveFire f s) = roomSide s := rfl

@[simp] theorem roomSide_enterDischarged : roomSide (enterDischarged s) = roomSide s :=
  roomSide_of_beyondMove (beyondMove_enterDischarged s)

@[simp] theorem roomSide_evaluateFire : roomSide (evaluateFire s) = roomSide s :=
  roomSide_of_beyondMove (beyondMove_evaluateFire s)

@[simp] theorem roomSide_manualRule : roomSide (manualRule s) = roomSide s := by
  have moved := roomSide_of_beyondMove (beyondMove_manualMove s)
  rw [manualRule_eq]; split <;> simp [moved]

@[simp] theorem roomSide_actOnAlarm (i : InputNo) : roomSide (actOnAlarm i s) = roomSide s := by
  unfold actOnAlarm; repeat' split
  all_goals simp

@[simp] theorem roomSide_endTest : roomSide (endTest s) = roomSide s := by
  have cleared : roomSide (clearedByTestEnd s) =
      roomSide (reverifyAll (testLatched s) (clearLatches (testLatched s) s)) :=
    rfl
  simp [endTest_eq, cleared]

@[simp] theorem roomSide_acceptReset : roomSide (acceptReset s) = roomSide s := by
  have cleared : roomSide (clearedByReset s) = roomSide (reverifyAll allInputs (clearForReset s)) := by
    unfold clearedByReset; dsimp only; repeat' split
    all_goals rfl
  rw [acceptReset_eq, roomSide_evaluateFire, roomSide_moveFire, cleared, roomSide_reverifyAll]
  rfl

@[simp] theorem roomSide_samePeerUpdate (before : Option PeerFire) (now : PeerFire) :
    roomSide (samePeerUpdate before now s) = roomSide s := by
  unfold samePeerUpdate; split
  · simp
  · exact roomSide_of_beyondMove (beyondMove_adopt now s)

@[simp] theorem roomSide_setIsolation (b : Bool) : roomSide (setIsolation b s) = roomSide s :=
  (roomSide_setTrouble _ _ _ (by simp)).trans rfl

@[simp] theorem roomSide_isolateState : roomSide (isolateState s) = roomSide s := by
  unfold isolateState; split <;> rfl

@[simp] theorem roomSide_withAborts (l : List InputNo) : roomSide (withAborts l s) = roomSide s := rfl

@[simp] theorem roomSide_testAlarm (i : InputNo) : roomSide (testAlarm i s) = roomSide s :=
  (roomSide_queueReport _ _).trans rfl

@[simp] theorem roomSide_silenceCommand : roomSide (silenceCommand s) = roomSide s := by
  unfold silenceCommand; split
  · rfl
  · simp

@[simp] theorem roomSide_testLatchOver (i : InputNo) : roomSide (testLatchOver i s) = roomSide s := by
  unfold testLatchOver; split <;> rfl

@[simp] theorem roomSide_testPulseOver : roomSide (testPulseOver s) = roomSide s := rfl

@[simp] theorem roomSide_cadenceOver : roomSide (cadenceOver s) = roomSide s := by unfold cadenceOver; split <;> rfl

@[simp] theorem roomSide_bandTroubles (i : InputNo) (b : Band) : roomSide (bandTroubles i b s) = roomSide s := by
  simp [bandTroubles]

/-! ### Conversions -/

@[simp] theorem roomSide_releaseCheck (c : CircuitCheck) : roomSide (releaseCheck c s) = roomSide s := by
  rw [roomSide_of_oneTrouble (oneTrouble_releaseCheck s c) (by simp), counted_frame]; rfl

@[simp] theorem roomSide_wakeArbiter : roomSide (wakeArbiter s) = roomSide s := by rw [wakeArbiter_eq]; rfl

@[simp] theorem roomSide_scanTimerOver (c : CircuitCheck) : roomSide (scanTimerOver c s) = roomSide s := by
  simp [scanTimerOver]

@[simp] theorem roomSide_afterSequence : roomSide (afterSequence s) = roomSide s := by
  rw [roomSide_of_oneTrouble (oneTrouble_afterSequence s) (by simp)]; rfl

@[simp] theorem roomSide_climateTimerOver : roomSide (climateTimerOver s) = roomSide s := by
  unfold climateTimerOver requestSequence startSequence; dsimp only; repeat' split
  all_goals simp

/-! ### Consignments -/

@[simp] theorem roomSide_updateRecord (num : Nat) (f : Consignment → Consignment) :
    roomSide (updateRecord num f s) = roomSide s := rfl
@[simp] theorem roomSide_removeRecord (num : Nat) : roomSide (removeRecord num s) = roomSide s := rfl
@[simp] theorem roomSide_markEntry (num k : Nat) (st : EntryState) : roomSide (markEntry num k st s) = roomSide s := rfl
@[simp] theorem roomSide_closeCustody (num : Nat) : roomSide (closeCustody num s) = roomSide s := rfl
@[simp] theorem roomSide_clearNumber (t : Tag) : roomSide (clearNumber t s) = roomSide s := rfl
@[simp] theorem roomSide_startSession (num : Nat) : roomSide (startSession num s) = roomSide s := rfl

@[simp] theorem roomSide_closeRecord (c : Consignment) (x : CloseCause) :
    roomSide (closeRecord c x s) = roomSide s := by
  unfold closeRecord; dsimp only; split <;> simp

@[simp] theorem roomSide_completionTest (num : Nat) : roomSide (completionTest num s) = roomSide s := by
  unfold completionTest; repeat' split
  all_goals simp

@[simp] theorem roomSide_notice (num : Nat) (p : Entry → Bool) (st : EntryState) :
    roomSide (notice num p st s) = roomSide s := by
  unfold notice; repeat' split
  all_goals simp

@[simp] theorem roomSide_noticeOf (num : Option Nat) (p : Entry → Bool) (st : EntryState) :
    roomSide (noticeOf num p st s) = roomSide s := by unfold noticeOf; split <;> simp

@[simp] theorem roomSide_receivedNotice (num : Option Nat) (t : Tag) :
    roomSide (receivedNotice num t s) = roomSide s := by
  unfold receivedNotice; repeat' split
  all_goals simp

@[simp] theorem roomSide_takeConsign (p : List Byte) : roomSide (takeConsign p s) = roomSide s := by
  unfold takeConsign; dsimp only; repeat' split
  all_goals simp

@[simp] theorem roomSide_validateEntry (d : Direction) (num k : Nat) (l : List Entry) (e : Entry) :
    roomSide (validateEntry d num k l e s) = roomSide s := by
  unfold validateEntry rejectEntry; repeat' split
  all_goals simp
  exact roomSide_slotRequest ‹_›

@[simp] theorem roomSide_validateFrom (d : Direction) (num k : Nat) (l es : List Entry) :
    roomSide (validateFrom d num k l es s) = roomSide s := by
  induction es generalizing k l s with
  | nil => rfl
  | cons e es ih => unfold validateFrom; rw [ih, roomSide_validateEntry]

@[simp] theorem roomSide_endOpening (num : Nat) : roomSide (endOpening num s) = roomSide s := by
  unfold endOpening; split <;> simp

@[simp] theorem roomSide_appendEntry (num : Nat) (e : Entry) : roomSide (appendEntry num e s) = roomSide s := by
  unfold appendEntry; repeat' split
  all_goals simp

@[simp] theorem roomSide_takeEntries (num : Nat) (es : List Entry) : roomSide (takeEntries num es s) = roomSide s := by
  induction es generalizing s with
  | nil => rfl
  | cons e es ih => unfold takeEntries; dsimp only; split <;> simp [ih]

@[simp] theorem roomSide_takeEntry (p : List Byte) : roomSide (takeEntry p s) = roomSide s := by
  unfold takeEntry; dsimp only; repeat' split
  all_goals simp

@[simp] theorem roomSide_takeCancel (p : List Byte) : roomSide (takeCancel p s) = roomSide s := by
  unfold takeCancel; dsimp only; repeat' split
  all_goals simp

@[simp] theorem roomSide_signOffEntry (num k : Nat) (e : Entry) : roomSide (signOffEntry num k e s) = roomSide s := by
  unfold signOffEntry signOffActive; repeat' split
  all_goals simp

@[simp] theorem roomSide_signOffFrom (num k : Nat) (es : List Entry) :
    roomSide (signOffFrom num k es s) = roomSide s := by
  induction es generalizing k s with
  | nil => rfl
  | cons e es ih => unfold signOffFrom; rw [ih, roomSide_signOffEntry]

@[simp] theorem roomSide_signOffOutbound (c : Consignment) : roomSide (signOffOutbound c s) = roomSide s := by
  unfold signOffOutbound; dsimp only; split <;> simp

@[simp] theorem roomSide_signOffInbound (c : Consignment) : roomSide (signOffInbound c s) = roomSide s := by
  simp [signOffInbound]

@[simp] theorem roomSide_courierWindowOver (c : Consignment) : roomSide (courierWindowOver c s) = roomSide s := by
  unfold courierWindowOver; dsimp only; split <;> simp

@[simp] theorem roomSide_openingOver (num : Nat) : roomSide (openingOver num s) = roomSide s := by
  unfold openingOver; repeat' split
  all_goals simp

@[simp] theorem roomSide_courierOver (num : Nat) : roomSide (courierOver num s) = roomSide s := by
  unfold courierOver; repeat' split
  all_goals simp

@[simp] theorem roomSide_deadlineOver (num : Nat) : roomSide (deadlineOver num s) = roomSide s := by
  unfold deadlineOver; repeat' split
  all_goals simp

/-! ### Handover -/

@[simp] theorem roomSide_takeOffer (n : Nat) (p : List Byte) : roomSide (takeOffer n p s) = roomSide s := by
  unfold takeOffer; split <;> simp

@[simp] theorem roomSide_disputeEntry (e : CustodyEntry) (c : DisputeCause) :
    roomSide (disputeEntry e c s) = roomSide s := by simp [disputeEntry, disputedNotice]

@[simp] theorem roomSide_confirmTaking (e : CustodyEntry) : roomSide (confirmTaking e s) = roomSide s := by
  unfold confirmTaking; dsimp only; repeat' split
  case h_1 h => exact (roomSide_returnRequest h).trans rfl
  all_goals simp

@[simp] theorem roomSide_takeCleared (n : Nat) (p : List Byte) : roomSide (takeCleared n p s) = roomSide s := by
  unfold takeCleared; repeat' split
  all_goals simp

@[simp] theorem roomSide_takeLate (n : Nat) (p : List Byte) : roomSide (takeLate n p s) = roomSide s := by
  unfold takeLate; repeat' split
  all_goals simp

@[simp] theorem roomSide_takeWithdraw (n : Nat) (p : List Byte) : roomSide (takeWithdraw n p s) = roomSide s := by
  unfold takeWithdraw; repeat' split
  all_goals simp

@[simp] theorem roomSide_takeTaken (n : Nat) (p : List Byte) : roomSide (takeTaken n p s) = roomSide s := by
  unfold takeTaken releaseEntry releasedNotice owe replyLate; repeat' split
  all_goals simp

@[simp] theorem roomSide_takeRefuse (n : Nat) (p : List Byte) : roomSide (takeRefuse n p s) = roomSide s := by
  unfold takeRefuse refuseEntry refusedNotice; dsimp only; repeat' split
  all_goals simp

@[simp] theorem roomSide_handoverOver (t : Tag) : roomSide (handoverOver t s) = roomSide s := by
  unfold handoverOver adriftNotice; dsimp only; repeat' split
  all_goals simp

@[simp] theorem roomSide_lapseOver (t : Tag) : roomSide (lapseOver t s) = roomSide s := by
  unfold lapseOver; repeat' split
  all_goals simp

@[simp] theorem roomSide_confirmOver (t : Tag) : roomSide (confirmOver t s) = roomSide s := by
  unfold confirmOver; repeat' split
  all_goals simp

@[simp] theorem roomSide_returnKept (t : Tag) : roomSide (returnKept t s) = roomSide s := by
  unfold returnKept; repeat' split
  case h_1 sl _ =>
    cases h : returnRequest sl.number t s with
    | none => rfl
    | some v => exact roomSide_returnRequest h
  all_goals rfl

@[simp] theorem roomSide_resolveWith (args : List Byte) : roomSide (resolveWith args s) = roomSide s := by
  unfold resolveWith; dsimp only; repeat' split
  all_goals simp

/-! ### Slot scan -/

@[simp] theorem roomSide_removal (sl : Slot) : roomSide (removal sl s) = roomSide s := by
  unfold removal removeCartridge; repeat' split
  all_goals simp

@[simp] theorem roomSide_seat (sl : Slot) : roomSide (seat sl s) = roomSide s := by
  unfold seat seatSlot seatedNotice; dsimp only; repeat' split
  all_goals simp

@[simp] theorem roomSide_presence (sl : Slot) : roomSide (presence sl s) = roomSide s := by
  unfold presence returnEvacuee strayPresence; dsimp only; split <;> simp

@[simp] theorem roomSide_sampleSlot (n : Nat) (b : Bool) : roomSide (sampleSlot n b s) = roomSide s := by
  unfold sampleSlot; dsimp only; repeat' split
  all_goals simp

@[simp] theorem roomSide_sampleLine (d : Nat) (x : Sense) : roomSide (sampleLine d x s) = roomSide s :=
  foldl_roomSide _ (by simp) _ s

@[simp] theorem roomSide_inventoryStep (inv : Inventory) (x : Sense) :
    roomSide (inventoryStep inv x s) = roomSide s := by
  unfold inventoryStep finishInventory; dsimp only; repeat' split
  all_goals simp

@[simp] theorem roomSide_slotScanStep (x : Sense) : roomSide (slotScanStep x s) = roomSide s := by
  unfold slotScanStep; dsimp only
  refine (roomSide_write_others _ _ _ _ _ _ _ _ _).trans ?_
  repeat' split
  all_goals simp

@[simp] theorem roomSide_pullWindowOver (n : Nat) : roomSide (pullWindowOver n s) = roomSide s := by
  unfold pullWindowOver pullFailedNotice; dsimp only; repeat' split
  all_goals simp

@[simp] theorem roomSide_returnWindowOver (n : Nat) : roomSide (returnWindowOver n s) = roomSide s := by
  unfold returnWindowOver; repeat' split
  all_goals simp

@[simp] theorem roomSide_clearQuarantineAt (n : Nat) : roomSide (clearQuarantineAt n s) = roomSide s := by
  unfold clearQuarantineAt; repeat' split
  all_goals simp

/-! ### Reader -/

@[simp] theorem roomSide_withReader (r : ReaderPort) : roomSide (withReader r s) = roomSide s := rfl
@[simp] theorem roomSide_readerNext : roomSide (readerNext s) = roomSide s := rfl
@[simp] theorem roomSide_requestSignal (x : Signal) : roomSide (requestSignal x s) = roomSide s := rfl

@[simp] theorem roomSide_goodResponse : roomSide (goodResponse s) = roomSide s := by simp [goodResponse]

@[simp] theorem roomSide_badResponse : roomSide (badResponse s) = roomSide s := by
  unfold badResponse; dsimp only; split <;> simp

@[simp] theorem roomSide_unknownTag (k : TagKind) (t : Tag) : roomSide (unknownTag k t s).1 = roomSide s := by
  simp [unknownTag]

theorem roomSide_verifyFirst {t : Tag} {l : List PullCandidate} {s v : State} (h : verifyFirst t l s = some v) :
    roomSide v = roomSide s := by
  induction l with
  | nil => cases h
  | cons c l ih =>
    unfold verifyFirst at h
    split at h
    · cases h
      simp [roomSide_verifyRequest ‹_›]
    · exact ih h

@[simp] theorem roomSide_bayKnown (t : Tag) : roomSide (bayKnown t s).1 = roomSide s := by
  unfold bayKnown; split <;> simp

@[simp] theorem roomSide_routeBayCartridge (t : Tag) : roomSide (routeBayCartridge t s).1 = roomSide s := by
  unfold routeBayCartridge claimExpected; repeat' split
  all_goals simp
  exact roomSide_verifyFirst ‹_›

@[simp] theorem roomSide_badgeAt (c : Consignment) : roomSide (badgeAt c s) = roomSide s := by
  unfold badgeAt; split <;> simp

@[simp] theorem roomSide_routeDockBadge (t : Tag) : roomSide (routeDockBadge t s).1 = roomSide s := by
  unfold routeDockBadge; split <;> simp

@[simp] theorem roomSide_routeDockCase (t : Tag) (c : Option CaseClimate) :
    roomSide (routeDockCase t c s).1 = roomSide s := by unfold routeDockCase; split <;> simp

@[simp] theorem roomSide_dockKnown (t : Tag) : roomSide (dockKnown t s).1 = roomSide s := by
  unfold dockKnown loadEntry unloadRead; repeat' split
  all_goals simp

@[simp] theorem roomSide_routeDockCartridge (t : Tag) : roomSide (routeDockCartridge t s).1 = roomSide s := by
  unfold routeDockCartridge claimExpected receiveCartridge; repeat' split
  all_goals simp

@[simp] theorem roomSide_route (k : TagKind) (t : Tag) (c : Option CaseClimate) :
    roomSide (route k t c s).1 = roomSide s := by unfold route; split <;> simp

@[simp] theorem roomSide_goodRead (b : Bool) (r : ReadStatus) : roomSide (goodRead b r s) = roomSide s := by
  unfold goodRead routeRead; dsimp only; repeat' split
  all_goals simp

@[simp] theorem roomSide_readResponse (l : List Byte) : roomSide (readResponse l s) = roomSide s := by
  unfold readResponse; repeat' split
  all_goals simp

@[simp] theorem roomSide_signalResponse (c : Byte) : roomSide (signalResponse c s) = roomSide s := by
  unfold signalResponse signalAnswered; repeat' split
  all_goals simp

@[simp] theorem roomSide_responseTimeout : roomSide (responseTimeout s) = roomSide s := by
  unfold responseTimeout; split <;> simp

@[simp] theorem roomSide_recoveryOver : roomSide (recoveryOver s) = roomSide s := by
  unfold recoveryOver; split <;> rfl

/-! ### Line -/

@[simp] theorem roomSide_withLine (l : LineController) : roomSide (withLine l s) = roomSide s := rfl
@[simp] theorem roomSide_setReceiving (b : Bool) : roomSide (setReceiving b s) = roomSide s := rfl
@[simp] theorem roomSide_setPeer (n : Nat) (p : Peer) : roomSide (setPeer n p s) = roomSide s := rfl

@[simp] theorem roomSide_countDiscard : roomSide (countDiscard s) = roomSide s := by
  unfold countDiscard; dsimp only; split <;> simp

@[simp] theorem roomSide_countMismatch : roomSide (countMismatch s) = roomSide s := by
  unfold countMismatch; dsimp only; split <;> simp

@[simp] theorem roomSide_stationConflict : roomSide (stationConflict s) = roomSide s := by simp [stationConflict]

@[simp] theorem roomSide_takeQuery (n : Nat) (p : List Byte) : roomSide (takeQuery n p s) = roomSide s := by
  unfold takeQuery; repeat' split
  all_goals simp

@[simp] theorem roomSide_failReadback : roomSide (failReadback s) = roomSide s := by unfold failReadback; split <;> simp

@[simp] theorem roomSide_frameGap : roomSide (frameGap s) = roomSide s := by unfold frameGap; split <;> simp

@[simp] theorem roomSide_lineStuck (b : Bool) : roomSide (lineStuck b s) = roomSide s := by
  unfold lineStuck; dsimp only; rw [roomSide_failReadback]; split <;> simp

@[simp] theorem roomSide_closeWindow : roomSide (closeWindow s) = roomSide s := by
  unfold closeWindow; dsimp only; split <;> simp

@[simp] theorem roomSide_conflictOver : roomSide (conflictOver s) = roomSide s := by
  unfold conflictOver; split <;> simp

/-! ### Transmitter and contacts -/

@[simp] theorem roomSide_transmitStart (n : Nat) : roomSide (transmitStart n s) = roomSide s := by
  unfold transmitStart takeClass takeAlarmSlot takeStateSlot takeHandover takeOwed takeAnswer takeReport
  repeat' split
  all_goals simp

@[simp] theorem roomSide_frameSent : roomSide (frameSent s) = roomSide s := by unfold frameSent; split <;> rfl

@[simp] theorem roomSide_doorSettled (b : Bool) : roomSide (doorSettled b s) = roomSide s := by
  unfold doorSettled doorForced; dsimp only; split
  · exact (roomSide_queueReport _ _).trans rfl
  · rfl

end Sys2Proof.Machine
end

section
/-! ## What an event does at the allotter (R66, R68, R69)

`Dried` says what an event may do there: it keeps the allotter forced exactly under a forced-off condition and forced
off then, and where it begins or ends the forcing it does so by the rules. -/

namespace Sys2Proof.Machine

/-! ### Operations that leave the allotter alone -/

section
variable {s t u : State}

theorem forcedCondition_of_roomSide (room : roomSide t = roomSide s) (fire : t.fire.state = s.fire.state) :
    forcedCondition t = forcedCondition s := by
  rw [forcedCondition, forcedCondition, fire, mainsFail_of_roomSide room, climateState_of_roomSide room]

/-- Nothing changes of what the allotter has, reads and is forced by, nor of whether a STATE is queued. -/
structure Untouched (s t : State) : Prop where
  cfg : t.cfg = s.cfg
  own : t.own = s.own
  allot : t.allot = s.allot
  bay : t.climate.bay = s.climate.bay
  condition : forcedCondition t = forcedCondition s
  peers : t.line.peers = s.line.peers
  queued : t.line.stateQueued = s.line.stateQueued

theorem Untouched.trans (h : Untouched s u) (k : Untouched u t) : Untouched s t where
  cfg := k.cfg.trans h.cfg
  own := k.own.trans h.own
  allot := k.allot.trans h.allot
  bay := k.bay.trans h.bay
  condition := k.condition.trans h.condition
  peers := k.peers.trans h.peers
  queued := k.queued.trans h.queued

theorem Untouched.counts (h : Untouched s t) : runningCount t + rank t = runningCount s + rank s :=
  runningCount_add_rank_congr h.own h.cfg h.bay h.peers

theorem untouched_of_roomSide (room : roomSide t = roomSide s) (fire : t.fire.state = s.fire.state)
    (peers : t.line.peers = s.line.peers) (queued : t.line.stateQueued = s.line.stateQueued) : Untouched s t where
  cfg := cfg_of_roomSide room
  own := own_of_roomSide room
  allot := allot_of_roomSide room
  bay := bay_of_roomSide room
  condition := forcedCondition_of_roomSide room fire
  peers := peers
  queued := queued

theorem onlyReports_untouched {l l' : LineController} (h : OnlyReports l l') :
    l'.peers = l.peers ∧ l'.stateQueued = l.stateQueued := by
  rw [h]
  exact ⟨rfl, rfl⟩

end

section
variable (s : State)

theorem onlyReports_judgePause : OnlyReports s.line (judgePause s).line := by
  unfold judgePause countHoldsDown
  dsimp only
  split
  · exact onlyReports_queueReports _ _
  · rfl

theorem untouched_judgePause : Untouched s (judgePause s) := by
  obtain ⟨peers, queued⟩ := onlyReports_untouched (onlyReports_judgePause s)
  have frame := judgePause_frame s
  refine ⟨?_, ?_, ?_, ?_, ?_, peers, queued⟩
  all_goals rw [frame]
  rfl

theorem untouched_custodyAfterMove : Untouched s (custodyAfterMove s) := by
  unfold custodyAfterMove
  repeat' split
  all_goals exact ⟨rfl, rfl, rfl, rfl, rfl, rfl, rfl⟩

theorem untouched_reofferChecks (n : Nat) (k : UpdateKind) (p : Peer) : Untouched s (reofferChecks n k p s) :=
  ⟨rfl, rfl, rfl, rfl, rfl, rfl, rfl⟩

theorem untouched_queueAlarmIfChanged (a : State) : Untouched a (queueAlarmIfChanged s a) := by
  rw [queueAlarmIfChanged_frame]
  exact ⟨rfl, rfl, rfl, rfl, rfl, rfl, rfl⟩

theorem untouched_continueScan (i : InputNo) : Untouched s (continueScan i s) := by
  rw [continueScan_eq_sup]
  exact ⟨rfl, rfl, rfl, rfl, rfl, rfl, rfl⟩

theorem untouched_beginNext : Untouched s (beginNext s) := by
  rw [beginNext_eq]
  exact ⟨rfl, rfl, rfl, rfl, rfl, rfl, rfl⟩

theorem untouched_afterSequence : Untouched s (afterSequence s) := by
  obtain ⟨peers, queued⟩ := onlyReports_untouched (oneTrouble_afterSequence s).reports
  exact untouched_of_roomSide (by simp) (state_of_fireCore (by simp)) peers queued

theorem untouched_closeWindow : Untouched s (closeWindow s) := by
  refine untouched_of_roomSide (by simp) (state_of_fireCore (by simp)) (closeWindow_peers s) ?_
  unfold closeWindow
  dsimp only
  split
  · exact (onlyReports_untouched (onlyReports_setTrouble .lineNoisy false s)).2
  · rfl

end

/-! ### The relation -/

/-- What an event does at the allotter: where it begins the forcing the allotter is forced off, and where it ends it,
with bay values, the request is judged by the set threshold and the grant is evaluated. -/
structure Dried (s t : State) : Prop where
  keeps : DryingGuarded t
  begins : s.allot.forced = false → t.allot.forced = true →
    t.allot = forcedOff s ∧ (s.allot.running = true → t.line.stateQueued = true)
  ends : s.allot.forced = true → t.allot.forced = false →
    t.cfg = s.cfg ∧ ∀ b ∈ t.climate.bay,
      t.allot = grantOn (decide (s.cfg.rhTarget + s.cfg.bandUp ≤ b.rh)) { t with allot := s.allot }

/-- An event does so at a station that is guarded before it. -/
abbrev Dries (s t : State) : Prop := DryingGuarded s → Dried s t

section
variable {s t u : State}

theorem Dried.of_forced_eq (keeps : DryingGuarded t) (h : t.allot.forced = s.allot.forced) : Dried s t where
  keeps := keeps
  begins before after := absurd (after.symm.trans (h.trans before)) (by simp)
  ends before after := absurd (after.symm.trans (h.trans before)) (by simp)

theorem DryingGuarded.congr (h : DryingGuarded s) (allot : t.allot = s.allot)
    (condition : forcedCondition t = forcedCondition s) : DryingGuarded t := by
  rw [DryingGuarded, allot, condition]
  exact h

/-- An event that leaves the record and the condition. -/
theorem Dries.rest (allot : t.allot = s.allot) (condition : forcedCondition t = forcedCondition s) : Dries s t :=
  fun guarded => .of_forced_eq (guarded.congr allot condition) (by rw [allot])

/-- An event that leaves the room side and the fire core. -/
theorem Dries.quiet (room : roomSide t = roomSide s) (core : fireCore t = fireCore s) : Dries s t :=
  .rest (allot_of_roomSide room) (forcedCondition_of_roomSide room (state_of_fireCore core))

/-- An event is judged by the record and the configured values that it begins with. -/
theorem Dried.congr (allot : u.allot = s.allot) (cfg : u.cfg = s.cfg) (h : Dried u t) : Dried s t where
  keeps := h.keeps
  begins := by
    have off : forcedOff u = forcedOff s := by rw [forcedOff, forcedOff, allot, cfg]
    rw [← allot, ← off]
    exact h.begins
  ends := by
    rw [← allot, ← cfg]
    exact h.ends

/-- The room side and the fire core stand before the event. -/
theorem Dries.from_quiet (room : roomSide u = roomSide s) (core : fireCore u = fireCore s) (h : Dries u t) :
    Dries s t := fun guarded =>
  have allot := allot_of_roomSide room
  have condition := forcedCondition_of_roomSide room (state_of_fireCore core)
  (h (guarded.congr allot condition)).congr allot (cfg_of_roomSide room)

theorem grantOn_congr (request : Bool) (allot : t.allot = s.allot) (cfg : t.cfg = s.cfg)
    (counts : runningCount t + rank t = runningCount s + rank s) : grantOn request t = grantOn request s := by
  rw [grantOn, grantOn, allot, cfg, counts]

/-- What follows the event leaves the allotter alone. -/
theorem Dries.untouched (h : Dries s u) (k : Untouched u t) : Dries s t := fun guarded =>
  have dried := h guarded
  { keeps := dried.keeps.congr k.allot k.condition
    begins := by
      rw [k.allot, k.queued]
      exact dried.begins
    ends := fun before after => by
      rw [k.allot] at after
      obtain ⟨cfg, ended⟩ := dried.ends before after
      rw [k.bay]
      refine ⟨k.cfg.trans cfg, fun b hb => ?_⟩
      rw [k.allot, ended b hb]
      exact (grantOn_congr (s := { u with allot := s.allot }) (t := { t with allot := s.allot }) _ rfl k.cfg
        k.counts).symm }

end

/-! ### Forcing looked at again -/

section
variable {s u : State}

theorem forcedOff_off (s : State) : (forcedOff s).running = false ∧ (forcedOff s).request = false := by
  unfold forcedOff
  split
  case isTrue => exact ⟨rfl, rfl⟩
  case isFalse stopped => exact ⟨by simpa using stopped, rfl⟩

/-- Where forcing is looked at again the conditions may be any; the record and the configured values stand till then. -/
theorem dries_reevaluateForced (cfg : u.cfg = s.cfg) (allot : u.allot = s.allot) : Dries s (reevaluateForced u) := by
  refine fun ⟨forced, off⟩ => .congr (u := u) allot cfg ?_
  rw [← allot] at off
  cases condition : forcedCondition u with
  | true =>
    rw [reevaluateForced_of_condition u condition]
    cases before : u.allot.forced with
    | true =>
      rw [if_pos rfl, allotted_self]
      exact .of_forced_eq ⟨before.trans condition.symm, off⟩ rfl
    | false =>
      rw [if_neg (by simp)]
      exact
        { keeps := ⟨(forcedOff_forced u).trans condition.symm, fun _ => forcedOff_off u⟩
          begins := fun _ _ => ⟨rfl, fun running => by simp [forcedOff_off, running]⟩
          ends := fun forced _ => absurd (before.symm.trans forced) (by simp) }
  | false =>
    rw [reevaluateForced_of_free u condition fun h => (off h).1]
    cases before : u.allot.forced with
    | true =>
      rw [if_pos rfl]
      exact
        { keeps := ⟨(grantOn_forced u _).trans condition.symm, fun forced =>
            absurd ((grantOn_forced u _).symm.trans forced) (by simp)⟩
          begins := fun free _ => absurd (before.symm.trans free) (by simp)
          ends := fun _ _ => ⟨rfl, fun b hb => congrArg (grantOn · u) (requestAtForcingEnd_of_bay u hb)⟩ }
    | false =>
      rw [if_neg (by simp), allotted_self]
      exact .of_forced_eq ⟨before.trans condition.symm, off⟩ rfl

/-- A grant that has just been evaluated is not evaluated otherwise a second time. -/
theorem not_granted_of_grantOn {request : Bool} {a : Allotter} (h : u.allot = grantOn request { u with allot := a }) :
    ¬ granted u = true := by
  intro grants
  obtain ⟨off, -, requests, minOff, room⟩ := (granted_iff u).1 grants
  rw [grantOn_eq] at h
  split at h
  case isTrue => exact absurd ((congrArg Allotter.running h).symm.trans off) (by simp)
  case isFalse refused =>
    have request : request = true := (congrArg Allotter.request h).symm.trans requests
    have timer : a.minOff = none := (congrArg Allotter.minOff h).symm.trans minOff
    exact refused ⟨request, timer, room⟩

/-- A grant evaluation after the event begins and ends no forcing. -/
theorem Dries.grant (h : Dries s u) : Dries s (evaluateGrant u) := by
  intro guarded
  have dried := h guarded
  rw [evaluateGrant_eq]
  split
  case isTrue grants =>
    obtain ⟨-, free, -⟩ := (granted_iff u).1 grants
    have stays : ¬ (allotted (u.allot.started u.cfg) u).allot.forced = true := by
      rw [allotted_allot]
      simp [Allotter.started, free]
    exact
      { keeps := ⟨dried.keeps.1, fun forced => absurd forced stays⟩
        begins := fun _ forced => absurd forced stays
        ends := fun before _ => by
          obtain ⟨cfg, ended⟩ := dried.ends before free
          exact ⟨cfg, fun b hb => absurd grants (not_granted_of_grantOn (ended b hb))⟩ }
  case isFalse =>
    rw [allotted_self]
    exact dried

end

end Sys2Proof.Machine
end

section
/-! ## The events of a running station at the allotter (R66) -/

namespace Sys2Proof.Machine

variable (s : State)

/-! ### The fire controller and the inputs -/

/-- The end of an event that leaves the fire state at most sounds the sounder (R42). -/
theorem untouched_settleFire (before : FireRecord) (h : s.fire.state = before.state) :
    Untouched s (settleFire before s) := by
  rw [settleFire, if_pos h]
  split
  all_goals exact ⟨rfl, rfl, rfl, rfl, rfl, rfl, rfl⟩

/-- The end of an event at the fire controller looks at the forcing again where the state has moved (R42, R68). -/
theorem dries_fireEvent {effect : State → State} (room : roomSide (effect s) = roomSide s) :
    Dries s (fireEvent effect s) := by
  unfold fireEvent
  generalize effect s = u at room
  by_cases state : u.fire.state = s.fire.state
  · exact .untouched (.rest (allot_of_roomSide room) (forcedCondition_of_roomSide room state))
      (untouched_settleFire u s.fire state)
  · rw [settleFire, if_neg state]
    exact ((dries_reevaluateForced (u := sounderAfterMove u) (cfg_of_roomSide room) (allot_of_roomSide room)).untouched
      (untouched_custodyAfterMove _)).untouched (untouched_judgePause _)

theorem dries_alarmVerified (i : InputNo) : Dries s (alarmVerified i s) :=
  dries_fireEvent s (by split <;> simp)

theorem dries_abortOn (i : InputNo) : Dries s (abortOn i s) :=
  dries_fireEvent s (by dsimp only; split <;> simp)

theorem dries_abortOff (i : InputNo) : Dries s (abortOff i s) :=
  dries_fireEvent s (by simp)

theorem dries_verified (i : InputNo) : Dries s (verified i s) := by
  unfold verified
  dsimp only
  split
  · exact .from_quiet (by simp) (by simp) (dries_abortOn _ i)
  · exact .from_quiet (by simp) (by simp) (dries_alarmVerified _ i)

theorem dries_judgeSettled (i : InputNo) (c : Code) : Dries s (judgeSettled i c s) := by
  unfold judgeSettled settleBand
  dsimp only
  repeat' split
  case isFalse.isFalse.isTrue.isTrue => exact .from_quiet (by simp) (by simp) (dries_abortOff _ i)
  all_goals exact .quiet (by simp) (by simp)

theorem dries_unverified (i : InputNo) (c : Code) : Dries s (unverified i c s) := by
  unfold unverified
  dsimp only
  split
  · exact .from_quiet (u := queueReport _ (setInput i _ s)) (by simp) (by simp) (dries_judgeSettled _ i c)
  · exact .from_quiet (u := setInput i _ s) (by simp) (by simp) (dries_judgeSettled _ i c)

theorem dries_judgeCode (i : InputNo) (c : Code) : Dries s (judgeCode i c s) := by
  unfold judgeCode continueVerification
  repeat' split
  · exact .quiet rfl rfl
  · exact .quiet (by simp) (by simp)
  · exact dries_verified s i
  · exact dries_unverified s i c
  · exact dries_judgeSettled s i c

theorem dries_inputConverted (c : Code) : Dries s (inputConverted c s) := by
  unfold inputConverted
  split
  · exact (dries_judgeCode s _ c).untouched (untouched_continueScan _ _)
  · exact .quiet rfl rfl

theorem dries_verifyOver (i : InputNo) : Dries s (verifyOver i s) := by
  unfold verifyOver
  split
  · exact dries_verified s i
  · exact .quiet rfl rfl

/-! ### Console commands and timers of the fire controller -/

theorem dries_testEnd : Dries s (testEnd s) := by
  unfold testEnd
  split
  · exact dries_fireEvent s (by simp)
  · exact .quiet (by simp) (by simp)

theorem dries_testTimerOver : Dries s (testTimerOver s) := by
  unfold testTimerOver
  split
  · exact dries_fireEvent s (by simp)
  · exact .quiet rfl rfl

theorem dries_testStart : Dries s (testStart s) := by
  unfold testStart
  split
  · exact dries_fireEvent s rfl
  · exact .quiet (by simp) (by simp)

theorem dries_fireReset : Dries s (fireReset s) := by
  unfold fireReset
  split
  · exact dries_fireEvent s (by simp)
  · exact .quiet (by simp) (by simp)

theorem dries_isolateOn : Dries s (isolateOn s) := by
  unfold isolateOn
  split
  · exact .quiet rfl rfl
  · exact dries_fireEvent s (by simp)

theorem dries_isolateOff : Dries s (isolateOff s) := by
  unfold isolateOff
  split
  · exact dries_fireEvent s (by simp)
  · exact .quiet rfl rfl

theorem dries_stabilizationOver : Dries s (stabilizationOver s) := by
  unfold stabilizationOver
  split
  · exact dries_fireEvent s (by simp)
  · exact .quiet rfl rfl

theorem dries_countdownOver : Dries s (countdownOver s) := by
  unfold countdownOver
  repeat' split
  · exact dries_fireEvent s (by simp)
  · exact .rest rfl rfl
  · exact .quiet rfl rfl

/-! ### Peer updates and staleness (R72, R170, R171) -/

theorem dries_firePeerUpdate (before after : Peer) : Dries s (firePeerUpdate before after s) := by
  refine dries_fireEvent s ?_
  repeat' split
  all_goals simp

theorem dries_peerUpdate (n : Nat) (k : UpdateKind) (after : Peer) : Dries s (peerUpdate n k after s) :=
  (Dries.from_quiet (u := setPeer n after s) (by simp) (by simp) (dries_firePeerUpdate _ _ after)).grant.untouched
    (untouched_reofferChecks _ n k after)

theorem dries_staleNotice : Dries s (staleNotice s) :=
  (dries_fireEvent s (by simp)).grant

theorem dries_raiseAges : Dries s (raiseAges s) := by
  rw [raiseAges_eq]
  split
  · exact .quiet rfl rfl
  · exact .from_quiet (u := withLine { s.line with peers := s.line.peers.map Peer.grow } s) rfl rfl
      (dries_staleNotice _)

theorem dries_statusOver : Dries s (statusOver s) := by
  unfold statusOver
  exact .from_quiet (u := queueState (withLine { s.line with statusTimer := some s.cfg.statusInterval } s)) rfl rfl
    ((dries_raiseAges _).untouched (untouched_closeWindow _))

theorem dries_lineRecovered : Dries s (lineRecovered s) := by
  unfold lineRecovered
  split
  · exact .from_quiet (by simp) (by simp) (dries_staleNotice _)
  · exact .quiet rfl rfl

/-! ### The climate unit (R51, R54) -/

section
variable (a b : Option Bay)

/-- A sample made, its excursion and its history too, and the pause judged, before the allotter has its notice. -/
def sampleMade (s : State) : State := judgePause (sampleEpisode (sampleRecorded a b s))

theorem takeSample_eq_allotSampleTaken : takeSample a b s = allotSampleTaken (sampleMade a b s) := rfl

theorem sampleMade_frame :
    sampleMade a b s =
      { s with climate := (sampleMade a b s).climate, scanner := (sampleMade a b s).scanner,
               hold := (sampleMade a b s).hold, line := (sampleMade a b s).line,
               out := (sampleCombined a b s).out } := by
  have pause := judgePause_frame (sampleEpisode (sampleRecorded a b s))
  have made := sampleCombined_frame s a b
  change sampleMade a b s = _ at pause
  generalize sampleMade a b s = v at *
  rw [pause]
  unfold sampleEpisode sampleRecorded
  rw [sampleHistory_frame, sampleExcursion_frame]
  generalize sampleCombined a b s = u at *
  rw [made]

theorem ExcursionMove.onlyReports {leftLost : Bool} {b : Bay} {t : State} (m : ExcursionMove leftLost b s t) :
    OnlyReports s.line t.line := by
  cases m with
  | stays => rfl
  | calms => rfl
  | delays => rfl
  | starts => exact onlyReports_queueReport _ (setExcursion .excursion none s)
  | ends => exact onlyReports_queueReport _ (setExcursion .inBand none s)

theorem onlyReports_sampleExcursion (before : ClimateState) : OnlyReports s.line (sampleExcursion before s).line := by
  unfold sampleExcursion
  split
  · rfl
  · exact (excursionMove_judgeExcursion ..).onlyReports
  · rfl

theorem onlyReports_sampleMade : OnlyReports s.line (sampleMade a b s).line := by
  have combined : OnlyReports s.line (sampleCombined a b s).line :=
    ((onlyReports_setTrouble _ _ { s with climate := combined s.cfg a b s.climate }).trans'
      (onlyReports_setTrouble ..)).trans' (onlyReports_setTrouble ..)
  have recorded : (sampleEpisode (sampleRecorded a b s)).line =
      (sampleExcursion s.climate.state (sampleCombined a b s)).line := by
    rw [sampleRecorded, sampleHistory_frame]
    rfl
  have paused := onlyReports_judgePause (sampleEpisode (sampleRecorded a b s))
  rw [recorded] at paused
  exact (combined.trans' (onlyReports_sampleExcursion ..)).trans' paused

/-- Up to its notice to the allotter a sample writes nothing that the allotter has, is configured with or counts. -/
theorem sampleMade_keeps :
    (sampleMade a b s).cfg = s.cfg ∧ (sampleMade a b s).own = s.own ∧ (sampleMade a b s).allot = s.allot ∧
      (sampleMade a b s).line.peers = s.line.peers ∧ (sampleMade a b s).line.stateQueued = s.line.stateQueued := by
  have frame := sampleMade_frame s a b
  obtain ⟨peers, queued⟩ := onlyReports_untouched (onlyReports_sampleMade s a b)
  refine ⟨?_, ?_, ?_, peers, queued⟩
  all_goals rw [frame]

end

/-- The notice of a sample does what the forcing looked at again does, and at a free allotter begins and ends none. -/
theorem dries_allotSampleTaken {u : State} (cfg : u.cfg = s.cfg) (allot : u.allot = s.allot) :
    Dries s (allotSampleTaken u) := by
  intro guarded
  have off := guarded.2
  rw [← allot] at off
  cases condition : forcedCondition u with
  | true =>
    rw [allotSampleTaken_of_condition u condition, ← reevaluateForced_of_condition u condition]
    exact dries_reevaluateForced cfg allot guarded
  | false =>
    cases before : u.allot.forced with
    | true =>
      obtain ⟨stopped, clear⟩ := off before
      have again := reevaluateForced_of_free u condition fun h => (off h).1
      rw [if_pos before] at again
      rw [allotSampleTaken_of_free u condition off, if_neg (by simp [stopped]),
        judgedRequest_eq_requestAtForcingEnd u (by simp [clear]), ← again]
      exact dries_reevaluateForced cfg allot guarded
    | false =>
      have free : (sampledAllot u).forced = false := (sampledAllot_forced u).trans condition
      rw [allotSampleTaken_eq u off]
      refine .of_forced_eq ⟨free.trans condition.symm, fun forced => absurd (free.symm.trans forced) (by simp)⟩ ?_
      rw [← allot, before]
      exact free

theorem dries_takeSample (a b : Option Bay) : Dries s (takeSample a b s) := by
  obtain ⟨cfg, -, allot, -⟩ := sampleMade_keeps s a b
  rw [takeSample_eq_allotSampleTaken]
  exact dries_allotSampleTaken s cfg allot

theorem dries_probeConverted (c : Code) : Dries s (probeConverted c s) := by
  unfold probeConverted addProbeCode
  split
  · refine .untouched ?_ (untouched_beginNext _)
    dsimp only
    split
    · refine .untouched (.from_quiet (u := { s with sup := { s.sup with seq := none } }) rfl rfl ?_)
        (untouched_afterSequence _)
      exact dries_takeSample _ _ _
    · exact .quiet rfl rfl
  · exact .quiet rfl rfl

theorem dries_climateHoldOver : Dries s (climateHoldOver s) := by
  unfold climateHoldOver
  split
  · exact (dries_reevaluateForced (by simp) (by simp)).untouched (untouched_judgePause _)
  · exact .quiet rfl rfl

theorem dries_excursionDelayOver : Dries s (excursionDelayOver s) := by
  unfold excursionDelayOver
  split
  · refine .untouched (.rest ?_ ?_) (untouched_judgePause _)
    all_goals rw [queueReport_frame]
    all_goals rfl
  · exact .quiet rfl rfl

/-! ### The allotter's timers and the release pulse -/

/-- An act of the allotter that begins and ends no forcing. -/
theorem dries_allotted {a : Allotter} (forced : a.forced = s.allot.forced)
    (off : s.allot.forced = true → s.allot.running = false ∧ s.allot.request = false →
      a.running = false ∧ a.request = false) : Dries s (allotted a s) :=
  fun guarded => .of_forced_eq
    ⟨forced.trans guarded.1, fun h => have h := forced.symm.trans h; off h (guarded.2 h)⟩ forced

theorem dries_minRunExpired : Dries s (minRunExpired s) := by
  cases present : s.allot.minRun with
  | none =>
    rw [minRunExpired_absent present]
    exact .rest rfl rfl
  | some n =>
    rw [minRunExpired_eq (by simp [present])]
    split
    · exact dries_allotted s rfl fun _ off => ⟨rfl, off.2⟩
    · exact dries_allotted s rfl fun _ off => off

theorem dries_minOffExpired : Dries s (minOffExpired s) := by
  cases present : s.allot.minOff with
  | none =>
    rw [minOffExpired_absent present]
    exact .rest rfl rfl
  | some n =>
    rw [minOffExpired_eq (by simp [present])]
    split
    case isTrue free => exact dries_allotted s rfl fun forced _ => absurd (free.2.1.symm.trans forced) (by simp)
    case isFalse => exact dries_allotted s rfl fun _ off => off

theorem dries_releasePulseOver : Dries s (releasePulseOver s) := .rest rfl rfl

/-! ### The mains (R189) -/

theorem dries_mainsSettled (fail : Bool) : Dries s (mainsSettled fail s) := by
  cases fail with
  | true => exact dries_reevaluateForced (by simp) (by simp)
  | false =>
    change Dries s (mainsNormal s)
    unfold mainsNormal
    split
    all_goals exact .rest rfl rfl

theorem dries_mainsCleared : Dries s (mainsCleared s) := by
  unfold mainsCleared
  split
  · exact dries_reevaluateForced (by simp) (by simp)
  · exact .rest rfl rfl

end Sys2Proof.Machine
end

section
/-! ## What a command does at the allotter -/

namespace Sys2Proof.Machine

/-! ### Frames -/

section
variable (s : State)

/-- What a complete frame does: nothing at the room side and the fire core, or its owner's act on a state with the
same. -/
theorem receive_elim_room {P : State → Prop} (kind : Byte) (f : Frame) (act : State → State)
    (quiet : ∀ u, roomSide u = roomSide s → fireCore u = fireCore s → P u)
    (acts : ∀ u, roomSide u = roomSide s → fireCore u = fireCore s → P (act u)) : P (receive kind f act s) := by
  unfold receive validFrame
  dsimp only
  repeat' split
  case h_4.isFalse.isTrue => exact acts _ (by simp) (by simp)
  all_goals exact quiet _ (by simp) (by simp)

/-- The same for a COMMAND, whose owner acts on the console's alone, and refuses one of another length. -/
theorem receiveCommand_elim_room {P : State → Prop} (code : Byte) (f : Frame) (act : List Byte → State → State)
    (quiet : ∀ u, roomSide u = roomSide s → fireCore u = fireCore s → P u)
    (acts : ∀ u, roomSide u = roomSide s → fireCore u = fireCore s → P (act f.payload u)) :
    P (receiveCommand code f act s) := by
  refine receive_elim_room s _ _ _ quiet fun u room core => ?_
  unfold consoleOnly commandAct
  repeat' split
  · exact acts u room core
  · exact quiet _ ((roomSide_refuseCommand ..).trans room) ((fireCore_refuseCommand ..).trans core)
  · exact quiet u room core

theorem dries_receive (kind : Byte) (f : Frame) (act : State → State) (h : ∀ u, Dries u (act u)) :
    Dries s (receive kind f act s) :=
  receive_elim_room s kind f act (fun _ room core => .quiet room core) fun u room core => .from_quiet room core (h u)

theorem dries_receiveCommand (code : Byte) (f : Frame) (act : List Byte → State → State)
    (h : ∀ u, Dries u (act f.payload u)) : Dries s (receiveCommand code f act s) :=
  receiveCommand_elim_room s code f act (fun _ room core => .quiet room core) fun u room core =>
    .from_quiet room core (h u)

theorem dries_consoleOnly (f : Frame) (act : State → State) (room : ∀ u, roomSide (act u) = roomSide u)
    (core : ∀ u, fireCore (act u) = fireCore u) (u : State) : Dries u (consoleOnly f act u) := by
  unfold consoleOnly
  split
  · exact .quiet (room u) (core u)
  · exact .quiet rfl rfl

theorem dries_discardFrame (cause : DiscardCause) : Dries s (discardFrame cause s) := by
  unfold discardFrame
  split
  case h_4 kind f => exact dries_receive s kind f id fun _ => .quiet rfl rfl
  all_goals
    split
    · exact .quiet rfl rfl
    · exact .quiet (by simp) (by simp)

end

/-! ### The events of a running station -/

/-- The effect of every command that is an event of a running station, and what it does at the allotter. -/
theorem exec_dries (s : State) (c : Instr) (h : startsOrEnds c = false) :
    ∃ effect : State → State, exec c s = runEvent effect s ∧ Dries s (effect s) :=
  match c with
  | .powerOn .. => nomatch h
  | .resetPin .. => nomatch h
  | .configImageRead .. => nomatch h
  | .restart .. => nomatch h
  | .mainsContactSettled .. => nomatch h
  | .mainsClearDelayExpiry => nomatch h
  | .uptimeMinute => ⟨_, rfl, .rest rfl rfl⟩
  | .fireReset .. => ⟨_, rfl, dries_receiveCommand s _ _ _ fun u => dries_fireReset u⟩
  | .silence .. =>
    ⟨_, rfl, dries_receiveCommand s _ _ _ fun u => .quiet (roomSide_silenceCommand u) (fireCore_silenceCommand u)⟩
  | .testStart .. => ⟨_, rfl, dries_receiveCommand s _ _ _ fun u => dries_testStart u⟩
  | .testEnd .. => ⟨_, rfl, dries_receiveCommand s _ _ _ fun u => dries_testEnd u⟩
  | .isolateOn .. => ⟨_, rfl, dries_receiveCommand s _ _ _ fun u => dries_isolateOn u⟩
  | .isolateOff .. => ⟨_, rfl, dries_receiveCommand s _ _ _ fun u => dries_isolateOff u⟩
  | .clearQuarantine .. =>
    ⟨_, rfl, dries_receiveCommand s _ _ _
      fun u => .quiet (roomSide_clearQuarantineAt u _) (fireCore_clearQuarantineAt u _)⟩
  | .resolve .. =>
    ⟨_, rfl, dries_receiveCommand s _ _ _ fun u => .quiet (roomSide_resolveWith u _) (fireCore_resolveWith u _)⟩
  | .commandInvalid f =>
    ⟨_, rfl, dries_receive s _ f _
      (dries_consoleOnly f _ (fun u => roomSide_refuseCommand u ..) fun u => fireCore_refuseCommand u ..)⟩
  | .stateFrame f => ⟨_, rfl, dries_receive s _ f _ fun u => dries_peerUpdate u _ _ _⟩
  | .alarmFrame f => ⟨_, rfl, dries_receive s _ f _ fun u => dries_peerUpdate u _ _ _⟩
  | .consign f =>
    ⟨_, rfl, dries_receive s _ f _
      (dries_consoleOnly f _ (fun u => roomSide_takeConsign u _) fun u => fireCore_takeConsign u _)⟩
  | .entry f =>
    ⟨_, rfl, dries_receive s _ f _
      (dries_consoleOnly f _ (fun u => roomSide_takeEntry u _) fun u => fireCore_takeEntry u _)⟩
  | .cancel f =>
    ⟨_, rfl, dries_receive s _ f _
      (dries_consoleOnly f _ (fun u => roomSide_takeCancel u _) fun u => fireCore_takeCancel u _)⟩
  | .offer f => ⟨_, rfl, dries_receive s _ f _ fun u => .quiet (roomSide_takeOffer u ..) (fireCore_takeOffer u ..)⟩
  | .taken f => ⟨_, rfl, dries_receive s _ f _ fun u => .quiet (roomSide_takeTaken u ..) (fireCore_takeTaken u ..)⟩
  | .cleared f =>
    ⟨_, rfl, dries_receive s _ f _ fun u => .quiet (roomSide_takeCleared u ..) (fireCore_takeCleared u ..)⟩
  | .withdraw f =>
    ⟨_, rfl, dries_receive s _ f _ fun u => .quiet (roomSide_takeWithdraw u ..) (fireCore_takeWithdraw u ..)⟩
  | .late f => ⟨_, rfl, dries_receive s _ f _ fun u => .quiet (roomSide_takeLate u ..) (fireCore_takeLate u ..)⟩
  | .refuse f => ⟨_, rfl, dries_receive s _ f _ fun u => .quiet (roomSide_takeRefuse u ..) (fireCore_takeRefuse u ..)⟩
  | .query f =>
    ⟨_, rfl, dries_receive s _ f _
      (dries_consoleOnly f _ (fun u => roomSide_takeQuery u ..) fun u => fireCore_takeQuery u ..)⟩
  | .discardedFrame .. => ⟨_, rfl, dries_discardFrame s _⟩
  | .frameGapTimeout => ⟨_, rfl, .quiet (roomSide_frameGap s) (fireCore_frameGap s)⟩
  | .lineStuckSet .. => ⟨_, rfl, .quiet (roomSide_lineStuck s _) (fireCore_lineStuck s _)⟩
  | .lineStuckClear => ⟨_, rfl, dries_lineRecovered s⟩
  | .transmitStart .. => ⟨_, rfl, .quiet (roomSide_transmitStart s _) (fireCore_transmitStart s _)⟩
  | .frameSent => ⟨_, rfl, .quiet (roomSide_frameSent s) (fireCore_frameSent s)⟩
  | .readbackFailure => ⟨_, rfl, .quiet (roomSide_failReadback s) (fireCore_failReadback s)⟩
  | .statusTimerExpiry => ⟨_, rfl, dries_statusOver s⟩
  | .conflictTimerExpiry => ⟨_, rfl, .quiet (roomSide_conflictOver s) (fireCore_conflictOver s)⟩
  | .scanTimerExpiry .. => ⟨_, rfl, .quiet (roomSide_scanTimerOver s _) (fireCore_scanTimerOver s _)⟩
  | .inputConversionEnd .. => ⟨_, rfl, dries_inputConverted s _⟩
  | .probeConversionEnd .. => ⟨_, rfl, dries_probeConverted s _⟩
  | .verifyTimerExpiry .. => ⟨_, rfl, dries_verifyOver s _⟩
  | .climateTimerExpiry => ⟨_, rfl, .quiet (roomSide_climateTimerOver s) (fireCore_climateTimerOver s)⟩
  | .climateHoldTimerExpiry => ⟨_, rfl, dries_climateHoldOver s⟩
  | .excursionDelayExpiry => ⟨_, rfl, dries_excursionDelayOver s⟩
  | .stabilizationTimerExpiry => ⟨_, rfl, dries_stabilizationOver s⟩
  | .countdownExpiry => ⟨_, rfl, dries_countdownOver s⟩
  | .releasePulseExpiry => ⟨_, rfl, dries_releasePulseOver s⟩
  | .testTimerExpiry => ⟨_, rfl, dries_testTimerOver s⟩
  | .testLatchClearExpiry .. => ⟨_, rfl, .quiet (roomSide_testLatchOver s _) (fireCore_testLatchOver s _)⟩
  | .testPulseEnd => ⟨_, rfl, .quiet (roomSide_testPulseOver s) rfl⟩
  | .sounderCadenceExpiry => ⟨_, rfl, .quiet (roomSide_cadenceOver s) (fireCore_cadenceOver s)⟩
  | .minRunTimerExpiry => ⟨_, rfl, dries_minRunExpired s⟩
  | .minOffTimerExpiry => ⟨_, rfl, dries_minOffExpired s⟩
  | .slotScanStep .. => ⟨_, rfl, .quiet (roomSide_slotScanStep s _) (fireCore_slotScanStep s _)⟩
  | .pullWindowExpiry .. => ⟨_, rfl, .quiet (roomSide_pullWindowOver s _) (fireCore_pullWindowOver s _)⟩
  | .returnWindowExpiry .. => ⟨_, rfl, .quiet (roomSide_returnWindowOver s _) (fireCore_returnWindowOver s _)⟩
  | .attentionRise => ⟨_, rfl, .quiet rfl rfl⟩
  | .readResponse .. => ⟨_, rfl, .quiet (roomSide_readResponse s _) (fireCore_readResponse s _)⟩
  | .signalResponse .. => ⟨_, rfl, .quiet (roomSide_signalResponse s _) (fireCore_signalResponse s _)⟩
  | .responseTimeout => ⟨_, rfl, .quiet (roomSide_responseTimeout s) (fireCore_responseTimeout s)⟩
  | .bounceTimerExpiry => ⟨_, rfl, .quiet rfl rfl⟩
  | .recoveryTimerExpiry => ⟨_, rfl, .quiet (roomSide_recoveryOver s) (fireCore_recoveryOver s)⟩
  | .readerRestartDelayExpiry => ⟨_, rfl, .quiet rfl rfl⟩
  | .openingTimerExpiry .. => ⟨_, rfl, .quiet (roomSide_openingOver s _) (fireCore_openingOver s _)⟩
  | .courierWindowExpiry .. => ⟨_, rfl, .quiet (roomSide_courierOver s _) (fireCore_courierOver s _)⟩
  | .deadlineTimerExpiry .. => ⟨_, rfl, .quiet (roomSide_deadlineOver s _) (fireCore_deadlineOver s _)⟩
  | .handoverTimerExpiry .. => ⟨_, rfl, .quiet (roomSide_handoverOver s _) (fireCore_handoverOver s _)⟩
  | .lapseTimerExpiry .. => ⟨_, rfl, .quiet (roomSide_lapseOver s _) (fireCore_lapseOver s _)⟩
  | .confirmTimerExpiry .. => ⟨_, rfl, .quiet (roomSide_confirmOver s _) (fireCore_confirmOver s _)⟩
  | .minuteTimerExpiry => ⟨minuteOver, rfl, .quiet (roomSide_minuteOver s) (fireCore_minuteOver s)⟩
  | .doorContactSettled .. => ⟨_, rfl, .quiet (roomSide_doorSettled s _) (fireCore_doorSettled s _)⟩
  | .doorForcedTimerExpiry => ⟨_, rfl, .quiet rfl rfl⟩
  | .validFrameDropped _ f => ⟨_, rfl, dries_receive s _ f _ fun _ => .quiet rfl rfl⟩

end Sys2Proof.Machine
end

section
/-! ## The forced-off dehumidifier (O8) -/

namespace Sys2Proof.Machine

/-! ### Starts and RESTART -/

section
variable {s t : State}

/-- The blocks start with the allotter as it stands: forced since the start begun or the RESTART taken (R77, R78). -/
theorem guarded_startStation (image : List Byte) (attention : Bool) (check : CircuitCheck) (guarded : DryingGuarded s) :
    DryingGuarded (startStation image attention check s) := by
  have room : roomSide (startStation image attention check s) =
      roomSide (startBlocks attention (applyImage image s)) := by simp [startStation]
  have fire : (startStation image attention check s).fire.state = s.fire.state :=
    congrArg FireCore.state (fireCore_startStation s image attention check)
  have applied : forcedCondition (startBlocks attention (applyImage image s)) = forcedCondition s := by
    have mains : troubleActive .mainsFail (startBlocks attention (applyImage image s)) = troubleActive .mainsFail s :=
      (troubleActive_setActive ..).trans (if_neg (by simp))
    rw [forcedCondition, mains]
    rfl
  exact guarded.congr ((allot_of_roomSide room).trans rfl) ((forcedCondition_of_roomSide room fire).trans applied)

/-- What a command does at the allotter: what an event may do, or it begins or ends a start, before or after which the
blocks do not run. -/
def DriesOrStarts (s t : State) : Prop :=
  Dries s t ∨ (DryingGuarded s → DryingGuarded t) ∧ (s.phase = .running → t.phase ≠ .running)

theorem driesOrStarts_takeRestart (s u : State) : DriesOrStarts s (takeRestart u) := by
  have allot : (takeRestart u).allot = restartAllotter := by
    rw [takeRestart_eq, queueReports_frame, blocksRestarted_frame]
  have core := fireCore_takeRestart u
  have condition : forcedCondition (takeRestart u) = true := by
    have state : (takeRestart u).fire.state = .stabilizing := congrArg FireCore.state core
    simp [forcedCondition, state]
  refine .inr ⟨fun _ => ⟨?_, fun _ => ?_⟩, fun _ => ?_⟩
  · rw [allot, condition]
    rfl
  · rw [allot]
    exact ⟨rfl, rfl⟩
  · rw [show (takeRestart u).phase = .restarting from congrArg FireCore.phase core]
    simp

theorem driesOrStarts_restart (s : State) (f : Frame) :
    DriesOrStarts s (receiveCommand codeRestart f (fun _ => restartCommand) s) := by
  refine receiveCommand_elim_room s _ f _ (fun u room core => .inl (.quiet room core)) fun u room core => ?_
  unfold restartCommand
  split
  · exact .inl (.quiet ((roomSide_refuseCommand ..).trans room) ((fireCore_refuseCommand ..).trans core))
  · exact driesOrStarts_takeRestart s u

theorem driesOrStarts_beginStart (own : Strap) (role : Role) (s : State) : DriesOrStarts s (beginStart own role s) :=
  .inr ⟨fun _ => ⟨rfl, fun _ => ⟨rfl, rfl⟩⟩, fun _ => by simp [beginStart, setActive]⟩

theorem driesOrStarts_configImageRead (image : List Byte) (attention : Bool) (check : CircuitCheck)
    (h : exec (.configImageRead image attention check) s = .next t) : DriesOrStarts s t := by
  change execConfigImageRead image attention check s = _ at h
  cases h
  have starts (hs : s.phase ≠ .running) : DriesOrStarts s (startStation image attention check s) :=
    .inr ⟨guarded_startStation image attention check, fun run => absurd run hs⟩
  split
  case h_1 reading => exact starts (by simp [reading])
  case h_2 restarting => exact starts (by simp [restarting])
  case h_3 => exact .inl (.quiet rfl rfl)

theorem DriesOrStarts.untouched {u : State} (h : DriesOrStarts s u) (k : Untouched u t) (phase : t.phase = u.phase) :
    DriesOrStarts s t := by
  obtain dries | ⟨guarded, ends⟩ := h
  · exact .inl (dries.untouched k)
  · exact .inr ⟨fun before => (guarded before).congr k.allot k.condition, fun run => phase ▸ ends run⟩

/-! ### Every command -/

theorem dries_mains {effect : State → State} (h : runMains effect s = .next t) (dries : Dries s (effect s)) :
    Dries s t := by
  cases h
  split
  · exact dries
  · exact .rest rfl rfl

/-- An event of a running station, with the ALARM of its end. -/
theorem driesOrStarts_runEvent {effect : State → State} (h : runEvent effect s = .next t)
    (acts : DriesOrStarts s (effect s)) : DriesOrStarts s t := by
  by_cases run : s.phase = .running
  · rw [runEvent_running effect s run] at h
    cases h
    refine acts.untouched (untouched_queueAlarmIfChanged s (effect s)) ?_
    rw [queueAlarmIfChanged_frame]
  · rw [runEvent_stopped effect s run] at h
    cases h
    exact .inl (.rest rfl rfl)

theorem driesOrStarts_exec (c : Instr) (h : exec c s = .next t) : DriesOrStarts s t := by
  cases hc : startsOrEnds c with
  | false =>
    obtain ⟨effect, run, dries⟩ := exec_dries s c hc
    exact driesOrStarts_runEvent (run ▸ h) (.inl dries)
  | true =>
    cases c
    case powerOn own role => cases h; exact driesOrStarts_beginStart own role s
    case resetPin own role => cases h; exact driesOrStarts_beginStart own role s
    case configImageRead image attention check => exact driesOrStarts_configImageRead image attention check h
    case mainsContactSettled fail => exact .inl (dries_mains h (dries_mainsSettled s fail))
    case mainsClearDelayExpiry => exact .inl (dries_mains h (dries_mainsCleared s))
    case restart f =>
      exact driesOrStarts_runEvent (effect := receiveCommand codeRestart f fun _ => restartCommand) h
        (driesOrStarts_restart s f)
    all_goals cases hc

theorem guarded_exec (c : Instr) (h : exec c s = .next t) (guarded : DryingGuarded s) : DryingGuarded t := by
  obtain dries | ⟨starts, -⟩ := driesOrStarts_exec c h
  · exact (dries guarded).keeps
  · exact starts guarded

theorem dried_exec (c : Instr) (h : exec c s = .next t) (before : s.phase = .running) (after : t.phase = .running)
    (guarded : DryingGuarded s) : Dried s t := by
  obtain dries | ⟨-, ends⟩ := driesOrStarts_exec c h
  · exact dries guarded
  · exact absurd after (ends before)

end

/-- The two outcomes of a grant evaluation on a record `a`, the peers and the bay values of `t` and the configured
values of `s`. -/
theorem grantOn_of_cfg {s t : State} (request : Bool) (a : Allotter) (cfg : t.cfg = s.cfg) :
    grantOn request { t with allot := a } =
      if request = true ∧ a.minOff = none ∧ runningCount t + rank t < s.cfg.cap then
        { running := true, minOff := none, minRun := if s.cfg.minRunTime = 0 then none else some s.cfg.minRunTime,
          request := true, forced := false }
      else { a with request := request, forced := false } := by
  rw [grantOn_eq, ← cfg]
  rfl

/-- Settles O8: a second leaves the record and the conditions, and every command does what `Dried` says, or begins a
start or a RESTART, which leave the allotter forced off. -/
theorem forcedOffAllotterNeverRuns : Obligations.ForcedOffAllotterNeverRuns := by
  unfold Obligations.ForcedOffAllotterNeverRuns
  refine ⟨fun s t guarded h => ?_, fun c s t h before after guarded => (dried_exec c h before after guarded).begins,
    fun c s t h before after guarded forced free b hb => ?_⟩
  · unfold step at h
    split at h
    · cases h
      exact guarded
    · next c rest _ => exact guarded_exec (s := { s with pending := rest }) c h guarded
  · obtain ⟨cfg, ended⟩ := (dried_exec c h before after guarded).ends forced free
    rw [ended b hb, grantOn_of_cfg _ s.allot cfg]
    by_cases set : s.cfg.rhTarget + s.cfg.bandUp ≤ b.rh
    · simp [set]
    · simp [set]

end Sys2Proof.Machine
end

section
/-! ## The dehumidifier at samples and peer updates (O58) -/

namespace Sys2Proof.Machine

theorem rank_congr {s t : State} (own : t.own = s.own) (cfg : t.cfg = s.cfg) (bay : t.climate.bay = s.climate.bay)
    (peers : t.line.peers = s.line.peers) : rank t = rank s := by
  simp only [rank, ownNumber, excess, own, cfg, bay, peers]

/-! ### At a sample (R67, R68) -/

theorem judgedRequest_of_bay (s : State) {b : Bay} (h : b ∈ s.climate.bay) :
    judgedRequest s =
      if s.cfg.rhTarget + s.cfg.bandUp ≤ b.rh then true
      else if b.rh ≤ s.cfg.rhTarget - s.cfg.bandDown then false else s.allot.request := by
  rw [judgedRequest, Option.mem_def.1 h]
  rfl

/-- From the state `v` in which the allotter has its notice of a sample to the state `t` after the event no more happens
to it. -/
theorem sampled_outcome {s v t : State} (cfg : v.cfg = s.cfg) (allot : v.allot = s.allot)
    (peers : v.line.peers = s.line.peers) (queued : v.line.stateQueued = s.line.stateQueued) (guarded : DryingGuarded s)
    (tail : Untouched (allotSampleTaken v) t) :
    t.allot.forced = forcedCondition t ∧
    (t.allot.forced = true → t.allot = if s.allot.forced = true then s.allot else forcedOff s) ∧
    (t.allot.forced = false → ∀ b ∈ t.climate.bay,
      t.allot.request =
        (if s.cfg.rhTarget + s.cfg.bandUp ≤ b.rh then true
         else if b.rh ≤ s.cfg.rhTarget - s.cfg.bandDown then false else s.allot.request && !s.allot.forced) ∧
      t.allot =
        (if s.allot.running = true then
          (if t.allot.request = false ∧ s.allot.minRun = none then
            { running := false, minRun := none, minOff := if s.cfg.minOffTime = 0 then none else some s.cfg.minOffTime,
              request := false, forced := false }
           else { s.allot with request := t.allot.request, forced := false })
         else if t.allot.request = true ∧ s.allot.minOff = none ∧ runningCount s + rank t < s.cfg.cap then
          { running := true, minOff := none, minRun := if s.cfg.minRunTime = 0 then none else some s.cfg.minRunTime,
            request := true, forced := false }
         else { s.allot with request := t.allot.request, forced := false })) ∧
    t.line.stateQueued = (s.line.stateQueued || t.allot.running != s.allot.running) := by
  obtain ⟨-, off⟩ := guarded
  rw [allotSampleTaken_eq v (by rwa [allot])] at tail
  have judged : t.allot = sampledAllot v := tail.allot
  have condition : forcedCondition t = forcedCondition v := tail.condition
  have bay : t.climate.bay = v.climate.bay := tail.bay
  have forced : t.allot.forced = forcedCondition v := judged ▸ sampledAllot_forced v
  refine ⟨forced.trans condition.symm, fun on => ?_, fun free b hb => ?_, ?_⟩
  · have off : forcedOff v = forcedOff s := by rw [forcedOff, forcedOff, allot, cfg]
    rw [judged, sampledAllot, if_pos (forced.symm.trans on), allot, off]
  · have kept : (s.allot.request && !s.allot.forced) = s.allot.request := by
      cases before : s.allot.forced with
      | true => simp [(off before).2]
      | false => simp
    have counts : runningCount s + rank t = runningCount v + rank v := by
      rw [runningCount, runningCount, peers, rank_congr tail.own tail.cfg tail.bay tail.peers]
      rfl
    have request := judgedRequest_of_bay v (bay ▸ hb)
    have free : ¬ forcedCondition v = true := by simp [← forced, free]
    rw [kept, counts, judged, sampledAllot, if_neg free, ← cfg, ← allot]
    split
    · rw [stopOn_request]
      exact ⟨request, stopOn_eq ..⟩
    · rw [grantOn_request]
      exact ⟨request, grantOn_eq ..⟩
  · rw [tail.queued, judged, allotted_stateQueued, queued, allot]

/-! ### At a peer update (R72) -/

section
variable (before after : Peer) (s : State)

theorem roomSide_peerEffect : roomSide (peerEffect before after s) = roomSide s := by
  unfold peerEffect
  repeat' split
  all_goals simp

theorem endTest_line : (endTest s).line = s.line := by
  have cleared : (clearedByTestEnd s).line = (reverifyAll (testLatched s) (clearLatches (testLatched s) s)).line := rfl
  rw [endTest_eq, evaluateFire_line, moveFire_line, cleared, reverifyAll_line, clearLatches_frame]

theorem peerEffect_line : (peerEffect before after s).line = s.line := by
  unfold peerEffect samePeerUpdate
  repeat' split
  · exact endTest_line s
  · rfl
  · rw [evaluateFire_line, line_of_beyondMove (beyondMove_enterDischarged s)]
  · rw [evaluateFire_line, line_of_beyondMove (beyondMove_adopt _ s)]
  · exact evaluateFire_line s

end

/-- A grant evaluation after which no more happens to the allotter. -/
theorem granted_outcome {s v t : State} (cfg : v.cfg = s.cfg) (allot : v.allot = s.allot)
    (queued : v.line.stateQueued = s.line.stateQueued) (tail : Untouched (evaluateGrant v) t) :
    t.allot =
      (if s.allot.running = false ∧ s.allot.forced = false ∧ s.allot.request = true ∧ s.allot.minOff = none ∧
          runningCount t + rank t < s.cfg.cap then
        { s.allot with
          running := true, minOff := none, minRun := if s.cfg.minRunTime = 0 then none else some s.cfg.minRunTime }
       else s.allot) ∧
    t.line.stateQueued = (s.line.stateQueued || t.allot.running != s.allot.running) := by
  have counts : runningCount t + rank t = runningCount v + rank v := by
    rw [tail.counts, evaluateGrant_eq]
    rfl
  refine ⟨?_, ?_⟩
  · rw [tail.allot, evaluateGrant_allot, allot, cfg, counts]
  · rw [tail.queued, tail.allot, evaluateGrant_eq, allotted_stateQueued, allotted_allot, queued, allot]

/-- A peer update that leaves the fire state gives the allotter its grant evaluation alone. -/
theorem allot_afterUpdate (f : Frame) (k : UpdateKind) (after : Peer) (s : State)
    (h : (afterUpdate f k after s).fire.state = s.fire.state) :
    (afterUpdate f k after s).allot =
      (if s.allot.running = false ∧ s.allot.forced = false ∧ s.allot.request = true ∧ s.allot.minOff = none ∧
          runningCount (afterUpdate f k after s) + rank (afterUpdate f k after s) < s.cfg.cap then
        { s.allot with
          running := true, minOff := none, minRun := if s.cfg.minRunTime = 0 then none else some s.cfg.minRunTime }
       else s.allot) ∧
    (afterUpdate f k after s).line.stateQueued =
      (s.line.stateQueued || (afterUpdate f k after s).allot.running != s.allot.running) := by
  have state := (ends_afterUpdate f k after s).state.symm.trans h
  have room := roomSide_peerEffect (heardEntry f s) after (updated f after s)
  have line := peerEffect_line (heardEntry f s) after (updated f after s)
  have settled := untouched_settleFire _ s.fire state
  refine granted_outcome (settled.cfg.trans (cfg_of_roomSide room)) (settled.allot.trans (allot_of_roomSide room)) ?_
    ((untouched_reofferChecks _ f.src.toNat k after).trans (untouched_queueAlarmIfChanged s _))
  rw [settled.queued, line]
  rfl

/-- Settles O58: the sample's notice in the state the sample has made, and the grant evaluation of a peer update. -/
theorem samplesAndPeerUpdatesMoveTheDehumidifier : Obligations.SamplesAndPeerUpdatesMoveTheDehumidifier := by
  unfold Obligations.SamplesAndPeerUpdatesMoveTheDehumidifier
  refine ⟨fun s c q run conv seq last guarded => ⟨_, exec_probeConversionEnd_last s run conv seq last, ?_⟩,
    fun s f accepted _ => ⟨_, exec_stateFrame_accepted accepted, allot_afterUpdate f .state _ s⟩,
    fun s f accepted _ => ⟨_, exec_alarmFrame_accepted accepted, allot_afterUpdate f .alarm _ s⟩⟩
  obtain ⟨cfg, -, allot, peers, queued⟩ := sampleMade_keeps { s with sup := { s.sup with seq := none } }
    (probeValue s.cfg.averaging (q.add c).rhA (q.add c).tA) (probeValue s.cfg.averaging (q.add c).rhB (q.add c).tB)
  exact sampled_outcome cfg allot peers queued guarded ((untouched_afterSequence _).trans (untouched_beginNext _))

end Sys2Proof.Machine
end

section
/-! ## The slot table: what a write keeps of its soundness

`TableKept` says of two states that the second has a sound slot table where the first has one (R79, R81, R83). -/

namespace Sys2Proof.Machine

/-- The second state's slot table is sound where the first's is. -/
def TableKept (s t : State) : Prop := SlotTableSound s → SlotTableSound t

/-- Whether two slots have no tag in common (R83). -/
def Slot.TagApart (a b : Slot) : Prop := ∀ x, a.tag = some x → ∀ y, b.tag = some y → x ≠ y

/-- A slot changed on its own: its number stays, its presence goes with its state still, and it takes no tag. -/
structure SlotKept (sl sl' : Slot) : Prop where
  number : sl'.number = sl.number
  presence : sl.present = sl.state.presence → sl'.present = sl'.state.presence
  tag : ∀ x, sl'.tag = some x → sl.tag = some x

theorem SlotKept.refl (sl : Slot) : SlotKept sl sl := ⟨rfl, id, fun _ => id⟩

section
variable {s t u : State}

theorem TableKept.refl (s : State) : TableKept s s := id

theorem TableKept.trans (h : TableKept s t) (k : TableKept t u) : TableKept s u := k ∘ h

/-- The slots are all that the soundness speaks of. -/
theorem TableKept.of_slots (h : t.scanner.slots = s.scanner.slots) : TableKept s t := fun sound => by
  unfold SlotTableSound PresenceMatches SlotTagsDistinct at *
  rwa [h]

theorem TableKept.of_scanner (h : t.scanner = s.scanner) : TableKept s t := .of_slots (by rw [h])

/-- What leaves the slots before an operation, and after it. -/
theorem TableKept.after (h : t.scanner = s.scanner) (k : TableKept t u) : TableKept s u := (TableKept.of_scanner h).trans k

theorem TableKept.before (k : TableKept s t) (h : u.scanner = t.scanner) : TableKept s u := k.trans (.of_scanner h)

theorem foldl_tableKept {α : Type} (f : State → α → State) (h : ∀ s a, TableKept s (f s a)) (l : List α) :
    ∀ s : State, TableKept s (l.foldl f s) := by
  induction l with
  | nil => exact .refl
  | cons a l ih => exact fun s => (h s a).trans (ih (f s a))

theorem slotTagsDistinct_iff (s : State) : SlotTagsDistinct s ↔ s.scanner.slots.Pairwise Slot.TagApart :=
  List.pairwise_filterMap

end

section
variable {s t : State} {f : Slot → Slot}

/-- A change of every slot: the numbers stay, presence goes with the state, and tags that were apart are apart. -/
theorem tableKept_map (slots : t.scanner.slots = s.scanner.slots.map f) (number : ∀ sl, (f sl).number = sl.number)
    (presence : SlotTableSound s → ∀ sl ∈ s.scanner.slots, (f sl).present = (f sl).state.presence)
    (tags : ∀ a b, a.number ≠ b.number → a.TagApart b → (f a).TagApart (f b)) : TableKept s t := by
  intro sound
  have ⟨numbers, _, apart⟩ := sound
  rw [slotTagsDistinct_iff] at apart
  refine ⟨?_, ?_, ?_⟩
  · rw [slots, List.map_map]
    exact (List.map_congr_left fun sl _ => number sl) ▸ numbers
  · rw [PresenceMatches, slots]
    exact List.forall_mem_map.2 (presence sound)
  · rw [slotTagsDistinct_iff, slots, List.pairwise_map]
    exact (List.pairwise_map.1 numbers).imp₂ tags apart

/-- A change of every slot on its own. -/
theorem tableKept_mapSlots (slots : t.scanner.slots = s.scanner.slots.map f) (each : ∀ sl, SlotKept sl (f sl)) :
    TableKept s t :=
  tableKept_map slots (fun sl => (each sl).number) (fun sound sl hs => (each sl).presence (sound.2.1 sl hs))
    fun a b _ apart x hx y hy => apart x ((each a).tag x hx) y ((each b).tag y hy)

/-- Where the numbers are distinct, the search for a slot's number finds the slot. -/
theorem findSlot_of_mem (numbers : (s.scanner.slots.map fun sl => sl.number).Nodup) {sl : Slot}
    (hs : sl ∈ s.scanner.slots) : findSlot sl.number s = some sl := by
  have found : (s.scanner.slots.find? fun o => o.number == sl.number).isSome :=
    List.find?_isSome.2 ⟨sl, hs, beq_self_eq_true sl.number⟩
  obtain ⟨x, hx⟩ := Option.isSome_iff_exists.1 found
  have same : x.number = sl.number := by simpa using List.find?_some hx
  exact hx.trans (congrArg some (List.inj_on_of_nodup_map numbers (List.mem_of_find?_eq_some hx) hs same))

theorem number_of_findSlot {n : Nat} {sl : Slot} (h : findSlot n s = some sl) : sl.number = n := by
  simpa using List.find?_some h

theorem mem_of_findSlot {n : Nat} {sl : Slot} (h : findSlot n s = some sl) : sl ∈ s.scanner.slots :=
  List.mem_of_find?_eq_some h

/-- The slot of one number changed: the presence of the slot that the number finds is all that counts. -/
theorem tableKept_updateSlot {n : Nat} (number : ∀ sl, (f sl).number = sl.number)
    (tag : ∀ sl x, (f sl).tag = some x → sl.tag = some x)
    (presence : ∀ sl, findSlot n s = some sl → sl.present = sl.state.presence → (f sl).present = (f sl).state.presence) :
    TableKept s (updateSlot n f s) := by
  have tags (sl : Slot) (x : Tag) (h : (if sl.number = n then f sl else sl).tag = some x) : sl.tag = some x := by
    split at h
    · exact tag sl x h
    · exact h
  refine tableKept_map rfl (fun sl => by split <;> simp [number]) (fun sound sl hs => ?_)
    fun a b _ apart x hx y hy => apart x (tags a x hx) y (tags b y hy)
  split
  case isTrue hn => exact presence sl (hn ▸ findSlot_of_mem sound.1 hs) (sound.2.1 sl hs)
  case isFalse => exact sound.2.1 sl hs

theorem loseTag_presence (sl : Slot) : (loseTag sl).state.presence = sl.state.presence := by
  unfold loseTag
  split
  case isTrue h => simp [h, SlotState.presence]
  case isFalse => rfl

theorem loseTag_tag (sl : Slot) : (loseTag sl).tag = none := by unfold loseTag; split <;> rfl

/-- A tag given to a slot leaves every other (R83). -/
theorem tableKept_giveTag (n : Nat) (x : Tag) : TableKept s (giveTag n x s) := by
  refine tableKept_map rfl (fun sl => ?_) (fun sound sl hs => ?_) fun a b hn apart u hu v hv => ?_
  · unfold loseTag
    repeat' split
    all_goals rfl
  · have matched := sound.2.1 sl hs
    repeat' split
    · exact matched
    · rw [loseTag_presence, ← matched]
      unfold loseTag
      split <;> rfl
    · exact matched
  · have lost (o : Slot) (w : Tag) (h : (if o.tag = some x then loseTag o else o).tag = some w) : o.tag = some w ∧ w ≠ x := by
      split at h
      · simp [loseTag_tag] at h
      case isFalse other => exact ⟨h, fun e => other (e ▸ h)⟩
    split at hu <;> split at hv
    case isTrue.isTrue ha hb => exact absurd (ha.trans hb.symm) hn
    case isTrue.isFalse =>
      rw [← ((optTag_eq_some x u).1 hu).1]
      exact (lost b v hv).2.symm
    case isFalse.isTrue =>
      rw [← ((optTag_eq_some x v).1 hv).1]
      exact (lost a u hu).2
    case isFalse.isFalse => exact apart u (lost a u hu).1 v (lost b v hv).1

end

end Sys2Proof.Machine
end

section
/-! ## The slot table after events at the holds, the fire controller, the inputs and the climate unit -/

namespace Sys2Proof.Machine

variable (s : State)

/-! ### Holds (R158, R160, R161) -/

/-- The presence that goes with the state stays where the state's does. -/
theorem slotKept_of_presence {sl sl' : Slot} (number : sl'.number = sl.number) (present : sl'.present = sl.present)
    (presence : sl'.state.presence = sl.state.presence) (tag : sl'.tag = sl.tag) : SlotKept sl sl' :=
  ⟨number, fun h => present.trans (h.trans presence.symm), fun _ h => tag ▸ h⟩

theorem slotKept_countSlotDown (sl : Slot) : SlotKept sl (countSlotDown sl) := by
  unfold countSlotDown
  repeat' split
  case isTrue.isTrue held _ => exact slotKept_of_presence rfl rfl (by simp [held, SlotState.presence]) rfl
  case isTrue.isFalse => exact slotKept_of_presence rfl rfl rfl rfl
  case isFalse => exact .refl sl

theorem countHoldsDown_slots : (countHoldsDown s).scanner.slots = s.scanner.slots.map countSlotDown := by
  simp [countHoldsDown, queueReports_scanner]

theorem tableKept_countHoldsDown : TableKept s (countHoldsDown s) :=
  tableKept_mapSlots (countHoldsDown_slots s) slotKept_countSlotDown

theorem tableKept_minuteOver : TableKept s (minuteOver s) := by
  unfold minuteOver
  split
  · exact .of_scanner rfl
  · exact tableKept_countHoldsDown s

theorem tableKept_judgePause : TableKept s (judgePause s) := by
  by_cases ends : s.hold.paused = true ∧ pauseCondition s = false ∧ s.hold.seconds = 0
  · exact tableKept_mapSlots (by rw [judgePause_scanner, if_pos ends]) slotKept_countSlotDown
  · exact .of_scanner (by rw [judgePause_scanner, if_neg ends])

theorem slotKept_holdAfterFire (n : Nat) (sl : Slot) : SlotKept sl (holdAfterFire n sl) := by
  have seated (h : sl.state = .occupied ∨ sl.state = .hold) : sl.state.presence = true := by
    rcases h with h | h <;> simp [h, SlotState.presence]
  unfold holdAfterFire
  repeat' split
  case isTrue.isTrue h _ => exact slotKept_of_presence rfl rfl (seated h).symm rfl
  case isTrue.isFalse h _ => exact slotKept_of_presence rfl rfl (seated h).symm rfl
  case isFalse => exact .refl sl

theorem tableKept_applyPostFireHolds : TableKept s (applyPostFireHolds s) :=
  tableKept_mapSlots rfl (slotKept_holdAfterFire _)

/-! ### Events at the fire controller -/

theorem tableKept_settleFire (before : FireRecord) : TableKept s (settleFire before s) := by
  by_cases ends : s.fire.state ≠ before.state ∧ s.hold.paused = true ∧ pauseCondition s = false ∧ s.hold.seconds = 0
  · exact tableKept_mapSlots (by rw [settleFire_scanner, if_pos ends]) slotKept_countSlotDown
  · exact .of_scanner (by rw [settleFire_scanner, if_neg ends])

/-- An event at the fire controller whose effect leaves the scanner. -/
theorem tableKept_fireEvent {s : State} {effect : State → State} (h : (effect s).scanner = s.scanner) :
    TableKept s (fireEvent effect s) :=
  .after h (tableKept_settleFire _ _)

@[simp] theorem enterDischarged_scanner : (enterDischarged s).scanner = s.scanner :=
  scanner_of_beyondMove (beyondMove_enterDischarged s)

@[simp] theorem clearLatches_scanner (is : List InputNo) : (clearLatches is s).scanner = s.scanner := by
  rw [clearLatches_frame]

@[simp] theorem endTest_scanner : (endTest s).scanner = s.scanner := by simp [endTest_eq, clearedByTestEnd]

@[simp] theorem samePeerUpdate_scanner (before : Option PeerFire) (now : PeerFire) :
    (samePeerUpdate before now s).scanner = s.scanner := by
  unfold samePeerUpdate
  split
  · simp
  · exact scanner_of_beyondMove (beyondMove_adopt now s)

@[simp] theorem setIsolation_scanner (b : Bool) : (setIsolation b s).scanner = s.scanner := by
  rw [setIsolation_frame]

@[simp] theorem isolateState_scanner : (isolateState s).scanner = s.scanner := by
  unfold isolateState; split <;> rfl

@[simp] theorem refuseCommand_scanner (code : Byte) (n : Nat) (t : Tag) :
    (refuseCommand code n t s).scanner = s.scanner := queueReport_scanner _ _

@[simp] theorem evaluateGrant_scanner : (evaluateGrant s).scanner = s.scanner := by rw [evaluateGrant_frame]

@[simp] theorem reevaluateForced_scanner : (reevaluateForced s).scanner = s.scanner := by rw [reevaluateForced_frame]

theorem tableKept_acceptReset : TableKept s (acceptReset s) := by
  unfold acceptReset
  dsimp only
  refine .before ?_ (evaluateFire_scanner _)
  have cleared : (reverifyAll allInputs (clearForReset s)).scanner = s.scanner := reverifyAll_scanner _ _
  have closed : (if s.fire.state.raised then closeEpisode (reverifyAll allInputs (clearForReset s))
      else reverifyAll allInputs (clearForReset s)).scanner = s.scanner := by split <;> exact cleared
  refine .before ?_ (moveFire_scanner _ _)
  split
  · exact .after closed (tableKept_applyPostFireHolds _)
  · exact .of_scanner closed

theorem tableKept_fireReset : TableKept s (fireReset s) := by
  unfold fireReset
  split
  · exact (tableKept_acceptReset s).trans (tableKept_settleFire _ _)
  · exact .of_scanner (by simp)

theorem tableKept_silenceCommand : TableKept s (silenceCommand s) :=
  .of_scanner (by unfold silenceCommand; split <;> simp)

theorem tableKept_testStart : TableKept s (testStart s) := by
  unfold testStart
  split
  · exact tableKept_fireEvent rfl
  · exact .of_scanner (by simp)

theorem tableKept_testEnd : TableKept s (testEnd s) := by
  unfold testEnd
  split
  · exact tableKept_fireEvent (by simp)
  · exact .of_scanner (by simp)

theorem tableKept_testTimerOver : TableKept s (testTimerOver s) := by
  unfold testTimerOver
  split
  · exact tableKept_fireEvent (by simp)
  · exact .refl _

theorem tableKept_isolateOn : TableKept s (isolateOn s) := by
  unfold isolateOn
  split
  · exact .refl _
  · exact tableKept_fireEvent (by simp)

theorem tableKept_isolateOff : TableKept s (isolateOff s) := by
  unfold isolateOff
  split
  · exact tableKept_fireEvent (by simp)
  · exact .refl _

theorem tableKept_stabilizationOver : TableKept s (stabilizationOver s) := by
  unfold stabilizationOver
  split
  · exact tableKept_fireEvent (by simp)
  · exact .refl _

theorem tableKept_countdownOver : TableKept s (countdownOver s) := by
  unfold countdownOver
  repeat' split
  case h_1.isTrue => exact tableKept_fireEvent (by simp)
  all_goals exact .of_scanner rfl

theorem tableKept_testLatchOver (i : InputNo) : TableKept s (testLatchOver i s) :=
  .of_scanner (by unfold testLatchOver; split <;> rfl)

theorem tableKept_cadenceOver : TableKept s (cadenceOver s) :=
  .of_scanner (by unfold cadenceOver; split <;> rfl)

/-! ### Inputs -/

theorem tableKept_alarmVerified (i : InputNo) : TableKept s (alarmVerified i s) :=
  tableKept_fireEvent (by split <;> simp)

theorem tableKept_abortOn (i : InputNo) : TableKept s (abortOn i s) :=
  tableKept_fireEvent (by dsimp only; rw [evaluateFire_scanner]; split <;> simp)

theorem tableKept_abortOff (i : InputNo) : TableKept s (abortOff i s) := tableKept_fireEvent (by simp)

theorem tableKept_verified (i : InputNo) : TableKept s (verified i s) := by
  unfold verified
  dsimp only
  split
  · exact .after (by simp) (tableKept_abortOn _ i)
  · exact .after (by simp) (tableKept_alarmVerified _ i)

theorem tableKept_judgeSettled (i : InputNo) (c : Code) : TableKept s (judgeSettled i c s) := by
  unfold judgeSettled settleBand
  dsimp only
  repeat' split
  case isFalse.isFalse.isTrue.isTrue => exact .after (by simp) (tableKept_abortOff _ i)
  all_goals exact .of_scanner (by simp)

theorem tableKept_judgeCode (i : InputNo) (c : Code) : TableKept s (judgeCode i c s) := by
  have ended : TableKept s (unverified i c s) := by
    unfold unverified
    dsimp only
    exact .after (by split <;> simp) (tableKept_judgeSettled _ i c)
  unfold judgeCode continueVerification
  repeat' split
  · exact .refl _
  · exact .of_scanner (by simp)
  · exact tableKept_verified s i
  · exact ended
  · exact tableKept_judgeSettled s i c

theorem tableKept_inputConverted (c : Code) : TableKept s (inputConverted c s) := by
  unfold inputConverted
  split
  · exact (tableKept_judgeCode s _ c).before (continueScan_scanner _ _)
  · exact .refl _

theorem tableKept_verifyOver (i : InputNo) : TableKept s (verifyOver i s) := by
  unfold verifyOver
  split
  · exact tableKept_verified s i
  · exact .refl _

/-! ### The climate unit, the converter and the allotter -/

@[simp] theorem wakeArbiter_scanner : (wakeArbiter s).scanner = s.scanner := by rw [wakeArbiter_eq]
@[simp] theorem beginNext_scanner : (beginNext s).scanner = s.scanner := by rw [beginNext_eq]

@[simp] theorem releaseCheck_scanner (c : CircuitCheck) : (releaseCheck c s).scanner = s.scanner := by
  rw [(oneTrouble_releaseCheck s c).frame, counted_frame]

theorem tableKept_scanTimerOver (c : CircuitCheck) : TableKept s (scanTimerOver c s) :=
  .of_scanner (by simp [scanTimerOver])

theorem tableKept_climateTimerOver : TableKept s (climateTimerOver s) := by
  unfold climateTimerOver requestSequence
  repeat' split
  all_goals exact .of_scanner (by simp)

theorem tableKept_takeSample (a b : Option Bay) : TableKept s (takeSample a b s) := by
  have recorded : (sampleRecorded a b s).scanner = s.scanner := by
    rw [sampleRecorded, sampleHistory_frame, sampleExcursion_frame, sampleCombined_frame]
  have made : TableKept s (sampleMade a b s) := .after recorded (tableKept_judgePause (sampleEpisode (sampleRecorded a b s)))
  rw [takeSample_eq_allotSampleTaken, allotSampleTaken_frame]
  exact made.before rfl

theorem tableKept_probeConverted (c : Code) : TableKept s (probeConverted c s) := by
  have ended (u : State) : (afterSequence u).scanner = u.scanner := by rw [(oneTrouble_afterSequence u).frame]
  unfold probeConverted addProbeCode takeResult
  split
  · refine .before ?_ (beginNext_scanner _)
    dsimp only
    split
    · exact .before (.after rfl (tableKept_takeSample { s with sup := { s.sup with seq := none } } _ _)) (ended _)
    · exact .of_scanner rfl
  · exact .refl _

theorem tableKept_climateHoldOver : TableKept s (climateHoldOver s) := by
  unfold climateHoldOver
  split
  · exact .after (by simp) (tableKept_judgePause _)
  · exact .refl _

theorem tableKept_excursionDelayOver : TableKept s (excursionDelayOver s) := by
  unfold excursionDelayOver
  split
  · exact .after (by simp) (tableKept_judgePause _)
  · exact .refl _

theorem tableKept_minRunExpired : TableKept s (minRunExpired s) := by
  unfold minRunExpired stopDehumidifier
  dsimp only
  repeat' split
  all_goals exact .of_scanner rfl

theorem tableKept_minOffExpired : TableKept s (minOffExpired s) := by
  unfold minOffExpired
  split
  all_goals exact .of_scanner (by simp)

/-! ### Peers and the line (R139, R170, R171, R174 to R176) -/

theorem tableKept_firePeerUpdate (before after : Peer) : TableKept s (firePeerUpdate before after s) := by
  refine tableKept_fireEvent ?_
  repeat' split
  all_goals simp

theorem tableKept_peerUpdate (n : Nat) (k : UpdateKind) (after : Peer) : TableKept s (peerUpdate n k after s) :=
  .after (setPeer_scanner s n after)
    ((tableKept_firePeerUpdate _ (peerOf n s) after).before (evaluateGrant_scanner (firePeerUpdate _ after (setPeer n after s))))

theorem tableKept_staleNotice : TableKept s (staleNotice s) :=
  (tableKept_fireEvent (evaluateFire_scanner s)).before (evaluateGrant_scanner _)

theorem tableKept_statusOver : TableKept s (statusOver s) := by
  have aged (u : State) : TableKept u (raiseAges u) :=
    .after (withLine_scanner u { u.line with peers := u.line.peers.map Peer.grow })
      (foldl_tableKept _ (fun v _ => tableKept_staleNotice v) _ _)
  unfold statusOver
  exact .after (t := queueState (withLine { s.line with statusTimer := some s.cfg.statusInterval } s)) rfl
    ((aged _).before (by rw [closeWindow_frame]))

theorem tableKept_lineRecovered : TableKept s (lineRecovered s) := by
  unfold lineRecovered
  split
  · exact .after (by simp) (tableKept_staleNotice _)
  · exact .refl _

@[simp] theorem countDiscard_scanner : (countDiscard s).scanner = s.scanner := by
  unfold countDiscard; dsimp only; split <;> simp

@[simp] theorem failReadback_scanner : (failReadback s).scanner = s.scanner := by
  unfold failReadback countMismatch
  dsimp only
  repeat' split
  all_goals simp

theorem tableKept_frameGap : TableKept s (frameGap s) :=
  .of_scanner (by unfold frameGap; split <;> simp)

theorem tableKept_lineStuck (b : Bool) : TableKept s (lineStuck b s) :=
  .of_scanner (by unfold lineStuck; dsimp only; rw [failReadback_scanner]; split <;> simp)

theorem tableKept_conflictOver : TableKept s (conflictOver s) :=
  .of_scanner (by unfold conflictOver; split <;> simp)

theorem tableKept_takeQuery (n : Nat) (p : List Byte) : TableKept s (takeQuery n p s) := by
  unfold takeQuery
  repeat' split
  all_goals exact .of_scanner rfl

theorem tableKept_frameSent : TableKept s (frameSent s) :=
  .of_scanner (by unfold frameSent; split <;> rfl)

theorem tableKept_transmitStart (n : Nat) : TableKept s (transmitStart n s) := by
  have taken (c : TxClass) : (takeClass c s).scanner = s.scanner := by
    unfold takeClass takeHandover takeAnswer takeReport takeOwed
    repeat' split
    all_goals rfl
  unfold transmitStart
  repeat' split
  case h_1.isTrue => exact .of_scanner (taken _)
  all_goals exact .refl _

/-! ### Contacts (R189) -/

theorem tableKept_doorSettled (b : Bool) : TableKept s (doorSettled b s) :=
  .of_scanner (by unfold doorSettled doorForced; dsimp only; split <;> simp)

theorem tableKept_mainsSettled (b : Bool) : TableKept s (mainsSettled b s) := by
  unfold mainsSettled mainsFailed mainsNormal
  repeat' split
  all_goals exact .of_scanner (by simp)

theorem tableKept_mainsCleared : TableKept s (mainsCleared s) :=
  .of_scanner (by unfold mainsCleared; split <;> simp)

end Sys2Proof.Machine
end

section
/-! ## The slot table after requests to the slot scanner, and after events at the consignment table and of handovers -/

namespace Sys2Proof.Machine

variable (s : State)

/-! ### Requests (R88, R89, R91, R92, R95) -/

/-- A pull or an await request that is taken. -/
theorem tableKept_slotRequest {d : Direction} {num : Nat} {e : Entry} {s v : State}
    (h : slotRequest d num e s = some v) : TableKept s v := by
  cases d with
  | outbound =>
    simp only [slotRequest, pullRequest] at h
    split at h
    case h_2 => nomatch h
    case h_1 sl found =>
      split at h
      case isFalse => nomatch h
      case isTrue allowed =>
        cases h
        have seated : sl.state = .occupied := by
          simp only [pullAllowed, Bool.and_eq_true, beq_iff_eq] at allowed
          exact allowed.1
        refine tableKept_updateSlot (fun _ => rfl) (fun _ _ => id) fun o ho matched => ?_
        cases found.symm.trans ho
        rw [seated] at matched
        exact matched
  | inbound =>
    simp only [slotRequest, awaitRequest] at h
    split at h
    case h_2 => nomatch h
    case h_1 sl found =>
      split at h
      case isFalse => nomatch h
      case isTrue allowed =>
        cases h
        have away : sl.state = .empty ∨ sl.state = .out := by
          simp only [awaitAllowed, Bool.and_eq_true, Bool.or_eq_true, beq_iff_eq] at allowed
          exact allowed.1.imp_right fun out => out.1.1
        refine tableKept_updateSlot (fun _ => rfl) (fun _ _ => id) fun o ho matched => ?_
        cases found.symm.trans ho
        rcases away with away | away <;> rw [away] at matched <;> exact matched

theorem tableKept_verifyRequest {n : Nat} {t : Tag} {s v : State} (h : verifyRequest n t s = some v) : TableKept s v := by
  unfold verifyRequest at h
  split at h
  case h_2 => nomatch h
  case h_1 sl found =>
    split at h
    case isFalse => nomatch h
    case isTrue pulled =>
      cases h
      have out : TableKept s (updateSlot n (fun sl => { sl with state := .out, window := none }) s) := by
        refine tableKept_updateSlot (fun _ => rfl) (fun _ _ => id) fun o ho matched => ?_
        cases found.symm.trans ho
        rw [pulled] at matched
        exact matched
      exact (out.trans (tableKept_giveTag n t)).before (queueReport_scanner _ _)

theorem tableKept_returnRequest {n : Nat} {t : Tag} {s v : State} (h : returnRequest n t s = some v) : TableKept s v := by
  unfold returnRequest at h
  split at h
  case h_2 => nomatch h
  case h_1 sl found =>
    split at h
    case isFalse => nomatch h
    case isTrue awaiting =>
      cases h
      have awaited : sl.state = .awaited := by
        simp only [awaits, Bool.and_eq_true, beq_iff_eq] at awaiting
        exact awaiting.1
      refine .trans ?_ (tableKept_giveTag n t)
      refine tableKept_updateSlot (fun _ => rfl) (fun _ _ => id) fun o ho matched => ?_
      cases found.symm.trans ho
      rw [awaited] at matched
      exact matched

theorem presence_afterAwaited (sl : Slot) : (afterAwaited sl).presence = false := by
  unfold afterAwaited; split <;> rfl

theorem slotKept_revertSlot (num : Nat) (sl : Slot) : SlotKept sl (revertSlot num sl) := by
  unfold revertSlot
  repeat' split
  case h_1 h => exact slotKept_of_presence rfl rfl (by simp [h, SlotState.presence]) rfl
  case h_2 h => exact slotKept_of_presence rfl rfl (by simp [h, SlotState.presence]) rfl
  case h_3 h => exact slotKept_of_presence rfl rfl ((presence_afterAwaited sl).trans (by rw [h]; rfl)) rfl
  case h_4 h => exact slotKept_of_presence rfl rfl (by simp [h, SlotState.presence]) rfl
  case h_5 => exact slotKept_of_presence rfl rfl rfl rfl
  case isFalse => exact .refl sl

theorem tableKept_revertRequest (num : Nat) : TableKept s (revertRequest num s) :=
  (tableKept_mapSlots (t := mapSlots (revertSlot num) s) rfl (slotKept_revertSlot num)).before (queueReports_scanner _ _)

/-! ### The consignment table -/

theorem tableKept_closeRecord (c : Consignment) (x : CloseCause) : TableKept s (closeRecord c x s) := by
  have reverted : TableKept s (if s.role = .bay then revertRequest c.number s else s) := by
    split
    · exact tableKept_revertRequest s _
    · exact .refl _
  unfold closeRecord
  dsimp only
  generalize (if s.role = .bay then revertRequest c.number s else s) = u at *
  exact reverted.before (queueReport_scanner _ _)

theorem tableKept_completionTest (num : Nat) : TableKept s (completionTest num s) := by
  unfold completionTest
  repeat' split
  · exact tableKept_closeRecord s _ _
  all_goals exact .refl _

theorem tableKept_notice (num : Nat) (p : Entry → Bool) (st : EntryState) : TableKept s (notice num p st s) := by
  unfold notice
  repeat' split
  · exact .after rfl (tableKept_completionTest (updateRecord num _ s) num)
  all_goals exact .refl _

theorem tableKept_noticeOf (num : Option Nat) (p : Entry → Bool) (st : EntryState) :
    TableKept s (noticeOf num p st s) := by
  unfold noticeOf
  split
  · exact tableKept_notice s _ p st
  · exact .refl _

theorem tableKept_receivedNotice (num : Option Nat) (t : Tag) : TableKept s (receivedNotice num t s) := by
  unfold receivedNotice
  repeat' split
  · exact tableKept_notice s _ _ _
  all_goals exact .refl _

/-- The number of an entry cleared, and the notice to the record that had it. -/
theorem tableKept_finalNotice (num : Option Nat) (t : Tag) (p : Entry → Bool) (st : EntryState) :
    TableKept s (noticeOf num p st (clearNumber t s)) :=
  .after (t := clearNumber t s) rfl (tableKept_noticeOf _ num p st)

theorem tableKept_takeConsign (p : List Byte) : TableKept s (takeConsign p s) := by
  unfold takeConsign
  dsimp only
  repeat' split
  all_goals exact .of_scanner (by simp)

theorem tableKept_validateEntry (d : Direction) (num k : Nat) (l : List Entry) (e : Entry) :
    TableKept s (validateEntry d num k l e s) := by
  have rejected (r : FailReason) : TableKept s (rejectEntry num k e r s) :=
    .of_scanner (queueReport_scanner _ _)
  unfold validateEntry
  repeat' split
  case h_1 h => exact (tableKept_slotRequest h).before rfl
  case isFalse.isFalse.isFalse.isFalse => exact .refl _
  all_goals exact rejected _

theorem tableKept_validateFrom (d : Direction) (num k : Nat) (l es : List Entry) :
    TableKept s (validateFrom d num k l es s) := by
  induction es generalizing k l s with
  | nil => exact .refl _
  | cons e es ih => exact (tableKept_validateEntry s d num k l e).trans (ih _ (k + 1) (l ++ [e]))

theorem tableKept_endOpening (num : Nat) : TableKept s (endOpening num s) := by
  unfold endOpening
  dsimp only
  split
  case h_1 c _ =>
    have validated : TableKept s (validateFrom c.direction num 0 [] c.entries
        (updateRecord num (fun c => { c with openingTimer := none }) s)) :=
      .after (updateRecord_scanner s num _) (tableKept_validateFrom _ c.direction num 0 [] c.entries)
    exact .trans (validated.before (updateRecord_scanner _ num _)) (tableKept_completionTest _ num)
  case h_2 => exact .refl _

theorem appendEntry_scanner (num : Nat) (e : Entry) : (appendEntry num e s).scanner = s.scanner := by
  unfold appendEntry
  repeat' split
  all_goals simp

theorem tableKept_takeEntries (num : Nat) (es : List Entry) : TableKept s (takeEntries num es s) := by
  induction es generalizing s with
  | nil => exact .refl _
  | cons e es ih =>
    unfold takeEntries
    dsimp only
    refine .after (appendEntry_scanner s num e) ?_
    split
    · exact tableKept_endOpening _ num
    · exact ih _

theorem tableKept_takeEntry (p : List Byte) : TableKept s (takeEntry p s) := by
  unfold takeEntry
  dsimp only
  repeat' split
  · exact tableKept_takeEntries s _ _
  all_goals exact .refl _

theorem tableKept_takeCancel (p : List Byte) : TableKept s (takeCancel p s) := by
  unfold takeCancel
  dsimp only
  repeat' split
  · exact .of_scanner (by simp)
  · exact tableKept_closeRecord s _ _
  · exact .refl _

theorem signOffEntry_scanner (num k : Nat) (e : Entry) : (signOffEntry num k e s).scanner = s.scanner := by
  unfold signOffEntry signOffActive markEntry clearNumber
  repeat' split
  all_goals simp

theorem signOffFrom_scanner (num k : Nat) (es : List Entry) : (signOffFrom num k es s).scanner = s.scanner := by
  induction es generalizing k s with
  | nil => rfl
  | cons e es ih => exact (ih _ (k + 1)).trans (signOffEntry_scanner s num k e)

theorem tableKept_signOffOutbound (c : Consignment) : TableKept s (signOffOutbound c s) := by
  unfold signOffOutbound
  dsimp only
  refine .after (signOffFrom_scanner (updateRecord c.number (fun c => { c with courierTimer := none }) s) c.number 0 c.entries) ?_
  split
  · exact tableKept_closeRecord _ _ _
  · exact .refl _

theorem tableKept_signOffInbound (c : Consignment) : TableKept s (signOffInbound c s) := by
  unfold signOffInbound
  dsimp only
  exact .trans (.of_scanner (by simp)) (tableKept_completionTest _ c.number)

theorem tableKept_openingOver (num : Nat) : TableKept s (openingOver num s) := by
  unfold openingOver
  repeat' split
  all_goals exact .of_scanner (by simp)

theorem tableKept_courierOver (num : Nat) : TableKept s (courierOver num s) := by
  unfold courierOver courierWindowOver
  dsimp only
  repeat' split
  case h_2 => exact .after (queueReport_scanner _ _) (tableKept_signOffInbound _ _)
  all_goals exact .of_scanner (by simp)

theorem tableKept_deadlineOver (num : Nat) : TableKept s (deadlineOver num s) := by
  unfold deadlineOver
  repeat' split
  · exact tableKept_closeRecord s _ _
  all_goals exact .refl _

/-! ### Handovers -/

theorem tableKept_takeOffer (n : Nat) (p : List Byte) : TableKept s (takeOffer n p s) := by
  unfold takeOffer
  split <;> exact .of_scanner rfl

theorem tableKept_disputeEntry (e : CustodyEntry) (x : DisputeCause) : TableKept s (disputeEntry e x s) := by
  unfold disputeEntry disputedNotice
  exact .trans (.of_scanner (by simp)) (tableKept_finalNotice _ e.consignment e.tag _ _)

theorem tableKept_confirmTaking (e : CustodyEntry) : TableKept s (confirmTaking e s) := by
  unfold confirmTaking
  dsimp only
  refine .after (t := settleOffers (updateCustody e.tag
    (fun _ => { e with state := .held, peer := none, timer := none, owed := none }) s)) rfl ?_
  repeat' split
  case h_1 h => exact tableKept_returnRequest h
  case h_2 => exact tableKept_disputeEntry _ _ _
  case isFalse => exact tableKept_receivedNotice _ _ _

theorem tableKept_takeCleared (n : Nat) (p : List Byte) : TableKept s (takeCleared n p s) := by
  unfold takeCleared
  repeat' split
  · exact tableKept_confirmTaking s _
  all_goals exact .refl _

theorem tableKept_takeLate (n : Nat) (p : List Byte) : TableKept s (takeLate n p s) := by
  unfold takeLate
  repeat' split
  · exact tableKept_disputeEntry s _ _
  all_goals exact .refl _

theorem tableKept_takeWithdraw (n : Nat) (p : List Byte) : TableKept s (takeWithdraw n p s) := by
  unfold takeWithdraw
  repeat' split
  · exact tableKept_disputeEntry s _ _
  all_goals exact .of_scanner rfl

theorem tableKept_takeTaken (n : Nat) (p : List Byte) : TableKept s (takeTaken n p s) := by
  have released (e : CustodyEntry) : TableKept s (releaseEntry e s) := by
    unfold releaseEntry releasedNotice
    exact .trans (.of_scanner (by simp)) (tableKept_noticeOf _ e.consignment (activeWith e.tag) .done)
  unfold takeTaken
  repeat' split
  case h_1 => exact released _
  case h_2 => exact released _
  all_goals exact .of_scanner rfl

theorem tableKept_takeRefuse (n : Nat) (p : List Byte) : TableKept s (takeRefuse n p s) := by
  have refused (e : CustodyEntry) (r : RefuseReason) : TableKept s (refuseEntry e r s) := by
    unfold refuseEntry refusedNotice
    dsimp only
    split
    · exact .trans (.of_scanner (by simp)) (tableKept_finalNotice _ e.consignment e.tag _ _)
    · exact .of_scanner (by simp)
  unfold takeRefuse
  repeat' split
  · exact refused _ _
  all_goals exact .refl _

theorem tableKept_handoverOver (t : Tag) : TableKept s (handoverOver t s) := by
  unfold handoverOver adriftNotice
  repeat' split
  · exact .trans (.of_scanner (by simp)) (tableKept_finalNotice _ _ t _ _)
  all_goals exact .refl _

theorem tableKept_lapseOver (t : Tag) : TableKept s (lapseOver t s) := by
  unfold lapseOver
  repeat' split
  all_goals exact .of_scanner (by simp)

theorem tableKept_confirmOver (t : Tag) : TableKept s (confirmOver t s) := by
  unfold confirmOver
  repeat' split
  case h_1.isTrue.isFalse => exact tableKept_disputeEntry s _ _
  all_goals exact .of_scanner rfl

theorem tableKept_resolveWith (args : List Byte) : TableKept s (resolveWith args s) := by
  have returned (t : Tag) (u : State) : TableKept u (returnKept t u) := by
    unfold returnKept
    repeat' split
    case h_1 sl _ =>
      cases h : returnRequest sl.number t u with
      | none => exact .refl _
      | some v => exact tableKept_returnRequest h
    all_goals exact .refl _
  unfold resolveWith
  dsimp only
  repeat' split
  case isTrue => exact .trans (.of_scanner (by simp)) (returned _ _)
  all_goals exact .of_scanner (by simp)

end Sys2Proof.Machine
end

section
/-! ## The slot table after events at the slots and the reader -/

namespace Sys2Proof.Machine

variable (s : State)

/-! ### Slot scan (R81, R84, R86, R90, R93, R97) -/

/-- Two writes of one slot are one. -/
theorem updateSlot_updateSlot (n : Nat) (f g : Slot → Slot) (number : ∀ sl, (f sl).number = sl.number) :
    updateSlot n g (updateSlot n f s) = updateSlot n (fun sl => g (f sl)) s := by
  unfold updateSlot mapSlots
  simp only [List.map_map]
  congr 2
  refine List.map_congr_left fun sl _ => ?_
  by_cases h : sl.number = n <;> simp [h, number]

/-- A slot whose sample was accepted: its settled presence changed, its candidate cleared (R81). -/
def Slot.settledAt (closed : Bool) (sl : Slot) : Slot := { sl with present := closed, candidate := false }

/-- The slot of a number moved to a state that goes with the presence it has settled at. -/
theorem tableKept_moved {s : State} {n : Nat} {closed : Bool} {g : Slot → Slot} (number : ∀ sl, (g sl).number = sl.number)
    (tag : ∀ sl x, (g sl).tag = some x → sl.tag = some x) (present : ∀ sl, (g sl).present = sl.present)
    (state : ∀ sl, findSlot n s = some sl → (g (sl.settledAt closed)).state.presence = closed) :
    TableKept s (updateSlot n g (updateSlot n (Slot.settledAt closed) s)) := by
  rw [updateSlot_updateSlot _ _ _ _ (by exact fun _ => rfl)]
  refine tableKept_updateSlot (fun sl => number _) (fun sl x h => tag (sl.settledAt closed) x h) fun sl found _ => ?_
  rw [present, state sl found]
  rfl

theorem tableKept_removal {s : State} {sl : Slot} (matched : sl.state.presence = true) :
    TableKept s (removal sl (updateSlot sl.number (Slot.settledAt false) s)) := by
  have cartridge : TableKept s (removeCartridge sl (updateSlot sl.number (Slot.settledAt false) s)) := by
    unfold removeCartridge
    split
    all_goals
      refine .before ?_ (queueReport_scanner _ _)
      exact tableKept_moved (fun _ => rfl) (fun _ _ => id) (fun _ => rfl) fun _ _ => rfl
  unfold removal
  split
  case h_1 => exact tableKept_moved (fun _ => rfl) (fun _ _ => id) (fun _ => rfl) fun _ _ => rfl
  case h_2 => exact cartridge
  case h_3 => exact cartridge
  case h_4 => exact cartridge
  case h_5 p _ =>
    exact tableKept_moved (fun _ => rfl) (fun _ _ => id) (fun _ => rfl) fun _ _ => by cases p <;> rfl
  case h_6 => cases h : sl.state <;> simp_all [SlotState.presence]

/-! ### Seating (R93) -/

/-- The reports of a seating (R93). -/
def seatingReports (sl : Slot) (hold : Nat) (quarantine : Bool) : List Report :=
  seatedReport sl hold quarantine :: if quarantine then [quarantinedReport sl] else []

/-- The state once a cartridge is seated, before its notice: the custody entry of its tag gone, the slot written, and its
reports queued (R93). -/
def cartridgeSeated (sl : Slot) (entry : Option CustodyEntry) (s : State) : State :=
  let hold := (entry.map fun e => e.hold).getD 0
  let quarantine := (entry.map fun e => e.quarantine).getD false
  queueReports (seatingReports sl hold quarantine)
    (seatSlot sl hold quarantine
      (match entry with
       | some e => removeCustody e.tag s
       | none => s))

theorem seat_eq (sl : Slot) :
    seat sl s =
      noticeOf sl.consignment (activeWith sl.reportTag) .done (cartridgeSeated sl (custodyOfSlot sl s) s) := by
  unfold seat cartridgeSeated seatingReports
  cases custodyOfSlot sl s with
  | none => cases sl.consignment <;> rfl
  | some e => cases sl.consignment <;> cases h : e.quarantine <;> simp only [Option.map_some, Option.getD_some, h] <;> rfl

theorem cartridgeSeated_scanner (sl : Slot) (entry : Option CustodyEntry) :
    (cartridgeSeated sl entry s).scanner =
      (seatSlot sl ((entry.map fun e => e.hold).getD 0) ((entry.map fun e => e.quarantine).getD false) s).scanner := by
  unfold cartridgeSeated
  rw [queueReports_scanner]
  cases entry <;> rfl

section
variable {s} {sl : Slot}

theorem tableKept_seat : TableKept s (seat sl (updateSlot sl.number (Slot.settledAt true) s)) := by
  rw [seat_eq]
  refine .trans (.before ?_ (cartridgeSeated_scanner ..)) (tableKept_noticeOf _ sl.consignment (activeWith sl.reportTag) .done)
  refine .trans ?_ (tableKept_giveTag sl.number sl.reportTag)
  refine tableKept_moved (fun _ => rfl) (fun _ _ => id) (fun _ => rfl) fun _ _ => ?_
  dsimp only
  unfold seatedState
  repeat' split
  all_goals rfl

theorem tableKept_presence (matched : sl.state.presence = false) :
    TableKept s (presence sl (updateSlot sl.number (Slot.settledAt true) s)) := by
  have stray (p : PriorState) : TableKept s (strayPresence p sl (updateSlot sl.number (Slot.settledAt true) s)) := by
    refine .before ?_ (queueReport_scanner _ _)
    exact tableKept_moved (fun _ => rfl) (fun _ _ => id) (fun _ => rfl) fun _ _ => rfl
  unfold presence returnEvacuee
  split
  case h_1 => exact tableKept_seat
  case h_2 => exact tableKept_moved (fun _ => rfl) (fun _ _ => nofun) (fun _ => rfl) fun _ _ => by split <;> rfl
  case h_3 => exact tableKept_moved (fun _ => rfl) (fun _ _ => id) (fun _ => rfl) fun _ _ => rfl
  case h_4 => exact stray _
  case h_5 => exact stray _
  case h_6 => exact stray _
  case h_7 => exact tableKept_moved (fun _ => rfl) (fun _ _ => nofun) (fun _ => rfl) fun _ _ => rfl
  case h_8 => cases h : sl.state <;> simp_all [SlotState.presence]

end

theorem tableKept_sampleSlot (n : Nat) (closed : Bool) : TableKept s (sampleSlot n closed s) := by
  have marked (b : Bool) : TableKept s (updateSlot n (fun sl => { sl with candidate := b }) s) :=
    tableKept_updateSlot (fun _ => rfl) (fun _ _ => id) fun _ _ => id
  unfold sampleSlot
  split
  case h_2 => exact .refl _
  case h_1 sl found =>
    obtain rfl := number_of_findSlot found
    repeat' split
    · exact marked false
    · exact marked true
    case isTrue differs _ closing =>
      subst closing
      intro sound
      have matched := sound.2.1 sl (mem_of_findSlot found)
      exact tableKept_presence (by cases h : sl.present <;> simp_all) sound
    case isFalse differs _ opening =>
      obtain rfl : closed = false := by simpa using opening
      intro sound
      have matched := sound.2.1 sl (mem_of_findSlot found)
      exact tableKept_removal (by cases h : sl.present <;> simp_all) sound

/-- The slots as inventory finds them are numbered in order. -/
theorem inventorySlots_numbers (k : Nat) (l : List Bool) :
    (inventorySlots k l).map (fun sl => sl.number) = List.range' k l.length := by
  induction l generalizing k with
  | nil => rfl
  | cons b l ih => exact congrArg (k :: ·) (ih (k + 1))

theorem mem_inventorySlots {k : Nat} {l : List Bool} {sl : Slot} (h : sl ∈ inventorySlots k l) :
    ∃ n b, sl = inventorySlot n b := by
  induction l generalizing k with
  | nil => nomatch h
  | cons b l ih =>
    rcases List.mem_cons.1 h with rfl | h
    · exact ⟨k, b, rfl⟩
    · exact ih h

theorem tableKept_finishInventory (l : List Bool) : TableKept s (finishInventory l s) := fun _ => by
  have slots : (finishInventory l s).scanner.slots = inventorySlots 1 l := by simp [finishInventory]
  refine ⟨?_, ?_, ?_⟩
  · rw [slots, inventorySlots_numbers]
    exact List.nodup_range'
  · rw [PresenceMatches, slots]
    intro sl hs
    obtain ⟨n, b, rfl⟩ := mem_inventorySlots hs
    cases b <;> rfl
  · rw [SlotTagsDistinct, slots, List.filterMap_eq_nil_iff.2 fun sl hs => ?_]
    · exact List.nodup_nil
    · obtain ⟨n, b, rfl⟩ := mem_inventorySlots hs
      rfl

theorem tableKept_slotScanStep (x : Sense) : TableKept s (slotScanStep x s) := by
  have sampled (d : Nat) : TableKept s (sampleLine d x s) :=
    foldl_tableKept _ (fun u k => tableKept_sampleSlot u (slotAt d k) _) _ s
  have driven (t : State) (d : Nat) (k : TableKept s t) : TableKept s { t with scanner := { t.scanner with drive := d } } :=
    k.trans (.of_slots rfl)
  have inventory (i : Inventory) : TableKept s (inventoryStep i x s) := by
    unfold inventoryStep
    dsimp only
    generalize (if lineUsed s.scanner.drive s then _ else i.samples) = samples
    repeat' split
    · exact .of_slots rfl
    · exact .of_slots rfl
    · exact tableKept_finishInventory s samples
  unfold slotScanStep
  dsimp only
  apply driven
  repeat' split
  · exact inventory _
  · exact sampled _
  · exact .refl _

theorem tableKept_pullWindowOver (n : Nat) : TableKept s (pullWindowOver n s) := by
  unfold pullWindowOver
  dsimp only
  split
  case h_2 => exact .refl _
  case h_1 sl found =>
    split
    case isFalse => exact .refl _
    case isTrue pulled =>
      have ended : TableKept s (queueReport (pullUnverifiedReport n (sl.consignment.getD 0))
          (updateSlot n (fun sl => { sl with state := .unexpectedRemoval, window := none, consignment := none }) s)) := by
        refine .before ?_ (queueReport_scanner _ _)
        refine tableKept_updateSlot (fun _ => rfl) (fun _ _ => id) fun o ho matched => ?_
        cases found.symm.trans ho
        rw [pulled.1] at matched
        exact matched
      split
      · exact ended.trans (tableKept_notice _ _ _ _)
      · exact ended

theorem tableKept_returnWindowOver (n : Nat) : TableKept s (returnWindowOver n s) := by
  unfold returnWindowOver
  repeat' split
  · refine .before ?_ (queueReport_scanner _ _)
    exact tableKept_updateSlot (fun _ => rfl) (fun _ _ => id) fun _ _ => id
  all_goals exact .refl _

theorem tableKept_clearQuarantineAt (n : Nat) : TableKept s (clearQuarantineAt n s) := by
  unfold clearQuarantineAt
  split
  case h_2 => exact .of_scanner (by simp)
  case h_1 sl found =>
    split
    case isFalse => exact .of_scanner (by simp)
    case isTrue held =>
      refine tableKept_updateSlot (fun _ => rfl) (fun _ _ => id) fun o ho matched => ?_
      cases found.symm.trans ho
      rw [held] at matched
      exact matched

/-! ### Reads (R105 to R109, R146) -/

@[simp] theorem readerNext_scanner : (readerNext s).scanner = s.scanner := rfl
@[simp] theorem requestSignal_scanner (x : Signal) : (requestSignal x s).scanner = s.scanner := rfl

@[simp] theorem goodResponse_scanner : (goodResponse s).scanner = s.scanner := by simp [goodResponse]

@[simp] theorem badResponse_scanner : (badResponse s).scanner = s.scanner := by
  unfold badResponse; dsimp only; split <;> simp

@[simp] theorem unknownTag_scanner (k : TagKind) (t : Tag) : (unknownTag k t s).1.scanner = s.scanner := by
  simp [unknownTag]

theorem tableKept_verifyFirst {t : Tag} {l : List PullCandidate} {s v : State} (h : verifyFirst t l s = some v) :
    TableKept s v := by
  induction l with
  | nil => nomatch h
  | cons c l ih =>
    unfold verifyFirst at h
    split at h
    case h_1 u hu =>
      cases h
      exact (tableKept_verifyRequest hu).before (by simp)
    case h_2 => exact ih h

theorem tableKept_routeBayCartridge (t : Tag) : TableKept s (routeBayCartridge t s).1 := by
  have known : (bayKnown t s).1.scanner = s.scanner := by unfold bayKnown; split <;> simp
  unfold routeBayCartridge
  repeat' split
  case h_1.isFalse h _ => exact tableKept_verifyFirst h
  case isTrue => exact .of_scanner rfl
  case h_1.isTrue => exact .refl _
  all_goals exact .of_scanner known

theorem routeDockCartridge_scanner (t : Tag) : (routeDockCartridge t s).1.scanner = s.scanner := by
  unfold routeDockCartridge dockKnown claimExpected receiveCartridge loadEntry unloadRead
  repeat' split
  all_goals simp

theorem tableKept_routeDockBadge (t : Tag) : TableKept s (routeDockBadge t s).1 := by
  unfold routeDockBadge badgeAt
  repeat' split
  · exact tableKept_signOffOutbound s _
  · exact tableKept_signOffInbound s _
  all_goals exact .of_scanner (by simp [startSession])

theorem tableKept_route (k : TagKind) (id : Tag) (x : Option CaseClimate) : TableKept s (route k id x s).1 := by
  unfold route routeDockCase
  split
  · exact tableKept_routeBayCartridge s id
  · exact .of_scanner (by simp)
  · exact .of_scanner (routeDockCartridge_scanner s id)
  · exact tableKept_routeDockBadge s id
  · exact .of_scanner (by split <;> simp)

theorem tableKept_goodRead (b : Bool) (r : ReadStatus) : TableKept s (goodRead b r s) := by
  unfold goodRead
  split
  case h_1 k id x =>
    unfold routeRead
    split
    · exact .refl _
    · exact .after (withReader_scanner s _) ((tableKept_route _ k id x).before (requestSignal_scanner _ _))
  all_goals exact .of_scanner (by split <;> simp)

theorem tableKept_readResponse (cs : List Byte) : TableKept s (readResponse cs s) := by
  unfold readResponse
  repeat' split
  case h_3 => exact .after (goodResponse_scanner s) ((tableKept_goodRead _ _ _).before (readerNext_scanner _))
  all_goals exact .of_scanner (by simp)

theorem tableKept_signalResponse (c : Byte) : TableKept s (signalResponse c s) := by
  unfold signalResponse signalAnswered
  repeat' split
  all_goals exact .of_scanner (by simp)

theorem tableKept_responseTimeout : TableKept s (responseTimeout s) :=
  .of_scanner (by unfold responseTimeout; split <;> simp)

theorem tableKept_recoveryOver : TableKept s (recoveryOver s) :=
  .of_scanner (by unfold recoveryOver; split <;> rfl)

end Sys2Proof.Machine
end

section
/-! ## What a step keeps of the slot table (O12) -/

namespace Sys2Proof.Machine

variable (s : State)

/-! ### Frames -/

theorem validFrame_tableKept (f : Frame) (act : State → State) (h : ∀ u, TableKept u (act u)) :
    TableKept s (validFrame f act s) := by
  unfold validFrame
  dsimp only
  repeat' split
  case isFalse.isTrue => exact .after (setPeer_scanner s _ _) (h _)
  all_goals exact .of_scanner (by simp)

theorem tableKept_receive (kind : Byte) (f : Frame) (act : State → State) (h : ∀ u, TableKept u (act u)) :
    TableKept s (receive kind f act s) := by
  unfold receive stationConflict
  dsimp only
  repeat' split
  case h_4 => exact .after (setReceiving_scanner s false) (validFrame_tableKept _ f act h)
  all_goals exact .of_scanner (by simp)

theorem tableKept_consoleOnly (f : Frame) (act : State → State) (h : ∀ u, TableKept u (act u)) (u : State) :
    TableKept u (consoleOnly f act u) := by
  unfold consoleOnly
  split
  · exact h u
  · exact .refl _

theorem tableKept_receiveCommand (code : Byte) (f : Frame) (act : List Byte → State → State)
    (h : ∀ u, TableKept u (act f.payload u)) : TableKept s (receiveCommand code f act s) := by
  refine tableKept_receive s _ _ _ (tableKept_consoleOnly f _ fun u => ?_)
  unfold commandAct
  split
  · exact h u
  · exact .of_scanner (refuseCommand_scanner ..)

theorem tableKept_discardFrame (x : DiscardCause) : TableKept s (discardFrame x s) := by
  unfold discardFrame
  split
  case h_4 kind f => exact tableKept_receive s kind f id .refl
  all_goals exact .of_scanner (by split <;> simp)

/-! ### Starts and RESTART (R97, R98, R185, R186) -/

/-- A table of no records is sound. -/
theorem tableKept_of_empty {s t : State} (h : t.scanner.slots = []) : TableKept s t := fun _ => by
  refine ⟨?_, ?_, ?_⟩
  · rw [h]; exact List.nodup_nil
  · rw [PresenceMatches, h]; exact List.forall_mem_nil _
  · rw [SlotTagsDistinct, h]; exact List.nodup_nil

theorem tableKept_beginStart (own : Strap) (role : Role) : TableKept s (beginStart own role s) :=
  tableKept_of_empty rfl

theorem tableKept_startStation (image : List Byte) (attention : Bool) (check : CircuitCheck) :
    TableKept s (startStation image attention check s) := by
  have started : TableKept s (startBlocks attention (applyImage image s)) := by
    generalize hn : slotCount (applyImage image s) = n
    have scanner : (startBlocks attention (applyImage image s)).scanner = startScanner n s.scanner := by rw [← hn]; rfl
    unfold startScanner at scanner
    split at scanner
    · exact tableKept_of_empty (by rw [scanner])
    · split at scanner
      · exact .of_slots (by rw [scanner])
      · exact tableKept_of_empty (by rw [scanner])
  unfold startStation
  exact started.before (by simp)

theorem slotKept_restartSlot (sl : Slot) : SlotKept sl (restartSlot sl) := by
  refine slotKept_of_presence (by rw [restartSlot_eq]) (by rw [restartSlot_eq]) ?_ (by rw [restartSlot_eq])
  have away : (if sl.tag.isSome = true then SlotState.out else .empty).presence = false := by split <;> rfl
  rw [restartSlot_eq]
  cases h : sl.state with
  | awaited => exact away
  | unexpectedPresence p => cases p <;> rfl
  | _ => rfl

theorem tableKept_restartCommand : TableKept s (restartCommand s) := by
  unfold restartCommand
  split
  · exact .of_scanner (by simp)
  · rw [takeRestart_eq]
    refine .before ?_ (queueReports_scanner _ _)
    exact tableKept_mapSlots (by rw [blocksRestarted_frame]) slotKept_restartSlot

/-! ### Commands -/

/-- The effect of every command that is an event of a running station keeps the slot table sound. -/
theorem tableKept_effect (c : Instr) (h : actsUnstarted c = false) :
    ∃ effect : State → State, exec c s = runEvent effect s ∧ TableKept s (effect s) :=
  match c with
  | .powerOn .. => nomatch h
  | .resetPin .. => nomatch h
  | .configImageRead .. => nomatch h
  | .mainsContactSettled .. => nomatch h
  | .mainsClearDelayExpiry => nomatch h
  | .uptimeMinute => ⟨_, rfl, .of_scanner rfl⟩
  | .fireReset .. => ⟨_, rfl, tableKept_receiveCommand s _ _ _ fun u => tableKept_fireReset u⟩
  | .silence .. => ⟨_, rfl, tableKept_receiveCommand s _ _ _ fun u => tableKept_silenceCommand u⟩
  | .testStart .. => ⟨_, rfl, tableKept_receiveCommand s _ _ _ fun u => tableKept_testStart u⟩
  | .testEnd .. => ⟨_, rfl, tableKept_receiveCommand s _ _ _ fun u => tableKept_testEnd u⟩
  | .isolateOn .. => ⟨_, rfl, tableKept_receiveCommand s _ _ _ fun u => tableKept_isolateOn u⟩
  | .isolateOff .. => ⟨_, rfl, tableKept_receiveCommand s _ _ _ fun u => tableKept_isolateOff u⟩
  | .clearQuarantine .. => ⟨_, rfl, tableKept_receiveCommand s _ _ _ fun u => tableKept_clearQuarantineAt u _⟩
  | .restart .. => ⟨_, rfl, tableKept_receiveCommand s _ _ _ fun u => tableKept_restartCommand u⟩
  | .resolve .. => ⟨_, rfl, tableKept_receiveCommand s _ _ _ fun u => tableKept_resolveWith u _⟩
  | .commandInvalid f =>
    ⟨_, rfl, tableKept_receive s _ f _ (tableKept_consoleOnly f _ fun u => .of_scanner (refuseCommand_scanner u ..))⟩
  | .stateFrame f => ⟨_, rfl, tableKept_receive s _ f _ fun u => tableKept_peerUpdate u _ _ _⟩
  | .alarmFrame f => ⟨_, rfl, tableKept_receive s _ f _ fun u => tableKept_peerUpdate u _ _ _⟩
  | .consign f => ⟨_, rfl, tableKept_receive s _ f _ (tableKept_consoleOnly f _ fun u => tableKept_takeConsign u _)⟩
  | .entry f => ⟨_, rfl, tableKept_receive s _ f _ (tableKept_consoleOnly f _ fun u => tableKept_takeEntry u _)⟩
  | .cancel f => ⟨_, rfl, tableKept_receive s _ f _ (tableKept_consoleOnly f _ fun u => tableKept_takeCancel u _)⟩
  | .offer f => ⟨_, rfl, tableKept_receive s _ f _ fun u => tableKept_takeOffer u _ _⟩
  | .taken f => ⟨_, rfl, tableKept_receive s _ f _ fun u => tableKept_takeTaken u _ _⟩
  | .cleared f => ⟨_, rfl, tableKept_receive s _ f _ fun u => tableKept_takeCleared u _ _⟩
  | .withdraw f => ⟨_, rfl, tableKept_receive s _ f _ fun u => tableKept_takeWithdraw u _ _⟩
  | .late f => ⟨_, rfl, tableKept_receive s _ f _ fun u => tableKept_takeLate u _ _⟩
  | .refuse f => ⟨_, rfl, tableKept_receive s _ f _ fun u => tableKept_takeRefuse u _ _⟩
  | .query f => ⟨_, rfl, tableKept_receive s _ f _ (tableKept_consoleOnly f _ fun u => tableKept_takeQuery u _ _)⟩
  | .discardedFrame .. => ⟨_, rfl, tableKept_discardFrame s _⟩
  | .frameGapTimeout => ⟨_, rfl, tableKept_frameGap s⟩
  | .lineStuckSet .. => ⟨_, rfl, tableKept_lineStuck s _⟩
  | .lineStuckClear => ⟨_, rfl, tableKept_lineRecovered s⟩
  | .transmitStart .. => ⟨_, rfl, tableKept_transmitStart s _⟩
  | .frameSent => ⟨_, rfl, tableKept_frameSent s⟩
  | .readbackFailure => ⟨_, rfl, .of_scanner (failReadback_scanner s)⟩
  | .statusTimerExpiry => ⟨_, rfl, tableKept_statusOver s⟩
  | .conflictTimerExpiry => ⟨_, rfl, tableKept_conflictOver s⟩
  | .scanTimerExpiry .. => ⟨_, rfl, tableKept_scanTimerOver s _⟩
  | .inputConversionEnd .. => ⟨_, rfl, tableKept_inputConverted s _⟩
  | .probeConversionEnd .. => ⟨_, rfl, tableKept_probeConverted s _⟩
  | .verifyTimerExpiry .. => ⟨_, rfl, tableKept_verifyOver s _⟩
  | .climateTimerExpiry => ⟨_, rfl, tableKept_climateTimerOver s⟩
  | .climateHoldTimerExpiry => ⟨_, rfl, tableKept_climateHoldOver s⟩
  | .excursionDelayExpiry => ⟨_, rfl, tableKept_excursionDelayOver s⟩
  | .stabilizationTimerExpiry => ⟨_, rfl, tableKept_stabilizationOver s⟩
  | .countdownExpiry => ⟨_, rfl, tableKept_countdownOver s⟩
  | .releasePulseExpiry => ⟨_, rfl, .of_scanner rfl⟩
  | .testTimerExpiry => ⟨_, rfl, tableKept_testTimerOver s⟩
  | .testLatchClearExpiry .. => ⟨_, rfl, tableKept_testLatchOver s _⟩
  | .testPulseEnd => ⟨_, rfl, .of_scanner rfl⟩
  | .sounderCadenceExpiry => ⟨_, rfl, tableKept_cadenceOver s⟩
  | .minRunTimerExpiry => ⟨_, rfl, tableKept_minRunExpired s⟩
  | .minOffTimerExpiry => ⟨_, rfl, tableKept_minOffExpired s⟩
  | .slotScanStep .. => ⟨_, rfl, tableKept_slotScanStep s _⟩
  | .pullWindowExpiry .. => ⟨_, rfl, tableKept_pullWindowOver s _⟩
  | .returnWindowExpiry .. => ⟨_, rfl, tableKept_returnWindowOver s _⟩
  | .attentionRise => ⟨_, rfl, .of_scanner rfl⟩
  | .readResponse .. => ⟨_, rfl, tableKept_readResponse s _⟩
  | .signalResponse .. => ⟨_, rfl, tableKept_signalResponse s _⟩
  | .responseTimeout => ⟨_, rfl, tableKept_responseTimeout s⟩
  | .bounceTimerExpiry => ⟨_, rfl, .of_scanner rfl⟩
  | .recoveryTimerExpiry => ⟨_, rfl, tableKept_recoveryOver s⟩
  | .readerRestartDelayExpiry => ⟨_, rfl, .of_scanner rfl⟩
  | .openingTimerExpiry .. => ⟨_, rfl, tableKept_openingOver s _⟩
  | .courierWindowExpiry .. => ⟨_, rfl, tableKept_courierOver s _⟩
  | .deadlineTimerExpiry .. => ⟨_, rfl, tableKept_deadlineOver s _⟩
  | .handoverTimerExpiry .. => ⟨_, rfl, tableKept_handoverOver s _⟩
  | .lapseTimerExpiry .. => ⟨_, rfl, tableKept_lapseOver s _⟩
  | .confirmTimerExpiry .. => ⟨_, rfl, tableKept_confirmOver s _⟩
  | .minuteTimerExpiry => ⟨minuteOver, rfl, tableKept_minuteOver s⟩
  | .doorContactSettled .. => ⟨_, rfl, tableKept_doorSettled s _⟩
  | .doorForcedTimerExpiry => ⟨_, rfl, .of_scanner rfl⟩
  | .validFrameDropped _ f => ⟨_, rfl, tableKept_receive s _ f _ .refl⟩

theorem tableKept_exec {s t : State} (c : Instr) (h : exec c s = .next t) : TableKept s t := by
  cases hc : actsUnstarted c with
  | false =>
    obtain ⟨effect, run, kept⟩ := tableKept_effect s c hc
    rw [run] at h
    cases h
    split
    · exact kept.before (queueAlarmIfChanged_scanner _ _)
    · exact .refl _
  | true =>
    cases c
    case powerOn own role => cases h; exact tableKept_beginStart s own role
    case resetPin own role => cases h; exact tableKept_beginStart s own role
    case configImageRead image attention check =>
      cases h
      split
      · exact tableKept_startStation s image attention check
      · exact tableKept_startStation s image attention check
      · exact .refl _
    case mainsContactSettled b =>
      cases h
      split
      · exact tableKept_mainsSettled s b
      · exact .refl _
    case mainsClearDelayExpiry =>
      cases h
      split
      · exact tableKept_mainsCleared s
      · exact .refl _
    all_goals cases hc

theorem tableKept_step {s t : State} (h : step s = .next t) : TableKept s t := by
  unfold step at h
  split at h
  · cases h
    exact tableKept_mapSlots rfl fun sl => slotKept_of_presence rfl rfl rfl rfl
  · next c rest _ => exact .after (t := { s with pending := rest }) rfl (tableKept_exec c h)

/-- Settles O12: what a step keeps of the slot table. -/
theorem slotTableStaysSound : Obligations.SlotTableStaysSound :=
  fun _ _ sound h => tableKept_step h sound

end Sys2Proof.Machine
end


section
/-! ## The closing of a record and the notices, as one state each

What R128 does at a closing and what a notice of R120 does, in the words of the statements: the slots `slotsAfter`, the
custody entries `custodyAfter`, the reports `closingReports` (log 49). -/

namespace Sys2Proof.Machine

variable {s t : State}

/-! ### Reports -/

/-- The reports queued with one state reach the line record as with any other of the same line and the same gate. -/
theorem queueReports_like (rs : List Report) (line : t.line = s.line) (gate : reportsGoOut t = reportsGoOut s) :
    queueReports rs t = { t with line := (queueReports rs s).line } := by
  rw [queueReports_frame, queueReports_line, queueReports_line, line, gate]

theorem queueReports_line_like (rs : List Report) (line : t.line = s.line) (gate : reportsGoOut t = reportsGoOut s) :
    (queueReports rs t).line = (queueReports rs s).line := by
  rw [queueReports_line, queueReports_line, line, gate]

/-- Reports queued where others went before. -/
theorem queueReports_after (rs rs' : List Report) (line : t.line = (queueReports rs s).line)
    (gate : reportsGoOut t = reportsGoOut s) :
    queueReports rs' t = { t with line := (queueReports (rs ++ rs') s).line } := by
  rw [queueReports_append]
  exact queueReports_like rs' line (gate.trans (reportsGoOut_queueReports s rs).symm)

theorem queueReports_singleton (r : Report) (s : State) : queueReports [r] s = queueReport r s := rfl

/-- An event of a running station with an outcome that leaves the reported values (R43). -/
theorem runEvent_to {effect : State → State} (running : s.phase = .running) (outcome : effect s = t)
    (reported : reportedFire t = reportedFire s) : runEvent effect s = .next t := by
  rw [runEvent_unreported effect s running (by rw [outcome, reported]), outcome]

/-- An accepted frame with an outcome that leaves the reported values. -/
theorem runEvent_accepted {kind : Byte} {f : Frame} {act : State → State} (ha : Accepted kind f s)
    (effect : act (heard f s) = t) (reported : reportedFire t = reportedFire s) :
    runEvent (receive kind f act) s = .next t :=
  runEvent_to ha.1 ((receive_accepted kind f act s ha).trans effect) reported

/-- A frame from the console that its owner takes, with an outcome that leaves the reported values. -/
theorem runEvent_fromConsole {kind : Byte} {f : Frame} {act : State → State} (ha : Accepted kind f s)
    (hc : FromConsole f s) (effect : act (heard f s) = t) (reported : reportedFire t = reportedFire s) :
    runEvent (receive kind f (consoleOnly f act)) s = .next t :=
  runEvent_accepted ha ((consoleOnly_fromConsole f act s hc).trans effect) reported

/-- A COMMAND that its owner takes, with an outcome that leaves the reported values. -/
theorem runEvent_command {code : Byte} {f : Frame} {act : List Byte → State → State} (h : AcceptedCommand code f s)
    (effect : act f.payload (heard f s) = t) (reported : reportedFire t = reportedFire s) :
    runEvent (receiveCommand code f act) s = .next t := by
  obtain ⟨⟨running, -⟩, -⟩ := id h
  exact runEvent_to running ((receiveCommand_accepted code f act s h).trans effect) reported

/-! ### A closing (R95, R128) -/

theorem revertSlot_eq_reverted (num : Nat) : revertSlot num = reverted num := by
  funext o
  by_cases carried : o.consignment = some num
  · cases state : o.state
    case awaited => cases tag : o.tag <;> simp [revertSlot, reverted, carried, state, afterAwaited, tag]
    case unexpectedPresence prior =>
      cases prior <;> cases tag : o.tag <;> simp [revertSlot, reverted, carried, state, priorAfterAwaited, tag]
    all_goals simp [revertSlot, reverted, carried, state]
  · simp [revertSlot, reverted, carried]

theorem filterMap_revertReport (num : Nat) (slots : List Slot) :
    slots.filterMap (revertReport num) =
      (slots.filter fun o => o.state == .pulled && o.consignment == some num).map fun o =>
        { kind := .pullUnverified, number := o.number, consignment := num } := by
  induction slots with
  | nil => rfl
  | cons o slots ih =>
    rw [List.filterMap_cons, List.filter_cons, ih]
    by_cases carried : o.consignment = some num <;> by_cases pulled : o.state = .pulled <;>
      simp [revertReport, pullUnverifiedReport, carried, pulled]

/-- Of the entries of a closing record, those DONE were so before. -/
theorem isDone_failInProgress (r : FailReason) (e : Entry) : (failInProgress r e).isDone = (e.state == .done) := by
  cases state : e.state <;> simp [failInProgress, Entry.inProgress, Entry.isDone, state]

/-- Of the entries of a closing record, all that are not DONE have FAILED (R128 step 1). -/
theorem isFailed_failInProgress (r : FailReason) (e : Entry) : (failInProgress r e).isFailed = (e.state != .done) := by
  cases state : e.state <;> simp [failInProgress, Entry.inProgress, Entry.isFailed, state]

/-- The custody list after the closing of a number, as the closing makes it: what the HELD entries owe is looked at
again (R128 step 3, R135). -/
def closedCustody (num : Nat) (s : State) : List CustodyEntry :=
  ((s.custody.entries.filter (staysAtClosing num)).map (loseNumber num)).map (settleOffer (removeRecord num s))

/-- The state after the closing of a record. -/
def closedState (cause : Nat) (c : Consignment) (entries : List Entry) (s : State) : State :=
  { s with
    consignments := s.consignments.filter fun x => x.number != c.number,
    scanner := { s.scanner with slots := slotsAfter (some c) s.role s.scanner.slots },
    custody := { s.custody with entries := closedCustody c.number s },
    line := (queueReports (closingReports cause c entries s) s).line }

theorem closedReport_eq (c : Consignment) (cause : CloseCause) (role : Role) :
    closedReport role { c with entries := c.entries.map (failInProgress cause.reason) } cause =
      { kind := .consignmentClosed, consignment := c.number, code := cause.code,
        tag := if role = .dock then c.caseId.getD 0 else 0,
        value1 := ((c.entries.filter fun x => x.state == .done).length : Nat),
        value2 := ((c.entries.filter fun x => x.state != .done).length : Nat) } := by
  have done : Entry.isDone ∘ failInProgress cause.reason = fun x => x.state == .done :=
    funext (isDone_failInProgress _)
  have failed : Entry.isFailed ∘ failInProgress cause.reason = fun x => x.state != .done :=
    funext (isFailed_failInProgress _)
  simp only [closedReport, List.filter_map, List.length_map, done, failed]

/-- The reports of the slots that a closing reverts: one for each PULLED slot of the number at a bay (R95). -/
def revertReports (num : Nat) (s : State) : List Report :=
  if s.role = .bay then
    (s.scanner.slots.filter fun o => o.state == .pulled && o.consignment == some num).map fun o =>
      { kind := .pullUnverified, number := o.number, consignment := num }
  else []

/-- A bay reverts the slots of the closing number; a dock has none (R128 step 2). -/
theorem revertRequest_eq (c : Consignment) (s : State) :
    (if s.role = .bay then revertRequest c.number s else s) =
      { s with
        scanner := { s.scanner with slots := slotsAfter (some c) s.role s.scanner.slots },
        line := (queueReports (revertReports c.number s) s).line } := by
  unfold slotsAfter revertReports
  split
  · rw [revertRequest, filterMap_revertReport, revertSlot_eq_reverted]
    exact queueReports_like (s := s) (t := mapSlots _ s) _ rfl rfl
  · rfl

theorem closeRecord_eq (c : Consignment) (cause : CloseCause) (s : State) :
    closeRecord c cause s = closedState cause.code c c.entries s := by
  unfold closeRecord
  dsimp only
  rw [revertRequest_eq, closedReport_eq, ← queueReports_singleton,
    queueReports_after (s := s) (revertReports c.number s)]
  all_goals rfl

/-- The removal of a record matters to no entry of another number (R135). -/
theorem offerOwed_removeRecord {num : Nat} {e : CustodyEntry} (other : e.consignment ≠ some num) :
    offerOwed (removeRecord num s) e = offerOwed s e := by
  unfold offerOwed
  cases carried : e.consignment with
  | none => rfl
  | some n =>
    have apart : n ≠ num := fun same => other (by rw [carried, same])
    have same : recordReceiving n (removeRecord num s) = recordReceiving n s := by
      unfold recordReceiving removeRecord
      rw [List.any_filter]
      congr 1
      funext c
      by_cases hn : c.number = n <;> simp [hn, apart]
    simp only [same]

/-- An entry that owes what it should is left as it is (R135). -/
theorem settleOffer_of_owing {e : CustodyEntry}
    (settled : e.state = .held → e.owed = if offerOwed s e then some .offer else none) : settleOffer s e = e := by
  unfold settleOffer
  split
  case isTrue held => rw [← settled held]
  case isFalse => rfl

/-- Where the HELD entries owe what they should, the closing changes only entries of its number (R128 step 3, R135). -/
theorem closedCustody_eq (c : Consignment) (settled : OffersSettled s) :
    closedCustody c.number s = custodyAfter (some c) s.custody.entries := by
  have stays : staysAtClosing c.number = fun e =>
      decide (¬ (e.consignment = some c.number ∧ e.state = .released ∧ e.owed ≠ some .cleared)) := by
    funext e
    rw [staysAtClosing, Bool.eq_iff_iff]
    simp [or_assoc]
  unfold closedCustody custodyAfter
  rw [List.map_map, stays]
  refine List.map_congr_left fun e he => ?_
  have owes := settled e (List.mem_of_mem_filter he)
  by_cases carried : e.consignment = some c.number
  · by_cases held : e.state = .held <;>
      simp [loseNumber, settleOffer, offerOwed, CustodyEntry.dropNumber, carried, held]
  · rw [Function.comp_apply, loseNumber, if_neg carried, if_neg carried]
    exact settleOffer_of_owing ((offerOwed_removeRecord (s := s) carried).symm ▸ owes)

/-! ### What no longer carries the number of a closed record -/

section
variable (cause : Nat) (c : Consignment) (entries : List Entry) (s : State)

theorem findRecord_closedState : findRecord c.number (closedState cause c entries s) = none := by
  simp [findRecord, closedState, List.find?_filter]

theorem reverted_consignment (num : Nat) (o : Slot) : (reverted num o).consignment ≠ some num := by
  unfold reverted
  dsimp only
  split
  case isTrue other => exact other
  case isFalse =>
    repeat' split
    all_goals exact Option.some_ne_none num |>.symm

theorem slot_of_closedState (bay : s.role = .bay) :
    ∀ sl ∈ (closedState cause c entries s).scanner.slots, sl.consignment ≠ some c.number := by
  simp only [closedState, slotsAfter, if_pos bay]
  exact List.forall_mem_map.2 fun o _ => reverted_consignment c.number o

theorem settleOffer_consignment (e : CustodyEntry) : (settleOffer s e).consignment = e.consignment := by
  unfold settleOffer; split <;> rfl

theorem settleOffer_tag (e : CustodyEntry) : (settleOffer s e).tag = e.tag := by
  unfold settleOffer; split <;> rfl

theorem settleOffer_state (e : CustodyEntry) : (settleOffer s e).state = e.state := by
  unfold settleOffer; split <;> rfl

theorem loseNumber_consignment (num : Nat) (e : CustodyEntry) : (loseNumber num e).consignment ≠ some num := by
  unfold loseNumber
  split
  case isTrue => exact Option.some_ne_none num |>.symm
  case isFalse other => exact other

theorem custody_of_closedState : ∀ e ∈ (closedState cause c entries s).custody.entries, e.consignment ≠ some c.number := by
  refine List.forall_mem_map.2 fun e he => ?_
  obtain ⟨e, -, rfl⟩ := List.mem_map.1 he
  rw [settleOffer_consignment]
  exact loseNumber_consignment c.number e

/-- Only a RELEASED entry can go at a closing; any other keeps its state (R128 step 3). -/
theorem stays_of_closedState {e : CustodyEntry} (he : e ∈ s.custody.entries) (stays : e.state ≠ .released) :
    ∃ e' ∈ (closedState cause c entries s).custody.entries, e'.tag = e.tag ∧ e'.state = e.state := by
  refine ⟨_, List.mem_map_of_mem (List.mem_map_of_mem (List.mem_filter.2 ⟨he, ?_⟩)), ?_, ?_⟩
  · simp [staysAtClosing, stays]
  · rw [settleOffer_tag]; unfold loseNumber; split <;> rfl
  · rw [settleOffer_state]; unfold loseNumber; split <;> rfl

end

end Sys2Proof.Machine
end

section
/-! ## O47: CANCEL, the deadline and the opening timer (R115, R126 to R128) -/

namespace Sys2Proof.Machine

variable {s : State} {n : Nat} {c : Consignment}

theorem not_released {e : CustodyEntry} (h : e.state = .loaded ∨ e.state = .adrift ∨ e.state = .disputed) :
    e.state ≠ .released := by
  rcases h with h | h | h <;> rw [h] <;> decide

theorem takeCancel_of_found {p : List Byte} (found : findRecord (wordAt p 0) s = some c) (past : c.state ≠ .opening) :
    takeCancel p s = closedState 4 c c.entries s := by
  simp only [takeCancel, found, if_neg past, closeRecord_eq, CloseCause.code]

theorem takeCancel_of_opening {p : List Byte} (found : findRecord (wordAt p 0) s = some c) (opening : c.state = .opening) :
    takeCancel p s =
      queueReport { kind := .consignmentClosed, consignment := wordAt p 0, code := 4 } (removeRecord (wordAt p 0) s) := by
  simp only [takeCancel, found, if_pos opening, CloseCause.code]

theorem takeCancel_of_absent {p : List Byte} (absent : findRecord (wordAt p 0) s = none) : takeCancel p s = s := by
  simp only [takeCancel, absent]

theorem deadlineOver_of_timer (found : findRecord n s = some c) (timer : c.deadlineTimer.isSome = true) :
    deadlineOver n s = closedState 3 c c.entries s := by
  simp only [deadlineOver, found, if_pos timer, closeRecord_eq, CloseCause.code]

theorem deadlineOver_of_no_timer (none : ∀ c ∈ findRecord n s, c.deadlineTimer = none) : deadlineOver n s = s := by
  unfold deadlineOver
  split
  case h_1 c found => rw [none c found]; rfl
  case h_2 => rfl

theorem openingOver_of_timer (found : findRecord n s = some c) (timer : c.openingTimer.isSome = true) :
    openingOver n s = queueReport { kind := .consignmentAbandoned, consignment := n } (removeRecord n s) := by
  simp only [openingOver, found, if_pos timer]

theorem openingOver_of_no_timer (none : ∀ c ∈ findRecord n s, c.openingTimer = none) : openingOver n s = s := by
  unfold openingOver
  split
  case h_1 c found => rw [none c found]; rfl
  case h_2 => rfl

/-- Settles O47: a CANCEL and the deadline are closings, the opening timer and a CANCEL in OPENING removals. -/
theorem recordsCloseWithTheirSlotsAndCustody : Obligations.RecordsCloseWithTheirSlotsAndCustody := by
  refine ⟨fun s f c ha hc found past => ?_, fun s n c running found timer => ?_, fun s f ha hc absent => ?_,
    fun s n running none => ?_, fun s n c running found timer => ?_, fun s f c ha hc found opening => ?_,
    fun s n running none => ?_⟩
  · exact ⟨closedState 4 c c.entries (heard f s), runEvent_fromConsole ha hc (takeCancel_of_found found past) rfl,
      findRecord_closedState .., rfl, custody_of_closedState 4 c c.entries (heard f s),
      fun e he _ kind => stays_of_closedState 4 c c.entries (heard f s) he (not_released kind),
      slot_of_closedState 4 c c.entries (heard f s), rfl,
      fun settled => congrArg (fun es => { s.custody with entries := es }) (closedCustody_eq c settled), rfl, rfl⟩
  · exact ⟨closedState 3 c c.entries s, runEvent_to running (deadlineOver_of_timer found timer) rfl,
      findRecord_closedState .., rfl, custody_of_closedState 3 c c.entries s,
      fun e he _ kind => stays_of_closedState 3 c c.entries s he (not_released kind),
      slot_of_closedState 3 c c.entries s, rfl,
      fun settled => congrArg (fun es => { s.custody with entries := es }) (closedCustody_eq c settled), rfl, rfl⟩
  · exact runEvent_fromConsole ha hc (takeCancel_of_absent absent) rfl
  · exact runEvent_to running (deadlineOver_of_no_timer none) rfl
  · exact runEvent_to running (openingOver_of_timer found timer) (queueReport_reportedFire ..)
  · exact runEvent_fromConsole ha hc (takeCancel_of_opening (s := heard f s) found opening) (queueReport_reportedFire ..)
  · exact runEvent_to running (openingOver_of_no_timer none) rfl

end Sys2Proof.Machine
end


section
/-! ## The notices (R117, R118, R120), as one state each -/

namespace Sys2Proof.Machine

variable {s : State} {num : Option Nat} {names : Entry → Bool} {st : EntryState} {c : Consignment}

/-- The state after a notice: its record closed, or the first entry it names given its state. -/
def noticedState (num : Option Nat) (names : Entry → Bool) (st : EntryState) (s : State) : State :=
  match closedByNotice num names st s with
  | some c => closedState 1 c (setFirst names st c.entries) s
  | none =>
    { s with consignments := s.consignments.map fun c =>
        if num = some c.number then { c with entries := setFirst names st c.entries } else c }

/-- Whether the completion test closes a record past a notice (R128). -/
theorem complete_iff (c : Consignment) (entries : List Entry) :
    (c.state ≠ .opening && !entries.any Entry.inProgress) = true ↔
      c.state ≠ .opening ∧ ∀ x ∈ entries, x.state ≠ .waiting ∧ x.state ≠ .active := by
  simp [Entry.inProgress]

theorem closedByNotice_of_found {n : Nat} (found : findRecord n s = some c) :
    closedByNotice (some n) names st s =
      if c.entries.any names = true ∧ c.state ≠ .opening ∧
        ∀ x ∈ setFirst names st c.entries, x.state ≠ .waiting ∧ x.state ≠ .active then some c else none := by
  rw [closedByNotice, Option.bind_some, found, Option.filter_some]
  simp only [decide_eq_true_eq]

/-- An update of a record is undone by its closing. -/
theorem closedState_updateRecord (cause : Nat) (entries : List Entry) {g : Consignment → Consignment}
    (number : ∀ x, (g x).number = x.number) :
    closedState cause { c with entries := entries } entries (updateRecord c.number g s) = closedState cause c entries s := by
  have gone : (updateRecord c.number g s).consignments.filter (fun x => x.number != c.number) =
      s.consignments.filter fun x => x.number != c.number := by
    rw [updateRecord_consignments, List.filter_map]
    have same : ((fun x : Consignment => x.number != c.number) ∘ fun x => if x.number = c.number then g x else x) =
        fun x => x.number != c.number := by
      funext x
      by_cases h : x.number = c.number <;> simp [h, number]
    rw [same]
    refine (List.map_congr_left fun x hx => ?_).trans (List.map_id _)
    exact if_neg (by simpa using (List.mem_filter.1 hx).2)
  have records : removeRecord c.number (updateRecord c.number g s) = removeRecord c.number s := by
    unfold removeRecord
    rw [gone]
    rfl
  have told : (queueReports (closingReports cause { c with entries := entries } entries (updateRecord c.number g s))
      (updateRecord c.number g s)).line = (queueReports (closingReports cause c entries s) s).line :=
    queueReports_line_like (s := s) (t := updateRecord c.number g s) _ rfl rfl
  unfold closedState closedCustody
  dsimp only
  rw [gone, records, told]
  rfl

theorem completionTest_of_found {n : Nat} (found : findRecord n s = some c) :
    completionTest n s =
      if c.state ≠ .opening ∧ ∀ x ∈ c.entries, x.state ≠ .waiting ∧ x.state ≠ .active then
        closedState 1 c c.entries s
      else s := by
  simp only [completionTest, found, complete_iff, closeRecord_eq, CloseCause.code]

/-- Where a notice names no entry, the table is unchanged (R120). -/
theorem map_setFirst_of_none {n : Nat} (unnamed : ∀ c ∈ s.consignments, c.number = n → c.entries.any names = false) :
    { s with consignments := s.consignments.map fun c =>
        if some n = some c.number then { c with entries := setFirst names st c.entries } else c } = s := by
  have same : (s.consignments.map fun c =>
      if some n = some c.number then { c with entries := setFirst names st c.entries } else c) = s.consignments := by
    refine (List.map_congr_left fun c hc => ?_).trans (List.map_id _)
    split
    case isTrue hn =>
      have none := unnamed c hc (Option.some.inj hn).symm
      rw [setFirst_of_none names st c.entries (by simpa using none)]
      rfl
    case isFalse => rfl
  rw [same]

theorem noticeOf_eq (distinct : RecordNumbersDistinct s) : noticeOf num names st s = noticedState num names st s := by
  cases num with
  | none => simp [noticeOf, noticedState, closedByNotice]
  | some n =>
    cases found : findRecord n s with
    | none =>
      have absent : ∀ c ∈ s.consignments, c.number ≠ n := by simpa [findRecord] using found
      have closes : closedByNotice (some n) names st s = none := by simp [closedByNotice, found]
      simp only [noticeOf, notice, found, noticedState, closes]
      exact (map_setFirst_of_none fun c hc hn => absurd hn (absent c hc)).symm
    | some c =>
      have number := findRecord_number found
      simp only [noticeOf, notice, found, noticedState, closedByNotice_of_found found]
      by_cases named : c.entries.any names = true
      · have updated := findRecord_updateRecord (fun c => { c with entries := setFirst names st c.entries })
          (fun _ => rfl) found
        rw [if_pos named, completionTest_of_found updated]
        by_cases ends : c.state ≠ .opening ∧ ∀ x ∈ setFirst names st c.entries, x.state ≠ .waiting ∧ x.state ≠ .active
        · rw [if_pos ends, if_pos ⟨named, ends⟩]
          subst number
          exact closedState_updateRecord 1 _ fun _ => rfl
        · rw [if_neg ends, if_neg fun h => ends h.2]
          simp only [updateRecord, mapRecords, Option.some.injEq, eq_comm]
      · rw [if_neg named, if_neg fun h => named h.1]
        exact (map_setFirst_of_none fun x hx hn => by
          simpa [eq_of_findRecord distinct found hx hn] using named).symm

/-! ### What a notice leaves and makes -/

section
variable (num : Option Nat) (names : Entry → Bool) (st : EntryState) (s : State)

theorem noticedState_frame :
    noticedState num names st s =
      { s with consignments := (noticedState num names st s).consignments,
               scanner := (noticedState num names st s).scanner,
               custody := (noticedState num names st s).custody,
               line := (noticedState num names st s).line } := by
  unfold noticedState; split <;> rfl

@[simp] theorem noticedState_reportedFire : reportedFire (noticedState num names st s) = reportedFire s := by
  unfold noticedState; split <;> rfl

theorem noticedState_scanner :
    (noticedState num names st s).scanner =
      { s.scanner with slots := slotsAfter (closedByNotice num names st s) s.role s.scanner.slots } := by
  cases closes : closedByNotice num names st s with
  | none => simp only [noticedState, closes]; rfl
  | some c => simp only [noticedState, closes]; rfl

theorem noticedState_line :
    (noticedState num names st s).line = (queueReports (noticeReports num names st s) s).line := by
  cases closes : closedByNotice num names st s with
  | none => simp only [noticedState, noticeReports, closes]; rfl
  | some c => simp only [noticedState, noticeReports, closes]; rfl

theorem noticedState_custody (settled : OffersSettled s) :
    (noticedState num names st s).custody =
      { s.custody with entries := custodyAfter (closedByNotice num names st s) s.custody.entries } := by
  unfold noticedState
  split
  case h_1 c closes => rw [closes, closedState, closedCustody_eq c settled]
  case h_2 closes => rw [closes]; rfl

/-- An entry that a notice leaves in the list keeps its tag and its state. -/
theorem noticedState_custody_mem :
    ∀ x ∈ (noticedState num names st s).custody.entries, ∃ y ∈ s.custody.entries, y.tag = x.tag ∧ y.state = x.state := by
  unfold noticedState
  split
  case h_1 c _ =>
    intro x hx
    obtain ⟨z, hz, rfl⟩ := List.mem_map.1 hx
    obtain ⟨y, hy, rfl⟩ := List.mem_map.1 hz
    refine ⟨y, List.mem_of_mem_filter hy, ?_, ?_⟩
    · rw [settleOffer_tag]; unfold loseNumber; split <;> rfl
    · rw [settleOffer_state]; unfold loseNumber; split <;> rfl
  case h_2 => exact fun x hx => ⟨x, hx, rfl, rfl⟩

/-- An entry without a number, neither HELD nor anything a closing could reach, stays as it is. -/
theorem mem_noticedState_custody {x : CustodyEntry} (hx : x ∈ s.custody.entries) (unnumbered : x.consignment = none)
    (state : x.state ≠ .held) : x ∈ (noticedState num names st s).custody.entries := by
  unfold noticedState
  split
  case h_1 c _ =>
    have stays : staysAtClosing c.number x = true := by simp [staysAtClosing, unnumbered]
    have lost : loseNumber c.number x = x := by simp [loseNumber, unnumbered]
    have owed : settleOffer (removeRecord c.number s) x = x := if_neg state
    exact List.mem_map.2 ⟨x, List.mem_map.2 ⟨x, List.mem_filter.2 ⟨hx, stays⟩, lost⟩, owed⟩
  case h_2 => exact hx

theorem closedByNotice_number {c : Consignment} (h : closedByNotice num names st s = some c) : num = some c.number := by
  obtain ⟨found, -⟩ := Option.filter_eq_some_iff.1 h
  obtain ⟨n, hn, found⟩ := Option.bind_eq_some_iff.1 found
  rw [hn, findRecord_number found]

/-- The records of other numbers stay. -/
theorem mem_noticedState_consignments {c : Consignment} (hc : c ∈ s.consignments) (other : num ≠ some c.number) :
    c ∈ (noticedState num names st s).consignments := by
  unfold noticedState
  split
  case h_1 d closes =>
    have apart : c.number ≠ d.number := fun same => other (same ▸ closedByNotice_number num names st s closes)
    exact List.mem_filter.2 ⟨hc, by simpa using apart⟩
  case h_2 => exact List.mem_map.2 ⟨c, hc, if_neg other⟩

/-- The record of a notice's number, where the notice names an entry of it. -/
theorem findRecord_noticedState {n : Nat} {c : Consignment} (found : findRecord n s = some c)
    (named : c.entries.any names = true) :
    findRecord n (noticedState (some n) names st s) =
      if c.state ≠ .opening ∧ ∀ x ∈ setFirst names st c.entries, x.state ≠ .waiting ∧ x.state ≠ .active then none
      else some { c with entries := setFirst names st c.entries } := by
  have number := findRecord_number found
  unfold noticedState
  rw [closedByNotice_of_found found]
  by_cases ends : c.state ≠ .opening ∧ ∀ x ∈ setFirst names st c.entries, x.state ≠ .waiting ∧ x.state ≠ .active
  · rw [if_pos ends, if_pos ⟨named, ends⟩, ← number]
    exact findRecord_closedState 1 c _ s
  · rw [if_neg ends, if_neg fun h => ends h.2]
    have updated := findRecord_updateRecord (fun c => { c with entries := setFirst names st c.entries })
      (fun _ => rfl) found
    simpa [updateRecord, mapRecords, eq_comm] using updated

end

end Sys2Proof.Machine
end

section
/-! ## O40: the two windows, the minute timer and CLEAR_QUARANTINE (R90, R94, R161, R162) -/

namespace Sys2Proof.Machine

variable {s t : State} {n : Nat} {sl : Slot}

/-- The slot of a pull window over: UNEXPECTED of kind REMOVAL, its tag kept (R90). -/
def pullFailed (n : Nat) (s : State) : State :=
  updateSlot n (fun x => { x with state := .unexpectedRemoval, window := none, consignment := none }) s

theorem pullWindowOver_of_pulled (found : findSlot n s = some sl) (pulled : sl.state = .pulled)
    (window : sl.window.isSome = true) :
    pullWindowOver n s =
      noticeOf sl.consignment (fun x => decide (x.slot = n ∧ x.state = .active)) (.failed .pullUnverified)
        (queueReport { kind := .pullUnverified, number := n, consignment := sl.consignment.getD 0 } (pullFailed n s)) := by
  have names : (fun x : Entry => decide (x.slot = n ∧ x.state = .active)) =
      fun x => x.slot == n && x.state == .active := by
    funext x
    simp only [Bool.decide_and, beq_eq_decide]
  simp only [pullWindowOver, found, pulled, window, and_self, if_true, names]
  cases sl.consignment <;> rfl

theorem pullWindowOver_of_other (other : ∀ sl ∈ findSlot n s, sl.state ≠ .pulled ∨ sl.window = none) :
    pullWindowOver n s = s := by
  unfold pullWindowOver
  split
  case h_1 sl found => rw [if_neg]; simpa [imp_iff_not_or] using other sl found
  case h_2 => rfl

theorem returnWindowOver_of_pending (found : findSlot n s = some sl) (pending : sl.state = .returnPending)
    (window : sl.window.isSome = true) :
    returnWindowOver n s = queueReport (returnOverdueReport sl) (updateSlot n (fun x => { x with window := none }) s) := by
  simp only [returnWindowOver, found, pending, window, and_self, if_true]

theorem returnWindowOver_of_other (other : ∀ sl ∈ findSlot n s, sl.state ≠ .returnPending ∨ sl.window = none) :
    returnWindowOver n s = s := by
  unfold returnWindowOver
  split
  case h_1 sl found => rw [if_neg]; simpa [imp_iff_not_or] using other sl found
  case h_2 => rfl

theorem clearQuarantineAt_of_quarantine (found : findSlot n s = some sl) (state : sl.state = .quarantine) :
    clearQuarantineAt n s = updateSlot n (fun x => { x with state := .occupied, hold := none }) s := by
  simp only [clearQuarantineAt, found, state, if_true]

theorem clearQuarantineAt_of_other (other : ∀ sl ∈ findSlot n s, sl.state ≠ .quarantine) :
    clearQuarantineAt n s = queueReport { kind := .commandRefused, number := n, code := 7 } s := by
  have refused : refuseCommand codeClearQuarantine n 0 s = queueReport { kind := .commandRefused, number := n, code := 7 } s := rfl
  unfold clearQuarantineAt
  split
  case h_1 sl found => rw [if_neg (other sl found), refused]
  case h_2 => exact refused

/-- The slot of a pull window that is over, with its report queued (R90). -/
def pullReported (n m : Nat) (s : State) : State :=
  { pullFailed n s with line := (queueReports [{ kind := .pullUnverified, number := n, consignment := m }] s).line }

/-- The pull window of a slot with a number: its report, and the notice to the record (R90, R117). -/
theorem pullWindowOver_of_number {m : Nat} (distinct : RecordNumbersDistinct s) (found : findSlot n s = some sl)
    (pulled : sl.state = .pulled) (window : sl.window.isSome = true) (number : sl.consignment = some m) :
    pullWindowOver n s =
      noticedState (some m) (fun x => decide (x.slot = n ∧ x.state = .active)) (.failed .pullUnverified)
        (pullReported n m s) := by
  have reported : queueReport { kind := .pullUnverified, number := n, consignment := m } (pullFailed n s) =
      pullReported n m s := queueReports_like (s := s) (t := pullFailed n s) [_] rfl rfl
  rw [pullWindowOver_of_pulled found pulled window, number, Option.getD_some, reported]
  exact noticeOf_eq distinct

theorem findSlot_map {f : Slot → Slot} (h : t.scanner.slots = s.scanner.slots.map f) (number : ∀ o, (f o).number = o.number) :
    findSlot n t = (findSlot n s).map f := by
  have same : (fun o : Slot => o.number == n) ∘ f = fun o => o.number == n := funext fun o => by simp [number]
  rw [findSlot, h, List.find?_map, same]
  rfl

theorem reverted_number (num : Nat) (o : Slot) : (reverted num o).number = o.number := by
  unfold reverted
  dsimp only
  repeat' split
  all_goals rfl

theorem reverted_of_unnumbered {num : Nat} {o : Slot} (h : o.consignment = none) : reverted num o = o := by
  simp [reverted, h]

/-- The slots after a notice: their numbers stay, and a slot with no consignment number is left as it is. -/
theorem findSlot_noticedState {num : Option Nat} {names : Entry → Bool} {st : EntryState} {s : State}
    (found : findSlot n s = some sl) (unnumbered : sl.consignment = none) :
    findSlot n (noticedState num names st s) = some sl := by
  have slots := congrArg Scanner.slots (noticedState_scanner num names st s)
  dsimp only at slots
  unfold slotsAfter at slots
  split at slots
  case h_1 c _ =>
    split at slots
    · rw [findSlot_map slots (reverted_number c.number), found, Option.map_some, reverted_of_unnumbered unnumbered]
    · rw [findSlot, slots]; exact found
  case h_2 => rw [findSlot, slots]; exact found

/-- Settles O40: each event's effect, the pull window of a numbered slot as a notice to its record. -/
theorem windowAndMinuteExpiriesActOnTheirSlots : Obligations.WindowAndMinuteExpiriesActOnTheirSlots := by
  refine ⟨fun s n sl running found pulled window number => ?_,
    fun s n sl m running _ distinct found pulled window number => ?_,
    fun s n sl running found pending window => ?_, fun s n running other => ?_, fun s n running other => ?_,
    fun s running going => ?_, fun s running paused => ?_, fun s f sl ha found state => ?_, fun s f ha other => ?_⟩
  · refine runEvent_to running ((pullWindowOver_of_pulled found pulled window).trans ?_) (queueReport_reportedFire ..)
    rw [number]
    rfl
  · have failed : findSlot n (pullReported n m s) =
        some { sl with state := .unexpectedRemoval, window := none, consignment := none } := by
      rw [findSlot_map (s := s) (f := fun x => if x.number = n then _ else x) rfl fun o => by split <;> rfl, found,
        Option.map_some, if_pos (number_of_findSlot found)]
    have found' := findSlot_noticedState (num := some m) (names := fun x => decide (x.slot = n ∧ x.state = .active))
      (st := .failed .pullUnverified) failed rfl
    refine ⟨_, runEvent_to running (pullWindowOver_of_number distinct found pulled window number)
      (noticedState_reportedFire ..), ?_, ?_, fun c hc other => ?_, fun c record named => ?_, ?_, ?_, ?_, ?_⟩
    · rintro x hx
      exact Option.some.inj (hx.symm.trans found')
    · rw [found']; rfl
    · exact mem_noticedState_consignments _ _ _ (pullReported n m s) hc fun same => other (Option.some.inj same).symm
    · exact findRecord_noticedState _ _ (pullReported n m s) record (by simpa using named)
    · exact noticedState_frame _ _ _ (pullReported n m s)
    · rw [noticedState_line, queueReports_append]
      exact queueReports_line_like _ rfl (reportsGoOut_queueReports s _).symm
    · exact noticedState_scanner _ _ _ (pullReported n m s)
    · exact fun settled => noticedState_custody _ _ _ (pullReported n m s) settled
  · exact runEvent_to running (returnWindowOver_of_pending found pending window) (queueReport_reportedFire ..)
  · exact runEvent_to running (returnWindowOver_of_other other) rfl
  · exact runEvent_to running (pullWindowOver_of_other other) rfl
  · refine (exec_minuteTimerExpiry s).trans (runEvent_to running ((if_neg (by simp [going])).trans rfl) ?_)
    rw [queueReports_frame]
    rfl
  · exact (exec_minuteTimerExpiry s).trans (runEvent_to running (if_pos paused) rfl)
  · exact runEvent_command ha (clearQuarantineAt_of_quarantine (s := heard f s) found state) rfl
  · exact runEvent_command ha (clearQuarantineAt_of_other (s := heard f s) other) (queueReport_reportedFire ..)

end Sys2Proof.Machine
end


section
/-! ## A tag taken by a slot (R83, R92) -/

namespace Sys2Proof.Machine

variable {s t : State} {n : Nat} {sl : Slot} {tag : Tag}

theorem withoutTag_eq_loseTag (o : Slot) : withoutTag tag o = if o.tag = some tag then loseTag o else o := rfl

/-- A slot changed and given a tag: every other slot is without that tag (R83). -/
theorem giveTag_updateSlot {f : Slot → Slot} (number : ∀ o, (f o).number = o.number) :
    giveTag n tag (updateSlot n f s) =
      { s with scanner := { s.scanner with
          slots := s.scanner.slots.map fun o => if o.number = n then { f o with tag := optTag tag } else withoutTag tag o } } := by
  simp only [giveTag, updateSlot, mapSlots, List.map_map]
  congr 2
  refine List.map_congr_left fun o _ => ?_
  by_cases h : o.number = n <;> simp [h, number, withoutTag_eq_loseTag]

/-- The slots once a slot has taken the return of a tag (R92). -/
def slotsReturning (n : Nat) (tag : Tag) (s : State) : List Slot :=
  s.scanner.slots.map fun o =>
    if o.number = n then
      { o with state := .returnPending, expected := none, window := some s.cfg.returnWindow, tag := some tag }
    else withoutTag tag o

theorem awaits_iff : awaits tag sl = true ↔ sl.state = .awaited ∧ sl.expected = some tag := by
  simp [awaits]

/-- The return request of an AWAITED slot with the tag is taken (R92). -/
theorem returnRequest_of_awaited (known : tag ≠ 0) (found : findSlot n s = some sl) (awaited : awaits tag sl = true) :
    returnRequest n tag s = some { s with scanner := { s.scanner with slots := slotsReturning n tag s } } := by
  have given : optTag tag = some tag := if_neg known
  simp only [returnRequest, found, awaited, if_true]
  rw [giveTag_updateSlot (s := s) (by exact fun _ => rfl), given]
  rfl

/-- The return request of any other slot is refused (R92). -/
theorem returnRequest_of_other (other : ∀ sl ∈ findSlot n s, sl.state ≠ .awaited ∨ sl.expected ≠ some tag) :
    returnRequest n tag s = none := by
  unfold returnRequest
  split
  case h_1 sl found =>
    rw [if_neg]
    rw [awaits_iff]
    exact fun h => (other sl found).elim (· h.1) (· h.2)
  case h_2 => rfl

end Sys2Proof.Machine
end

section
/-! ## A disputed entry (R144, R145) -/

namespace Sys2Proof.Machine

variable {s t u : State} {tag : Tag} {e : CustodyEntry}

/-- The entries that the disputed notice names: those of the tag in progress (R120). -/
def inProgressWith (tag : Tag) (x : Entry) : Bool := decide (x.tag = some tag ∧ (x.state = .waiting ∨ x.state = .active))

theorem progressWith_eq (tag : Tag) : progressWith tag = inProgressWith tag := by
  funext x
  simp [progressWith, inProgressWith, Entry.inProgress, beq_eq_decide]

/-- An entry made DISPUTED, its number, its wait, its timer and its owed frame cleared (R144, R145). -/
def CustodyEntry.toDisputed (x : CustodyEntry) : CustodyEntry :=
  { x with state := .disputed, consignment := none, wait := .none, timer := none, owed := none }

/-- The custody list once the entry of a tag is DISPUTED and the offering rule has been looked at (R135). -/
def disputeMark (tag : Tag) (s : State) (x : CustodyEntry) : CustodyEntry :=
  settleOffer s (if x.tag = tag then x.toDisputed else x)

/-- The state in which the disputed notice is given. -/
def disputedState (tag : Tag) (r : Report) (s : State) : State :=
  { s with custody := { s.custody with entries := s.custody.entries.map (disputeMark tag s) },
           line := (queueReports [r] s).line }

theorem disputeEntry_eq (records : RecordNumbersDistinct s) (cause : DisputeCause) :
    disputeEntry e cause s =
      noticedState e.consignment (inProgressWith e.tag) (.failed .disputed)
        (disputedState e.tag (custodyReport .disputed e cause.code) s) := by
  have before : clearNumber e.tag (queueReport (custodyReport .disputed e cause.code)
      (updateCustody e.tag (fun e => { e with state := .disputed, timer := none, owed := none }) s)) =
      disputedState e.tag (custodyReport .disputed e cause.code) s := by
    rw [← queueReports_singleton, queueReports_like (s := s)
      (t := updateCustody e.tag (fun e => { e with state := .disputed, timer := none, owed := none }) s) _ rfl rfl]
    simp only [clearNumber, settleOffers, updateCustody, mapCustody, withCustody, disputedState, List.map_map]
    congr 2
    refine List.map_congr_left fun x _ => ?_
    by_cases h : x.tag = e.tag <;> simp [disputeMark, CustodyEntry.toDisputed, CustodyEntry.dropNumber, h] <;> rfl
  rw [disputeEntry, disputedNotice, progressWith_eq, before]
  exact noticeOf_eq records

/-! ### What comes of a disputed entry -/

/-- What the statement asks of the state `t` that a dispute of the entry `e` makes of `s`: the entry is `after`, `r` is
reported after what `told` has reported, and the notice to the record of its number follows (R120, R128, R144). -/
def DisputeOutcome (tag : Tag) (e after : CustodyEntry) (r : Report) (told s t : State) : Prop :=
  (∃ x ∈ t.custody.entries, x.tag = tag ∧ x.state = .disputed ∧ x.consignment = none ∧ x.timer = none ∧
    x.owed = none ∧ x.slot = e.slot ∧ x.hold = e.hold ∧ x.quarantine = e.quarantine) ∧
  (∀ m ∈ e.consignment, ∀ c ∈ findRecord m s,
    (∃ x ∈ c.entries, x.tag = some tag ∧ (x.state = .waiting ∨ x.state = .active)) →
    findRecord m t =
      (if c.state ≠ .opening ∧ ∀ x ∈ setFirst (inProgressWith tag) (.failed .disputed) c.entries,
          x.state ≠ .waiting ∧ x.state ≠ .active then none
       else some { c with entries := setFirst (inProgressWith tag) (.failed .disputed) c.entries })) ∧
  (∀ c ∈ s.consignments, e.consignment ≠ some c.number → c ∈ t.consignments) ∧
  (∀ x ∈ t.custody.entries, x.tag = tag ∨ ∃ y ∈ s.custody.entries, y.tag = x.tag ∧ y.state = x.state) ∧
  t.scanner = { s.scanner with
    slots := slotsAfter (closedByNotice e.consignment (inProgressWith tag) (.failed .disputed) s) s.role s.scanner.slots } ∧
  (OffersSettled s → t.custody = { s.custody with
    entries := custodyAfter (closedByNotice e.consignment (inProgressWith tag) (.failed .disputed) s)
      (s.custody.entries.map fun x => if x.tag = tag then after else x) }) ∧
  t = { s with custody := t.custody, consignments := t.consignments, scanner := t.scanner, line := t.line } ∧
  t.line = (queueReports ([r] ++ noticeReports e.consignment (inProgressWith tag) (.failed .disputed) s) told).line

theorem DisputeOutcome.reportedFire {after : CustodyEntry} {r : Report} {told : State}
    (h : DisputeOutcome tag e after r told s t) : reportedFire t = reportedFire s := by
  obtain ⟨-, -, -, -, -, -, frame, -⟩ := h
  rw [frame]
  rfl

/-- The state with the custody list changed entry by entry and another line record. -/
def withEntries (k : CustodyEntry → CustodyEntry) (l : LineController) (s : State) : State :=
  { s with custody := { s.custody with entries := s.custody.entries.map k }, line := l }

/-- A notice to the number of `e` in a state whose custody list is that of `s` but for the entry of the tag, which is
`after`, and whose line record is the one of `told` with `r` queued. -/
theorem disputeOutcome_noticedState {after : CustodyEntry} {r : Report} {told : State} {k : CustodyEntry → CustodyEntry}
    (he : e ∈ s.custody.entries) (gate : reportsGoOut told = reportsGoOut s)
    (named : ∀ x ∈ s.custody.entries, x.tag = tag → k x = after)
    (others : ∀ x ∈ s.custody.entries, x.tag ≠ tag → (k x).tag = x.tag ∧ (k x).state = x.state)
    (settles : OffersSettled s → ∀ x ∈ s.custody.entries, x.tag ≠ tag → k x = x)
    (htag : e.tag = tag) (hafter : after.tag = tag ∧ after.state = .disputed ∧ after.consignment = none ∧
      after.timer = none ∧ after.owed = none ∧ after.slot = e.slot ∧ after.hold = e.hold ∧ after.quarantine = e.quarantine) :
    DisputeOutcome tag e after r told s (noticedState e.consignment (inProgressWith tag) (.failed .disputed)
      (withEntries k (queueReports [r] told).line s)) := by
  generalize hu : withEntries k (queueReports [r] told).line s = u
  have entries : u.custody.entries = s.custody.entries.map k := hu ▸ rfl
  obtain ⟨atag, astate, anumber, -⟩ := id hafter
  have mapped (settled : OffersSettled s) :
      s.custody.entries.map k = s.custody.entries.map fun x => if x.tag = tag then after else x :=
    List.map_congr_left fun x hx => by
      split
      case isTrue h => exact named x hx h
      case isFalse h => exact settles settled x hx h
  have settled_u (settled : OffersSettled s) : OffersSettled u := by
    subst hu
    refine List.forall_mem_map.2 fun x hx held => ?_
    by_cases h : x.tag = tag
    · rw [named x hx h, astate] at held
      cases held
    · rw [settles settled x hx h] at held ⊢
      exact settled x hx held
  refine ⟨⟨after, mem_noticedState_custody _ _ _ u ?_ anumber (by simp [astate]), hafter⟩, ?_, ?_, ?_, ?_, ?_, ?_, ?_⟩
  · exact entries ▸ List.mem_map.2 ⟨e, he, named e he htag⟩
  · intro m number c found hx
    subst hu
    rw [number]
    exact findRecord_noticedState _ _ _ found (by simpa [inProgressWith] using hx)
  · subst hu
    exact fun c hc other => mem_noticedState_consignments _ _ _ (withEntries ..) hc other
  · intro x hx
    obtain ⟨y, hy, same⟩ := noticedState_custody_mem _ _ _ u x hx
    obtain ⟨z, hz, rfl⟩ := List.mem_map.1 (entries ▸ hy)
    by_cases h : z.tag = tag
    · exact .inl (same.1 ▸ (named z hz h) ▸ atag)
    · exact .inr ⟨z, hz, (others z hz h).1 ▸ same.1, (others z hz h).2 ▸ same.2⟩
  · subst hu
    exact noticedState_scanner _ _ _ (withEntries ..)
  · intro settled
    rw [noticedState_custody _ _ _ u (settled_u settled), entries, mapped settled, ← hu]
    rfl
  · subst hu
    exact noticedState_frame _ _ _ (withEntries ..)
  · subst hu
    rw [noticedState_line, queueReports_append]
    exact queueReports_line_like (s := queueReports [r] told) _ rfl (gate.symm.trans (reportsGoOut_queueReports told _).symm)

/-- The entry of a tag is the only one, where the tags are distinct. -/
theorem eq_of_findCustody (tags : CustodyTagsDistinct s) (found : findCustody tag s = some e) {x : CustodyEntry}
    (hx : x ∈ s.custody.entries) (h : x.tag = tag) : x = e :=
  List.inj_on_of_nodup_map tags hx (List.mem_of_find?_eq_some found) (h.trans (tag_of_findCustody found).symm)

/-- A dispute of an entry of the list. -/
theorem disputeOutcome_disputeEntry (tags : CustodyTagsDistinct s) (records : RecordNumbersDistinct s)
    (found : findCustody tag s = some e) (cause : DisputeCause) :
    DisputeOutcome tag e e.toDisputed (custodyReport .disputed e cause.code) s s (disputeEntry e cause s) := by
  have htag := tag_of_findCustody found
  have state : disputedState tag (custodyReport .disputed e cause.code) s =
      withEntries (disputeMark tag s) (queueReports [custodyReport .disputed e cause.code] s).line s := rfl
  rw [disputeEntry_eq records, htag, state]
  refine disputeOutcome_noticedState (List.mem_of_find?_eq_some found) rfl (fun x hx h => ?_) (fun x hx h => ?_)
    (fun settled x hx h => ?_) htag ⟨htag, rfl, rfl, rfl, rfl, rfl, rfl, rfl⟩
  · rw [disputeMark, if_pos h, eq_of_findCustody tags found hx h]
    rfl
  · rw [disputeMark, if_neg h]
    exact ⟨settleOffer_tag s x, settleOffer_state s x⟩
  · rw [disputeMark, if_neg h]
    exact settleOffer_of_settled settled rfl hx

end Sys2Proof.Machine
end

section
/-! ## A claim confirmed (R145) -/

namespace Sys2Proof.Machine

variable {s t u : State} {tag : Tag} {e : CustodyEntry}

/-- An entry confirmed by CLEARED: HELD with no peer, and so it owes nothing (R135, R145). -/
def CustodyEntry.confirmed (e : CustodyEntry) : CustodyEntry :=
  { e with state := .held, peer := none, timer := none, owed := none }

theorem settleOffer_confirmed : settleOffer s e.confirmed = e.confirmed := by
  have owes : offerOwed s e.confirmed = false := by
    unfold offerOwed
    cases h : e.confirmed.consignment <;> simp [CustodyEntry.confirmed]
  rw [settleOffer, owes]
  rfl

/-- What a confirmation makes of each entry of the list. -/
def confirmMark (e : CustodyEntry) (s : State) (x : CustodyEntry) : CustodyEntry :=
  if x.tag = e.tag then e.confirmed else settleOffer s x

/-- The confirmed state, before the slot or the record is told. -/
def confirmedState (e : CustodyEntry) (s : State) : State := withEntries (confirmMark e s) s.line s

theorem confirmedState_eq : settleOffers (updateCustody e.tag (fun _ => e.confirmed) s) = confirmedState e s := by
  simp only [settleOffers, updateCustody, mapCustody, withCustody, confirmedState, withEntries, List.map_map]
  congr 2
  refine List.map_congr_left fun x _ => ?_
  by_cases h : x.tag = e.tag
  · simp only [Function.comp_apply, if_pos h, confirmMark]
    exact settleOffer_confirmed
  · simp only [Function.comp_apply, if_neg h, confirmMark]
    rfl

/-- Where the entries owe what they should, only the confirmed one changes (R135). -/
theorem confirmedState_of_settled (settled : OffersSettled s) :
    confirmedState e s = { s with custody := { s.custody with
      entries := s.custody.entries.map fun x => if x.tag = e.tag then e.confirmed else x } } := by
  have entries : s.custody.entries.map (confirmMark e s) =
      s.custody.entries.map fun x => if x.tag = e.tag then e.confirmed else x :=
    List.map_congr_left fun x hx => by rw [confirmMark, settleOffer_of_settled settled rfl hx]
  rw [confirmedState, withEntries, entries]

theorem setFirst_some {names : Entry → Bool} {st : EntryState} {l : List Entry} (h : l.any names = true) :
    ∃ x ∈ setFirst names st l, x.state = st := by
  induction l with
  | nil => cases h
  | cons a l ih =>
    unfold setFirst
    split
    case isTrue => exact ⟨_, List.mem_cons_self, rfl⟩
    case isFalse hn =>
      obtain ⟨x, hx, hs⟩ := ih (by simpa [hn] using h)
      exact ⟨x, List.mem_cons_of_mem _ hx, hs⟩

/-- The entries that the received notice names: those of the tag in WAITING (R120). -/
def isWaitingWith (tag : Tag) (x : Entry) : Bool := decide (x.tag = some tag ∧ x.state = .waiting)

theorem waitingWith_eq (tag : Tag) : waitingWith tag = isWaitingWith tag := by
  funext x
  simp [waitingWith, isWaitingWith, beq_eq_decide]

/-- A record with an entry just made ACTIVE does not close (R128). -/
theorem closedByNotice_active (num : Option Nat) (names : Entry → Bool) : closedByNotice num names .active s = none := by
  unfold closedByNotice
  rw [Option.filter_eq_none_iff]
  intro c _
  rw [decide_eq_true_eq]
  rintro ⟨named, -, none⟩
  obtain ⟨x, hx, active⟩ := setFirst_some (st := .active) named
  exact (none x hx).2 active

/-- The received notice: in the OUTBOUND record of the number the first WAITING entry of the tag becomes ACTIVE (R120). -/
theorem receivedNotice_eq (records : RecordNumbersDistinct s) (num : Option Nat) (tag : Tag) :
    receivedNotice num tag s =
      { s with consignments := s.consignments.map fun c =>
          if num = some c.number ∧ c.direction = .outbound then
            { c with entries := setFirst (isWaitingWith tag) .active c.entries }
          else c } := by
  cases num with
  | none => simp [receivedNotice]
  | some n =>
    rw [receivedNotice, waitingWith_eq]
    split
    case isTrue found =>
      obtain ⟨d, hd, hn, outbound⟩ : ∃ d ∈ s.consignments, d.number = n ∧ d.direction = .outbound := by simpa using found
      have noticed : notice n (isWaitingWith tag) .active s = _ := noticeOf_eq (num := some n) records
      rw [noticed, noticedState, closedByNotice_active]
      dsimp only
      congr 1
      refine List.map_congr_left fun c hc => ?_
      by_cases h : n = c.number
      · have same : c = d := List.inj_on_of_nodup_map records hc hd (h.symm.trans hn.symm)
        rw [same, outbound]
        simp
      · simp [h]
    case isFalse absent =>
      have none : ∀ c ∈ s.consignments, ¬ (some n = some c.number ∧ c.direction = .outbound) := by
        rintro c hc ⟨h, outbound⟩
        exact absent (List.any_eq_true.2 ⟨c, hc, by simp [Option.some.inj h, outbound]⟩)
      have same : (s.consignments.map fun c =>
          if some n = some c.number ∧ c.direction = .outbound then
            { c with entries := setFirst (isWaitingWith tag) .active c.entries } else c) = s.consignments :=
        (List.map_congr_left fun c hc => if_neg (none c hc)).trans (List.map_id _)
      rw [same]

/-- A claim confirmed, through the state in which the slot or the record is told (R145). -/
theorem confirmTaking_eq :
    confirmTaking e s =
      if s.role = .bay then
        (returnRequest (e.slot.getD 0) e.tag (confirmedState e s)).getD (disputeEntry e.confirmed .slot (confirmedState e s))
      else receivedNotice e.consignment e.tag (confirmedState e s) := by
  have state := confirmedState_eq (e := e) (s := s)
  unfold confirmTaking
  dsimp only
  unfold CustodyEntry.confirmed at state ⊢
  rw [state]
  refine if_congr Iff.rfl ?_ rfl
  cases returnRequest (e.slot.getD 0) e.tag (confirmedState e s) <;> rfl

/-- A claim confirmed at the dock (R145). -/
theorem confirmTaking_dock (dock : s.role = .dock) (records : RecordNumbersDistinct s) (settled : OffersSettled s)
    (htag : e.tag = tag) :
    confirmTaking e s =
      { s with
        custody := { s.custody with
          entries := s.custody.entries.map fun x => if x.tag = tag then e.confirmed else x },
        consignments := s.consignments.map fun c =>
          if e.consignment = some c.number ∧ c.direction = .outbound then
            { c with entries := setFirst (isWaitingWith tag) .active c.entries }
          else c } := by
  subst htag
  rw [confirmTaking_eq, if_neg (by simp [dock]), receivedNotice_eq (s := confirmedState e s) records, confirmedState_of_settled settled]

/-- A claim confirmed at a bay whose slot takes the tag (R92, R145). -/
theorem confirmTaking_returned {n : Nat} {sl : Slot} (bay : s.role = .bay) (settled : OffersSettled s) (htag : e.tag = tag)
    (known : tag ≠ 0) (slot : e.slot = some n) (found : findSlot n s = some sl) (awaited : awaits tag sl = true) :
    confirmTaking e s =
      { s with
        custody := { s.custody with
          entries := s.custody.entries.map fun x => if x.tag = tag then e.confirmed else x },
        scanner := { s.scanner with slots := slotsReturning n tag s } } := by
  subst htag
  rw [confirmTaking_eq, if_pos bay, slot, Option.getD_some,
    returnRequest_of_awaited (s := confirmedState e s) known found awaited, confirmedState_of_settled settled]
  rfl

/-- A claim confirmed at a bay whose slot cannot take the tag: a dispute with cause SLOT and no peer (log 23). -/
theorem disputeOutcome_confirmTaking (bay : s.role = .bay) (records : RecordNumbersDistinct s)
    (found : findCustody tag s = some e)
    (other : ∀ sl ∈ findSlot (e.slot.getD 0) s, sl.state ≠ .awaited ∨ sl.expected ≠ some tag) :
    DisputeOutcome tag e e.confirmed.toDisputed (custodyReport .disputed e.confirmed 4) s s (confirmTaking e s) := by
  have htag := tag_of_findCustody found
  have refused : returnRequest (e.slot.getD 0) e.tag (confirmedState e s) = none :=
    returnRequest_of_other (s := confirmedState e s) (htag ▸ other)
  rw [confirmTaking_eq, if_pos bay, refused, Option.getD_none, disputeEntry_eq (s := confirmedState e s) records]
  have line : (queueReports [custodyReport .disputed e.confirmed 4] (confirmedState e s)).line =
      (queueReports [custodyReport .disputed e.confirmed 4] s).line := queueReports_line_like _ rfl rfl
  have state : disputedState e.tag (custodyReport .disputed e.confirmed 4) (confirmedState e s) =
      withEntries (disputeMark tag s ∘ confirmMark e s) (queueReports [custodyReport .disputed e.confirmed 4] s).line s := by
    rw [disputedState, line, htag, withEntries, ← List.map_map]
    rfl
  have other_tag (x : CustodyEntry) (h : x.tag ≠ tag) :
      (disputeMark tag s ∘ confirmMark e s) x = settleOffer s (settleOffer s x) := by
    rw [Function.comp_apply, confirmMark, if_neg (htag ▸ h), disputeMark, settleOffer_tag, if_neg h]
  change DisputeOutcome tag e _ _ s s (noticedState e.consignment (inProgressWith e.tag) _
    (disputedState e.tag (custodyReport .disputed e.confirmed 4) (confirmedState e s)))
  rw [state, htag]
  refine disputeOutcome_noticedState (List.mem_of_find?_eq_some found) rfl (fun x hx h => ?_) (fun x hx h => ?_)
    (fun settled x hx h => ?_) htag ⟨htag, rfl, rfl, rfl, rfl, rfl, rfl, rfl⟩
  · have same : e.confirmed.tag = tag := htag
    rw [Function.comp_apply, confirmMark, if_pos (h.trans htag.symm), disputeMark, if_pos same]
    rfl
  · rw [other_tag x h]
    simp only [settleOffer_tag, settleOffer_state, and_self]
  · rw [other_tag x h, settleOffer_of_settled settled rfl hx, settleOffer_of_settled settled rfl hx]

end Sys2Proof.Machine
end

section
/-! ## O51: the taker's frames and timers (R142, R144, R145) -/

namespace Sys2Proof.Machine

variable {s t u : State} {tag : Tag} {e : CustodyEntry} {f : Frame}

theorem entryFrom_eq_some {n : Nat} :
    entryFrom n (optTag tag) s = some e ↔ tag ≠ 0 ∧ findCustody tag s = some e ∧ e.peer = some n := by
  unfold entryFrom optTag
  by_cases zero : tag = 0
  · simp [zero]
  · simp only [zero, if_false, custodyNamed_some, ne_eq, not_false_eq_true, true_and]
    cases findCustody tag s with
    | none => simp
    | some x => by_cases h : x.peer = some n <;> simp [h] <;> grind

theorem takenState_of_other {n : Nat} (other : tag = 0 ∨ ∀ e ∈ findCustody tag s, e.peer ≠ some n ∨ e.state ≠ .taking)
    (found : entryFrom n (optTag tag) s = some e) : e.state ≠ .taking := by
  obtain ⟨known, found, peer⟩ := entryFrom_eq_some.1 found
  exact ((other.resolve_left known) e found).resolve_left (not_not.2 peer)

theorem takeCleared_of_taking (known : handoverTag f.payload ≠ 0) (found : findCustody (handoverTag f.payload) s = some e)
    (peer : e.peer = some f.src.toNat) (taking : e.state = .taking) :
    takeCleared (sourceOf f) f.payload s = confirmTaking e s := by
  have named : entryFrom (sourceOf f) (handoverNames f.payload) s = some e := entryFrom_eq_some.2 ⟨known, found, peer⟩
  simp only [takeCleared, named, taking, if_true]

theorem takeCleared_of_other (other : handoverTag f.payload = 0 ∨
    ∀ e ∈ findCustody (handoverTag f.payload) s, e.peer ≠ some f.src.toNat ∨ e.state ≠ .taking) :
    takeCleared (sourceOf f) f.payload s = s := by
  unfold takeCleared
  split
  case h_1 named => exact if_neg (takenState_of_other other named)
  case h_2 => rfl

theorem takeLate_of_taking (known : handoverTag f.payload ≠ 0) (found : findCustody (handoverTag f.payload) s = some e)
    (peer : e.peer = some f.src.toNat) (taking : e.state = .taking) :
    takeLate (sourceOf f) f.payload s = disputeEntry e .late s := by
  have named : entryFrom (sourceOf f) (handoverNames f.payload) s = some e := entryFrom_eq_some.2 ⟨known, found, peer⟩
  simp only [takeLate, named, taking, if_true]

theorem takeLate_of_other (other : handoverTag f.payload = 0 ∨
    ∀ e ∈ findCustody (handoverTag f.payload) s, e.peer ≠ some f.src.toNat ∨ e.state ≠ .taking) :
    takeLate (sourceOf f) f.payload s = s := by
  unfold takeLate
  split
  case h_1 named => exact if_neg (takenState_of_other other named)
  case h_2 => rfl

theorem takeWithdraw_of_taking (known : handoverTag f.payload ≠ 0)
    (found : findCustody (handoverTag f.payload) s = some e) (peer : e.peer = some f.src.toNat)
    (taking : e.state = .taking) : takeWithdraw (sourceOf f) f.payload s = disputeEntry e .withdrawn s := by
  have named : entryFrom (sourceOf f) (handoverNames f.payload) s = some e := entryFrom_eq_some.2 ⟨known, found, peer⟩
  simp only [takeWithdraw, named, taking, if_true]

theorem takeWithdraw_of_expected (known : handoverTag f.payload ≠ 0)
    (found : findCustody (handoverTag f.payload) s = some e) (peer : e.peer = some f.src.toNat)
    (expected : e.state = .expected) :
    takeWithdraw (sourceOf f) f.payload s = removeCustody (handoverTag f.payload) s := by
  have named : entryFrom (sourceOf f) (handoverNames f.payload) s = some e := entryFrom_eq_some.2 ⟨known, found, peer⟩
  simp only [takeWithdraw, named, expected, reduceCtorEq, if_false, if_true, tag_of_findCustody found]

theorem takeWithdraw_of_other (other : handoverTag f.payload = 0 ∨
    ∀ e ∈ findCustody (handoverTag f.payload) s, e.peer ≠ some f.src.toNat ∨ (e.state ≠ .taking ∧ e.state ≠ .expected)) :
    takeWithdraw (sourceOf f) f.payload s = s := by
  unfold takeWithdraw
  split
  case h_1 e named =>
    obtain ⟨known, found, peer⟩ := entryFrom_eq_some.1 named
    obtain ⟨taking, expected⟩ := ((other.resolve_left known) e found).resolve_left (not_not.2 peer)
    rw [if_neg taking, if_neg expected]
  case h_2 => rfl

theorem lapseOver_of_expected (found : findCustody tag s = some e) (expected : e.state = .expected)
    (timer : e.timer.isSome = true) :
    lapseOver tag s = queueReport (custodyReport .expectedLapsed e 0) (removeCustody tag s) := by
  simp only [lapseOver, found, expected, timer, and_self, if_true]

theorem lapseOver_of_other (other : ∀ e ∈ findCustody tag s, e.state ≠ .expected ∨ e.timer = none) :
    lapseOver tag s = s := by
  unfold lapseOver
  split
  case h_1 e found => rw [if_neg]; simpa [imp_iff_not_or] using other e found
  case h_2 => rfl

theorem confirmOver_of_taking (found : findCustody tag s = some e) (taking : e.state = .taking)
    (timer : e.timer.isSome = true) :
    confirmOver tag s =
      if e.attempts < 3 then
        updateCustody tag (fun e => { e with timer := none, attempts := e.attempts + 1, owed := some .taken }) s
      else disputeEntry e .noAnswer s := by
  simp only [confirmOver, found, taking, timer, and_self, if_true]

theorem confirmOver_of_other (other : ∀ e ∈ findCustody tag s, e.state ≠ .taking ∨ e.timer = none) :
    confirmOver tag s = s := by
  unfold confirmOver
  split
  case h_1 e found => rw [if_neg]; simpa [imp_iff_not_or] using other e found
  case h_2 => rfl

/-- The report of a dispute, field by field (R149). -/
theorem custodyReport_disputed {n code : Nat} (peer : e.peer = some n) (htag : e.tag = tag) :
    custodyReport .disputed e code =
      { kind := .disputed, number := n, consignment := e.consignment.getD 0, tag := tag, code := code } := by
  rw [custodyReport, peer, htag]
  rfl

/-- Settles O51: each event is one step of the entry that the frame or the timer names. -/
theorem takerEntriesFollowClearedLateWithdrawAndTimers : Obligations.TakerEntriesFollowClearedLateWithdrawAndTimers := by
  refine ⟨fun s f e ha dock settled records known found peer taking => ?_,
    fun s f e n sl ha bay settled known found peer taking slot hsl awaited expects => ?_,
    fun s f e ha bay tags records known found peer taking other => ?_,
    fun s f e ha tags records known found peer taking => ?_, fun s f e ha tags records known found peer taking => ?_,
    fun s f e ha known found peer expected => ?_, fun s f ha other => ?_, fun s f ha other => ?_, fun s f ha other => ?_,
    fun s tag e running found expected timer => ?_, fun s tag running other => ?_,
    fun s tag e running found taking timer few => ?_, fun s tag e running tags records found taking timer many => ?_,
    fun s tag running other => ?_⟩
  · have htag := tag_of_findCustody found
    exact runEvent_accepted ha ((takeCleared_of_taking (s := heard f s) known found peer taking).trans
      (confirmTaking_dock (s := heard f s) dock records settled htag)) rfl
  · have htag := tag_of_findCustody found
    exact runEvent_accepted ha ((takeCleared_of_taking (s := heard f s) known found peer taking).trans
      (confirmTaking_returned (s := heard f s) bay settled htag known slot hsl (awaits_iff.2 ⟨awaited, expects⟩))) rfl
  · have outcome := disputeOutcome_confirmTaking (s := heard f s) bay records found other
    have report : custodyReport .disputed e.confirmed 4 =
        { kind := .disputed, number := 0, consignment := e.consignment.getD 0, tag := tagAt f.payload 2, code := 4 } := by
      rw [← tag_of_findCustody found]
      rfl
    rw [report] at outcome
    exact ⟨_, runEvent_accepted ha (takeCleared_of_taking (s := heard f s) known found peer taking) outcome.reportedFire,
      outcome⟩
  · have outcome := disputeOutcome_disputeEntry (s := heard f s) tags records found .late
    rw [custodyReport_disputed peer (tag_of_findCustody found)] at outcome
    exact ⟨_, runEvent_accepted ha (takeLate_of_taking (s := heard f s) known found peer taking) outcome.reportedFire,
      outcome⟩
  · have outcome := disputeOutcome_disputeEntry (s := heard f s) tags records found .withdrawn
    rw [custodyReport_disputed peer (tag_of_findCustody found)] at outcome
    exact ⟨_, runEvent_accepted ha (takeWithdraw_of_taking (s := heard f s) known found peer taking)
      outcome.reportedFire, outcome⟩
  · exact runEvent_accepted ha (takeWithdraw_of_expected (s := heard f s) known found peer expected) rfl
  · exact runEvent_accepted ha (takeCleared_of_other (s := heard f s) other) rfl
  · exact runEvent_accepted ha (takeLate_of_other (s := heard f s) other) rfl
  · exact runEvent_accepted ha (takeWithdraw_of_other (s := heard f s) other) rfl
  · exact runEvent_to running (lapseOver_of_expected found expected timer) (queueReport_reportedFire ..)
  · exact runEvent_to running (lapseOver_of_other other) rfl
  · exact runEvent_to running ((confirmOver_of_taking found taking timer).trans (if_pos few)) rfl
  · have outcome := disputeOutcome_disputeEntry tags records found .noAnswer
    rw [custodyReport, tag_of_findCustody found] at outcome
    exact ⟨_, runEvent_to running ((confirmOver_of_taking found taking timer).trans (if_neg (Nat.not_lt.2 many)))
      outcome.reportedFire, outcome⟩
  · exact runEvent_to running (confirmOver_of_other other) rfl

end Sys2Proof.Machine
end


section
/-! ## O52: RESOLVE, QUERY, COMMAND_INVALID and the console source (R148, R169, R180) -/

namespace Sys2Proof.Machine

variable {s t : State} {tag : Tag} {e : CustodyEntry} {f : Frame} {args : List Byte}

/-! ### The console source (R169) -/

/-- A frame for the console alone does nothing from another source. -/
theorem consoleOnly_otherSource (act : State → State) (hc : ¬ FromConsole f s) :
    consoleOnly f act (heard f s) = heard f s := by
  have other : fromConsole f (heard f s) ≠ true := by simpa [fromConsole, sourceOf, heard, FromConsole] using hc
  exact if_neg other

theorem runEvent_otherSource {kind : Byte} {act : State → State} (ha : Accepted kind f s) (hc : ¬ FromConsole f s) :
    runEvent (receive kind f (consoleOnly f act)) s = .next (heard f s) :=
  runEvent_accepted ha (consoleOnly_otherSource act hc) rfl

theorem runEvent_command_otherSource {code : Byte} {act : List Byte → State → State}
    (ha : Accepted kindCommand (commandFrame code f) s) (hc : ¬ FromConsole f s) :
    runEvent (receiveCommand code f act) s = .next (heard f s) :=
  runEvent_accepted ha (consoleOnly_otherSource _ hc) rfl

/-! ### RESOLVE (R148) -/

theorem resolvable_iff :
    resolvable e = true ↔ e.state = .adrift ∨ e.state = .disputed ∨ (e.state = .held ∧ e.consignment = none) := by
  simp [resolvable, or_assoc]

theorem custodyNamed_optTag (known : tag ≠ 0) : custodyNamed (optTag tag) s = findCustody tag s := by
  rw [optTag, if_neg known, custodyNamed_some]

/-- What a KEEP makes of each custody entry: the one of the tag is HELD, and one that is HELD already stays (log 37). -/
theorem updateCustody_keptEntry (tag : Tag) (s : State) :
    updateCustody tag keptEntry s =
      { s with custody := { s.custody with
          entries := s.custody.entries.map fun x =>
            if x.tag = tag ∧ x.state ≠ .held then
              { x with state := .held, peer := none, consignment := none, wait := .none, timer := none, attempts := 0,
                       owed := none }
            else x } } := by
  have each (x : CustodyEntry) : (if x.tag = tag then keptEntry x else x) = if x.tag = tag ∧ x.state ≠ .held then
      { x with state := .held, peer := none, consignment := none, wait := .none, timer := none, attempts := 0,
               owed := none } else x := by
    by_cases named : x.tag = tag <;> by_cases held : x.state = .held <;> simp [keptEntry, named, held]
  simp only [updateCustody, mapCustody, withCustody, each]

theorem resolveWith_keep (known : tagAt args 0 ≠ 0) (found : findCustody (tagAt args 0) s = some e)
    (allowed : resolvable e = true) (action : byteAt args 8 = 1) :
    resolveWith args s = returnKept (tagAt args 0) (updateCustody (tagAt args 0) keptEntry s) := by
  simp only [resolveWith, custodyNamed_optTag known, found]
  exact if_pos ⟨allowed, by rw [action]; rfl⟩

theorem resolveWith_drop (known : tagAt args 0 ≠ 0) (found : findCustody (tagAt args 0) s = some e)
    (allowed : resolvable e = true) (action : byteAt args 8 = 2) :
    resolveWith args s = removeCustody (tagAt args 0) s := by
  have two : (byteAt args 8).toNat = 2 := by rw [action]; rfl
  simp only [resolveWith, custodyNamed_optTag known, found, allowed, two, and_self, if_true, OfNat.ofNat_ne_one,
    and_false, if_false]

/-- A RESOLVE of another action, or for no entry it can resolve, is refused. -/
theorem resolveWith_refused (other : (byteAt args 8 ≠ 1 ∧ byteAt args 8 ≠ 2) ∨ tagAt args 0 = 0 ∨
      ∀ e ∈ findCustody (tagAt args 0) s, e.state ≠ .adrift ∧ e.state ≠ .disputed ∧
        (e.state ≠ .held ∨ e.consignment ≠ none)) :
    resolveWith args s = queueReport { kind := .commandRefused, tag := tagAt args 0, code := 8 } s := by
  have refused : refuseCommand codeResolve 0 (tagAt args 0) s =
      queueReport { kind := .commandRefused, tag := tagAt args 0, code := 8 } s := rfl
  have action (n : Nat) (h : byteAt args 8 ≠ BitVec.ofNat 8 n) (small : n < 256) : (byteAt args 8).toNat ≠ n := fun same =>
    h (BitVec.eq_of_toNat_eq (by rw [same, BitVec.toNat_ofNat, Nat.mod_eq_of_lt small]))
  simp only [resolveWith, refused]
  split
  case h_1 e named =>
    have unresolved : ¬ (resolvable e = true ∧ ((byteAt args 8).toNat = 1 ∨ (byteAt args 8).toNat = 2)) := by
      rintro ⟨allowed, acts⟩
      rcases other with ⟨keep, drop⟩ | absent | none
      · exact acts.elim (action 1 keep (by decide)) (action 2 drop (by decide))
      · rw [absent] at named
        cases named
      · have known : tagAt args 0 ≠ 0 := ((optTag_eq_some ..).1 (custodyNamed_mem named).2).2
        rw [custodyNamed_optTag known] at named
        obtain ⟨adrift, disputed, held⟩ := none e named
        rcases resolvable_iff.1 allowed with h | h | ⟨state, number⟩
        · exact adrift h
        · exact disputed h
        · exact held.elim (· state) (· number)
    rw [if_neg fun h => unresolved ⟨h.1, .inl h.2⟩, if_neg fun h => unresolved ⟨h.1, .inr h.2⟩]
  case h_2 => rfl

/-- No slot of a bay awaits the tag that is kept: no return request (log 38). -/
theorem returnKept_of_none (none : s.role = .bay → ∀ o ∈ s.scanner.slots, o.state ≠ .awaited ∨ o.expected ≠ some tag) :
    returnKept tag s = s := by
  unfold returnKept
  split
  case isTrue bay =>
    split
    case h_1 sl found =>
      have awaited := List.find?_some found
      rw [awaits_iff] at awaited
      exact ((none bay sl (List.mem_of_find?_eq_some found)).elim (absurd awaited.1) (absurd awaited.2))
    case h_2 => rfl
  case isFalse => rfl

/-- The first slot of a bay that awaits the tag that is kept takes its return (R148). -/
theorem returnKept_of_awaited {sl : Slot} (bay : s.role = .bay) (numbers : (s.scanner.slots.map fun o => o.number).Nodup)
    (known : tag ≠ 0) (found : s.scanner.slots.find? (awaits tag) = some sl) :
    returnKept tag s = { s with scanner := { s.scanner with slots := slotsReturning sl.number tag s } } := by
  have awaited : awaits tag sl = true := List.find?_some found
  have slot : findSlot sl.number s = some sl := findSlot_of_mem numbers (List.mem_of_find?_eq_some found)
  simp only [returnKept, if_pos bay, found, returnRequest_of_awaited known slot awaited, Option.getD_some]

/-! ### QUERY (R180) -/

theorem subjectOfCode_code (q : Subject) : subjectOfCode q.code = some q := by cases q <;> rfl

theorem subjectOfCode_of_other {n : Nat} (h : n = 0 ∨ 6 < n) : subjectOfCode n = none := by
  rcases h with rfl | large
  · rfl
  · obtain ⟨k, rfl⟩ : ∃ k, n = k + 7 := ⟨n - 7, by omega⟩
    rfl

theorem takeQuery_of_subject {n : Nat} {q : Subject} (h : byteAt args 0 = toByte q.code) :
    takeQuery n args s =
      if s.line.answers.length < 2 then
        withLine { s.line with answers := s.line.answers ++
          [{ subject := q, start := (byteAt args 1).toNat, consignment := wordAt args 2, source := n }] } s
      else s := by
  have code : (byteAt args 0).toNat = q.code := by rw [h]; cases q <;> rfl
  simp only [takeQuery, code, subjectOfCode_code]
  rfl

theorem takeQuery_of_other {n : Nat} (h : byteAt args 0 = 0 ∨ 6 < (byteAt args 0).toNat) : takeQuery n args s = s := by
  have none : subjectOfCode (byteAt args 0).toNat = none := subjectOfCode_of_other (h.imp_left fun zero => by rw [zero]; rfl)
  simp only [takeQuery, none]

/-- Settles O52: the effects of the console's frames, and none from another source. -/
theorem resolveQueriesAndInvalidCommandsFromTheConsole : Obligations.ResolveQueriesAndInvalidCommandsFromTheConsole := by
  refine ⟨fun s f e ha action known found state none => ?_, fun s f e sl ha action known found state bay numbers first => ?_,
    fun s f e ha action known found state => ?_, fun s f ha other => ?_, fun s f q ha hc subject => ?_,
    fun s f ha hc other => ?_, fun s f ha hc => ?_, fun s f ha hc => ?_, fun s f ha hc => ?_, fun s f ha hc => ?_,
    fun s f ha hc => ?_, fun s f ha hc => ?_, fun s f ha hc => ?_, fun s f ha hc => ?_, fun s f ha hc => ?_,
    fun s f ha hc => ?_, fun s f ha hc => ?_, fun s f ha hc => ?_, fun s f ha hc => ?_, fun s f ha hc => ?_,
    fun s f ha hc => ?_⟩
  case refine_1 =>
    refine runEvent_command ha ((resolveWith_keep (s := heard f s) known found (resolvable_iff.2 state) action).trans ?_) rfl
    rw [updateCustody_keptEntry]
    exact returnKept_of_none none
  case refine_2 =>
    refine runEvent_command ha ((resolveWith_keep (s := heard f s) known found (resolvable_iff.2 state) action).trans ?_) rfl
    have awaited : s.scanner.slots.find? (awaits (tagAt f.payload 0)) = some sl := by
      have same : awaits (tagAt f.payload 0) =
          fun o => decide (o.state = .awaited ∧ o.expected = some (tagAt f.payload 0)) := by
        funext o
        rw [Bool.eq_iff_iff, awaits_iff, decide_eq_true_iff]
      rw [same]
      exact first
    rw [updateCustody_keptEntry]
    exact returnKept_of_awaited bay numbers known awaited
  case refine_3 =>
    exact runEvent_command ha (resolveWith_drop (s := heard f s) known found (resolvable_iff.2 state) action) rfl
  case refine_4 => exact runEvent_command ha (resolveWith_refused (s := heard f s) other) (queueReport_reportedFire ..)
  case refine_5 =>
    refine runEvent_fromConsole ha hc (takeQuery_of_subject (s := heard f s) subject) ?_
    split <;> rfl
  case refine_6 => exact runEvent_fromConsole ha hc (takeQuery_of_other (s := heard f s) other) rfl
  case refine_7 => exact runEvent_fromConsole ha hc rfl (queueReport_reportedFire ..)
  case refine_8 => exact runEvent_otherSource ha hc
  case refine_9 => exact runEvent_otherSource ha hc
  case refine_10 => exact runEvent_otherSource ha hc
  case refine_11 => exact runEvent_otherSource ha hc
  case refine_12 => exact runEvent_otherSource ha hc
  case refine_13 => exact runEvent_command_otherSource ha hc
  case refine_14 => exact runEvent_command_otherSource ha hc
  case refine_15 => exact runEvent_command_otherSource ha hc
  case refine_16 => exact runEvent_command_otherSource ha hc
  case refine_17 => exact runEvent_command_otherSource ha hc
  case refine_18 => exact runEvent_command_otherSource ha hc
  case refine_19 => exact runEvent_command_otherSource ha hc
  case refine_20 => exact runEvent_command_otherSource ha hc
  case refine_21 => exact runEvent_command_otherSource ha hc

end Sys2Proof.Machine
end


section
/-! ## The scan of one drive line (R79 to R81)

Slots that a step finds as they are settled, or without a candidate, only have their candidate set: the sampling of a
whole line is then one change of every slot. -/

namespace Sys2Proof.Machine

variable {s : State} {n d : Nat} {w : Sense} {ks : List Nat} {sl o : Slot}

/-- The sample of a slot among those of its drive line (R79). -/
def sampleOf (d : Nat) (w : Sense) (o : Slot) : Bool := w.getLsbD (o.number - 16 * (d - 1) - 1)

/-- A slot sampled without an accepted change: its candidate is set where the sample differs (R81). -/
def sampledQuietly (d : Nat) (w : Sense) (o : Slot) : Slot := { o with candidate := sampleOf d w o != o.present }

/-- The slots of some sense lines of a drive line changed. -/
def atLines (d : Nat) (ks : List Nat) (f : Slot → Slot) (o : Slot) : Slot := if o.number ∈ ks.map (slotAt d) then f o else o

/-- Some sense lines of a drive line sampled in order. -/
def sampleLines (d : Nat) (w : Sense) (ks : List Nat) (s : State) : State :=
  ks.foldl (fun s k => sampleSlot (slotAt d k) (w.getLsbD (k - 1)) s) s

theorem sampleLine_eq (d : Nat) (w : Sense) (s : State) : sampleLine d w s = sampleLines d w senseLines s := rfl

/-- Two changes of the slot with a number agree where they agree on that slot. -/
theorem updateSlot_congr {f g : Slot → Slot} (h : ∀ o ∈ s.scanner.slots, o.number = n → f o = g o) :
    updateSlot n f s = updateSlot n g s := by
  have slots : (s.scanner.slots.map fun o => if o.number = n then f o else o) =
      s.scanner.slots.map fun o => if o.number = n then g o else o :=
    List.map_congr_left fun o ho => by split <;> simp [h o ho, *]
  simp only [updateSlot, mapSlots, slots]

/-- Where no slot has a number, a change of its slot changes nothing. -/
theorem updateSlot_of_absent {f : Slot → Slot} (absent : findSlot n s = none) : updateSlot n f s = s := by
  have none : ∀ o ∈ s.scanner.slots, o.number ≠ n := by simpa [findSlot] using absent
  have same : updateSlot n f s = updateSlot n id s := updateSlot_congr fun o ho hn => absurd hn (none o ho)
  rw [same]
  simp [updateSlot, mapSlots]

theorem sampleSlot_of_quiet {closed : Bool} (numbers : (s.scanner.slots.map fun o => o.number).Nodup)
    (quiet : ∀ o ∈ s.scanner.slots, o.number = n → closed ≠ o.present → o.candidate = false) :
    sampleSlot n closed s = updateSlot n (fun o => { o with candidate := closed != o.present }) s := by
  unfold sampleSlot
  split
  case h_1 sl found =>
    have only (o : Slot) (ho : o ∈ s.scanner.slots) (hn : o.number = n) : o = sl :=
      Option.some.inj ((findSlot_of_mem numbers ho).symm.trans (hn ▸ found))
    have hs := mem_of_findSlot found
    have hn := number_of_findSlot found
    by_cases settled : closed = sl.present
    · rw [if_pos settled]
      exact updateSlot_congr fun o ho hn => by simp [only o ho hn, settled]
    · rw [if_neg settled, quiet sl hs hn settled]
      exact updateSlot_congr fun o ho hn => by simp [only o ho hn, settled]
  case h_2 absent => exact (updateSlot_of_absent absent).symm

theorem numbers_mapSlots {f : Slot → Slot} (number : ∀ o, (f o).number = o.number) :
    ((mapSlots f s).scanner.slots.map fun o => o.number) = s.scanner.slots.map fun o => o.number := by
  simp only [mapSlots, List.map_map]
  exact List.map_congr_left fun o _ => number o

theorem slotAt_inj {k j : Nat} : slotAt d k = slotAt d j ↔ k = j := by simp [slotAt]

theorem sampleOf_slotAt {k : Nat} (h : o.number = slotAt d k) : sampleOf d w o = w.getLsbD (k - 1) := by
  rw [sampleOf, h]
  congr 1
  simp only [slotAt]
  omega

theorem mapSlots_mapSlots (f g : Slot → Slot) (s : State) : mapSlots f (mapSlots g s) = mapSlots (f ∘ g) s := by
  simp [mapSlots]

theorem mapSlots_congr {f g : Slot → Slot} (h : ∀ o ∈ s.scanner.slots, f o = g o) : mapSlots f s = mapSlots g s := by
  rw [mapSlots, List.map_congr_left h, mapSlots]

theorem mapSlots_id (s : State) : mapSlots id s = s := by simp [mapSlots]

theorem atLines_nil (d : Nat) (f : Slot → Slot) : atLines d [] f = id := rfl

theorem atLines_number {f : Slot → Slot} (number : ∀ o, (f o).number = o.number) (o : Slot) :
    (atLines d ks f o).number = o.number := by
  unfold atLines; split <;> simp [number]

/-- The slots of one sense line changed, and then those of others. -/
theorem atLines_comp {k : Nat} {f : Slot → Slot} (number : ∀ o, (f o).number = o.number) (apart : k ∉ ks) :
    atLines d ks f ∘ atLines d [k] f = atLines d (k :: ks) f := by
  funext o
  by_cases here : o.number = slotAt d k
  · have others : o.number ∉ ks.map (slotAt d) := by simpa [here, slotAt_inj] using apart
    have here' : (f o).number ∉ ks.map (slotAt d) := by rwa [number]
    rw [Function.comp_apply, atLines.eq_def d [k], if_pos (by simp [here]), atLines, if_neg here', atLines,
      if_pos (by simp [here])]
  · simp [atLines, here]

theorem sampledQuietly_number (o : Slot) : (sampledQuietly d w o).number = o.number := rfl

/-- Slots with no change to accept, sampled one after another. -/
theorem sampleLines_of_quiet (distinct : ks.Nodup) (numbers : (s.scanner.slots.map fun o => o.number).Nodup)
    (quiet : ∀ o ∈ s.scanner.slots, o.number ∈ ks.map (slotAt d) → sampleOf d w o ≠ o.present → o.candidate = false) :
    sampleLines d w ks s = mapSlots (atLines d ks (sampledQuietly d w)) s := by
  induction ks generalizing s with
  | nil => rw [atLines_nil, mapSlots_id]; rfl
  | cons k ks ih =>
    obtain ⟨apart, distinct⟩ := List.nodup_cons.1 distinct
    have first : sampleSlot (slotAt d k) (w.getLsbD (k - 1)) s = mapSlots (atLines d [k] (sampledQuietly d w)) s := by
      rw [sampleSlot_of_quiet numbers fun o ho hn differs =>
        quiet o ho (by simp [hn]) (by rwa [sampleOf_slotAt hn])]
      refine mapSlots_congr fun o _ => ?_
      by_cases here : o.number = slotAt d k
      · simp [atLines, here, sampledQuietly, sampleOf_slotAt here]
      · simp [atLines, here]
    rw [sampleLines, List.foldl_cons, first, ← sampleLines, ih distinct]
    · rw [mapSlots_mapSlots, atLines_comp sampledQuietly_number apart]
    · rwa [numbers_mapSlots (atLines_number sampledQuietly_number)]
    · refine List.forall_mem_map.2 fun o ho hn differs => ?_
      have elsewhere : o.number ∉ [k].map (slotAt d) := by
        rw [atLines_number sampledQuietly_number] at hn
        obtain ⟨j, hj, hs⟩ := List.mem_map.1 hn
        rw [← hs]
        rw [List.map_singleton, List.mem_singleton, slotAt_inj]
        rintro rfl
        exact apart hj
      rw [atLines, if_neg elsewhere] at hn differs ⊢
      exact quiet o ho (List.mem_cons_of_mem _ hn) differs

theorem mem_senseLines {k : Nat} : k ∈ senseLines ↔ 1 ≤ k ∧ k ≤ 16 := by
  constructor
  · intro h
    fin_cases h <;> decide
  · rintro ⟨low, high⟩
    interval_cases k <;> decide

/-- The 16 slots of a drive line (R79). -/
theorem mem_slotsAt (positive : 1 ≤ d) (n : Nat) :
    n ∈ senseLines.map (slotAt d) ↔ 16 * (d - 1) < n ∧ n ≤ 16 * d := by
  simp only [List.mem_map, mem_senseLines, slotAt]
  constructor
  · rintro ⟨k, hk, rfl⟩
    omega
  · rintro ⟨low, high⟩
    exact ⟨n - 16 * (d - 1), by omega, by omega⟩

end Sys2Proof.Machine
end


section
/-! ## O37: the scan with no accepted change, and the inventory (R80, R81, R97) -/

namespace Sys2Proof.Machine

variable {s : State} {d : Nat} {w : Sense} {l : List Bool} {inv : Inventory}

/-- The scan moved to the next drive line (R80). -/
def driveNext (s t : State) : State := { t with scanner := { t.scanner with drive := nextDrive s.scanner.drive } }

theorem slotScanStep_of_scan (scan : s.scanner.inventory = none) (used : 16 * s.scanner.drive ≤ slotCount s) :
    slotScanStep w s = driveNext s (sampleLine s.scanner.drive w s) := by
  have h := (lineUsed_iff s.scanner.drive s).2 used
  simp only [slotScanStep, scan, h, if_true]
  rfl

theorem slotScanStep_of_unused (scan : s.scanner.inventory = none) (unused : slotCount s < 16 * s.scanner.drive) :
    slotScanStep w s = driveNext s s := by
  have h : lineUsed s.scanner.drive s ≠ true := fun used => by
    have := (lineUsed_iff s.scanner.drive s).1 used
    omega
  unfold slotScanStep
  dsimp only
  split
  case h_1 found => rw [scan] at found; cases found
  case h_2 => rw [if_neg h]; rfl

theorem slotScanStep_of_inventory (found : s.scanner.inventory = some inv) :
    slotScanStep w s = driveNext s (inventoryStep inv w s) := by
  simp only [slotScanStep, found]
  rfl

/-! ### The samples of an inventory (R97) -/

theorem senseBits_length (w : Sense) : (senseBits w).length = 16 := rfl

theorem senseBits_getD (w : Sense) {k : Nat} (h : k < 16) : (senseBits w).getD k false = w.getLsbD k := by
  interval_cases k <;> rfl

theorem writeSamples_length (positive : 1 ≤ d) (used : 16 * d ≤ l.length) : (writeSamples d w l).length = l.length := by
  simp only [writeSamples, List.length_append, List.length_take, List.length_drop, senseBits_length]
  omega

/-- The samples of a drive line take its 16 places; every other place keeps its sample. -/
theorem writeSamples_getD (positive : 1 ≤ d) (used : 16 * d ≤ l.length) (k : Nat) :
    (writeSamples d w l).getD k false =
      if 16 * (d - 1) ≤ k ∧ k < 16 * d then w.getLsbD (k - 16 * (d - 1)) else l.getD k false := by
  have before : (l.take (16 * (d - 1))).length = 16 * (d - 1) := by rw [List.length_take]; omega
  have upto : (l.take (16 * (d - 1)) ++ senseBits w).length = 16 * d := by
    rw [List.length_append, before, senseBits_length]; omega
  unfold writeSamples
  by_cases later : 16 * d ≤ k
  · rw [List.getD_append_right _ _ _ _ (by omega), upto, if_neg (by omega)]
    simp only [List.getD_eq_getElem?_getD, List.getElem?_drop]
    congr 2
    omega
  · rw [List.getD_append _ _ _ _ (by omega)]
    by_cases earlier : k < 16 * (d - 1)
    · rw [List.getD_append _ _ _ _ (by omega), if_neg (by omega)]
      simp only [List.getD_eq_getElem?_getD, List.getElem?_take_of_lt earlier]
    · rw [List.getD_append_right _ _ _ _ (by omega), before, senseBits_getD w (by omega), if_pos (by omega)]

/-- The samples once a step of an inventory has stored its own. -/
def samplesTaken (w : Sense) (s : State) (l : List Bool) : List Bool :=
  if lineUsed s.scanner.drive s then writeSamples s.scanner.drive w l else l

theorem samplesTaken_length (positive : 1 ≤ s.scanner.drive)
    (fits : 16 * s.scanner.drive ≤ slotCount s → 16 * s.scanner.drive ≤ l.length) : (samplesTaken w s l).length = l.length := by
  unfold samplesTaken
  split
  case isTrue used => exact writeSamples_length positive (fits ((lineUsed_iff ..).1 used))
  case isFalse => rfl

theorem samplesTaken_getD (positive : 1 ≤ s.scanner.drive)
    (fits : 16 * s.scanner.drive ≤ slotCount s → 16 * s.scanner.drive ≤ l.length) (k : Nat) :
    (samplesTaken w s l).getD k false =
      if 16 * s.scanner.drive ≤ slotCount s ∧ 16 * (s.scanner.drive - 1) ≤ k ∧ k < 16 * s.scanner.drive then
        w.getLsbD (k - 16 * (s.scanner.drive - 1))
      else l.getD k false := by
  unfold samplesTaken
  simp only [lineUsed_iff]
  split
  case isTrue used => rw [writeSamples_getD positive (fits used)]; simp only [used, true_and]
  case isFalse unused => rw [if_neg fun h => unused h.1]

theorem inventoryStep_eq :
    inventoryStep inv w s =
      if s.scanner.drive < 8 then
        { s with scanner := { s.scanner with inventory := some { inv with samples := samplesTaken w s inv.samples } } }
      else if inv.pass < 2 then
        { s with scanner := { s.scanner with
            inventory := some { pass := inv.pass + 1, samples := samplesTaken w s inv.samples } } }
      else finishInventory (samplesTaken w s inv.samples) s := rfl

/-- A step of an inventory that is not its last: the samples stored, and the second pass after the first. -/
theorem inventoryStep_of_pass (goes : inv.pass = 1 ∨ (inv.pass = 2 ∧ s.scanner.drive < 8)) :
    inventoryStep inv w s =
      { s with scanner := { s.scanner with
          inventory := some { pass := if s.scanner.drive < 8 then inv.pass else 2,
                              samples := samplesTaken w s inv.samples } } } := by
  rw [inventoryStep_eq]
  by_cases inside : s.scanner.drive < 8
  · rw [if_pos inside, if_pos inside]
  · have first : inv.pass = 1 := goes.resolve_right fun h => inside h.2
    rw [if_neg inside, if_neg inside, if_pos (by omega), first]

theorem inventoryStep_of_end (last : s.scanner.drive = 8) (second : inv.pass = 2) :
    inventoryStep inv w s = finishInventory (samplesTaken w s inv.samples) s := by
  rw [inventoryStep_eq, if_neg (by omega), if_neg (by omega)]

/-! ### The table that an inventory ends with -/

theorem inventorySlots_getElem? (n k : Nat) (l : List Bool) :
    (inventorySlots n l)[k]? = (l[k]?).map (inventorySlot (n + k)) := by
  induction l generalizing n k with
  | nil => rfl
  | cons b l ih =>
    cases k with
    | zero => rfl
    | succ k => rw [inventorySlots, List.getElem?_cons_succ, ih, List.getElem?_cons_succ, Nat.add_right_comm n 1 k, Nat.add_assoc]

theorem inventorySlots_length (n : Nat) (l : List Bool) : (inventorySlots n l).length = l.length := by
  have h := congrArg List.length (inventorySlots_numbers n l)
  simpa using h

/-- The closed contacts of an inventory, counted by their places. -/
theorem length_filter_id (l : List Bool) : (l.filter id).length = ((List.range l.length).filter fun k => l.getD k false).length := by
  have places : l = (List.range l.length).map fun k => l.getD k false := by
    refine List.ext_getElem (by simp) fun k h _ => ?_
    simp [List.getElem?_eq_getElem h]
  conv_lhs => rw [places, List.filter_map, List.length_map]
  rfl

theorem finishInventory_eq :
    finishInventory l s =
      { s with scanner := { s.scanner with slots := inventorySlots 1 l, inventory := none },
               line := if reportsGoOut s then pushReport (inventoryReport l) s.line else s.line } := by
  rw [finishInventory, queueReport_frame, queueReport_line]
  rfl

/-- Settles O37: the scan by the sampling of a whole line, the inventory by its samples. -/
theorem scanStepsWithoutAcceptedChangeAndInventory : Obligations.ScanStepsWithoutAcceptedChangeAndInventory := by
  refine ⟨fun s w running scan unused => ?_, fun s w running scan positive used numbers quiet => ?_,
    fun s w inv running found second last fits => ?_, fun s w inv running found count positive small goes => ?_⟩
  · exact runEvent_to running (slotScanStep_of_unused scan unused) rfl
  · have line := mem_slotsAt positive
    have sampled : sampleLine s.scanner.drive w s =
        mapSlots (atLines s.scanner.drive senseLines (sampledQuietly s.scanner.drive w)) s :=
      sampleLines_of_quiet (by decide) numbers fun o ho here differs =>
        quiet o ho ((line o.number).1 here).1 ((line o.number).1 here).2 differs
    refine runEvent_to running ((slotScanStep_of_scan scan used).trans (congrArg _ (sampled.trans (mapSlots_congr fun o _ => ?_)))) rfl
    simp only [atLines, line]
    rfl
  · have even (h : 16 * s.scanner.drive ≤ slotCount s) : 16 * s.scanner.drive ≤ inv.samples.length := by omega
    have length := samplesTaken_length (w := w) (by omega) even
    have sample (k : Nat) (hk : k < inv.samples.length) : (samplesTaken w s inv.samples).getD k false =
        if slotCount s < 128 ∨ k < 112 then inv.samples.getD k false else w.getLsbD (k - 112) := by
      rw [samplesTaken_getD (by omega) even, last]
      by_cases kept : slotCount s < 128 ∨ k < 112
      · rw [if_pos kept, if_neg (by omega)]
      · rw [if_neg kept, if_pos (by omega)]
    have ended : slotScanStep w s = driveNext s _ :=
      (slotScanStep_of_inventory found).trans (congrArg _ ((inventoryStep_of_end last second).trans finishInventory_eq))
    refine ⟨_, runEvent_to running ended rfl, rfl, (congrArg nextDrive last).trans rfl,
      (inventorySlots_length ..).trans length, fun k hk => ?_, ?_⟩
    · have inside : k < inv.samples.length := List.mem_range.1 hk
      have taken : (samplesTaken w s inv.samples)[k]? = some ((samplesTaken w s inv.samples).getD k false) := by
        rw [List.getD_eq_getElem?_getD, List.getElem?_eq_getElem (by omega), Option.getD_some]
      refine (inventorySlots_getElem? 1 k _).trans ?_
      rw [taken, sample k inside, Nat.add_comm]
      rfl
    · have closed : ((samplesTaken w s inv.samples).filter id).length = ((List.range inv.samples.length).filter fun k =>
          if slotCount s < 128 ∨ k < 112 then inv.samples.getD k false else w.getLsbD (k - 112)).length := by
        rw [length_filter_id, length, List.filter_congr fun k hk => sample k (List.mem_range.1 hk)]
      have report : inventoryReport (samplesTaken w s inv.samples) =
          { kind := .inventoryRestart,
            value1 := (inv.samples.length : Int),
            value2 := (((List.range inv.samples.length).filter fun k =>
              (if slotCount s < 128 ∨ k < 112 then inv.samples.getD k false else w.getLsbD (k - 112))).length : Int) } := by
        rw [inventoryReport, length, closed]
      rw [← report]
      rfl
  · have fits : 16 * s.scanner.drive ≤ slotCount s → 16 * s.scanner.drive ≤ inv.samples.length := fun h => count ▸ h
    refine ⟨_, runEvent_to running ((slotScanStep_of_inventory found).trans (congrArg _ (inventoryStep_of_pass goes))) rfl,
      rfl, ⟨_, rfl, rfl, samplesTaken_length positive fits, fun k _ => samplesTaken_getD positive fits k⟩, rfl⟩

end Sys2Proof.Machine
end


section
/-! ## One accepted change of a scanned line (R81)

Of a line where every other slot is sampled as it is settled, the step clears candidates, and the one slot acts in their
midst: what it does to the other slots and the clearing of their candidates may be taken in either order. -/

namespace Sys2Proof.Machine

variable {s u : State} {n d : Nat} {w : Sense} {ks : List Nat} {sl o : Slot} {closed : Bool}

/-- A slot with no candidate. -/
def Slot.unmarked (o : Slot) : Slot := { o with candidate := false }

/-- The step accepts a change of the slot `sl`, and of no other slot of the driven line (R81). -/
structure AcceptedChange (s : State) (w : Sense) (sl : Slot) : Prop where
  scan : s.scanner.inventory = none
  positive : 1 ≤ s.scanner.drive
  used : 16 * s.scanner.drive ≤ slotCount s
  numbers : (s.scanner.slots.map fun sl => sl.number).Nodup
  mem : sl ∈ s.scanner.slots
  low : 16 * (s.scanner.drive - 1) < sl.number
  high : sl.number ≤ 16 * s.scanner.drive
  marked : sl.candidate = true
  others : ∀ o ∈ s.scanner.slots, o ≠ sl → 16 * (s.scanner.drive - 1) < o.number → o.number ≤ 16 * s.scanner.drive →
    sampleOf s.scanner.drive w o = o.present
  differs : sampleOf s.scanner.drive w sl ≠ sl.present

/-- What the acceptance of a change does at its slot (R84, R86). -/
def acceptedAt (closed : Bool) (sl : Slot) (u : State) : State :=
  if closed then presence sl (updateSlot sl.number (Slot.settledAt closed) u)
  else removal sl (updateSlot sl.number (Slot.settledAt closed) u)

theorem sampleSlot_of_accepted (found : findSlot sl.number u = some sl) (marked : sl.candidate = true)
    (differs : closed ≠ sl.present) : sampleSlot sl.number closed u = acceptedAt closed sl u := by
  simp only [sampleSlot, found, if_neg differs, marked, Bool.not_true, Bool.false_eq_true, if_false]
  rfl

/-- Slots that are sampled as they are settled lose their candidates. -/
theorem sampleLines_of_settled (distinct : ks.Nodup) (numbers : (s.scanner.slots.map fun o => o.number).Nodup)
    (settled : ∀ o ∈ s.scanner.slots, o.number ∈ ks.map (slotAt d) → sampleOf d w o = o.present) :
    sampleLines d w ks s = mapSlots (atLines d ks Slot.unmarked) s := by
  rw [sampleLines_of_quiet distinct numbers fun o ho here differs => absurd (settled o ho here) differs]
  refine mapSlots_congr fun o ho => ?_
  unfold atLines
  split
  case isTrue here => rw [sampledQuietly, settled o ho here, bne_self_eq_false]; rfl
  case isFalse => rfl

theorem unmarked_number (o : Slot) : o.unmarked.number = o.number := rfl

theorem sampleLines_append (d : Nat) (w : Sense) (ks js : List Nat) (s : State) :
    sampleLines d w (ks ++ js) s = sampleLines d w js (sampleLines d w ks s) := List.foldl_append

theorem ne_of_number (numbers : (s.scanner.slots.map fun o => o.number).Nodup) (ho : o ∈ s.scanner.slots)
    (hs : sl ∈ s.scanner.slots) (h : o ≠ sl) : o.number ≠ sl.number :=
  fun same => h (List.inj_on_of_nodup_map numbers ho hs same)

/-- The sense lines before and after that of a slot of the line. -/
theorem exists_senseLines (positive : 1 ≤ d) (low : 16 * (d - 1) < n) (high : n ≤ 16 * d) :
    ∃ before k after, senseLines = before ++ k :: after ∧ slotAt d k = n ∧
      n ∉ before.map (slotAt d) ∧ n ∉ after.map (slotAt d) := by
  obtain ⟨k, hk, rfl⟩ := List.mem_map.1 ((mem_slotsAt positive n).2 ⟨low, high⟩)
  obtain ⟨before, after, split⟩ := List.append_of_mem hk
  have distinct : (before ++ k :: after).Nodup := split ▸ by decide
  refine ⟨before, k, after, split, rfl, ?_, ?_⟩
  · simpa [slotAt_inj] using fun h => (List.nodup_append.1 distinct).2.2 k h k List.mem_cons_self rfl
  · simpa [slotAt_inj] using (List.nodup_cons.1 (List.nodup_append.1 distinct).2.1).1

/-- Candidates cleared before and after a change of the other slots are cleared before it. -/
theorem atLines_comm {before after : List Nat} {line : Prop} [Decidable line] {g : Slot → Slot}
    (number : ∀ o, (g o).number = o.number) (comm : g o.unmarked = (g o).unmarked)
    (parts : o.number ∈ before.map (slotAt d) ∨ o.number ∈ after.map (slotAt d) ↔ line) :
    atLines d after Slot.unmarked (g (atLines d before Slot.unmarked o)) = g (if line then o.unmarked else o) := by
  by_cases early : o.number ∈ before.map (slotAt d) <;> by_cases late : o.number ∈ after.map (slotAt d)
  all_goals simp only [atLines, early, late, number, unmarked_number, if_true, if_false, ← parts, or_true, true_or, or_self]
  · rw [comm]; rfl
  · rw [comm]

/-- An accepted change: its slot acts among slots whose candidates only may have been cleared, and the step leaves what
the action makes of each slot, with the candidates of the line cleared. -/
theorem slotScanStep_accepted (h : AcceptedChange s w sl) :
    ∃ c : Slot → Slot, (∀ o, c o = o ∨ c o = o.unmarked) ∧ c sl = sl ∧
      ∀ (g : Slot → Slot) (A : State), acceptedAt (sampleOf s.scanner.drive w sl) sl (mapSlots c s) = A →
        A.scanner.slots = (s.scanner.slots.map c).map g → (∀ o, (g o).number = o.number) →
        (∀ o, o.number ≠ sl.number → (g o).present = o.present ∧ g o.unmarked = (g o).unmarked) →
        findSlot sl.number (slotScanStep w s) = some (g sl) ∧
        (∀ o ∈ s.scanner.slots, o ≠ sl → findSlot o.number (slotScanStep w s) =
          some (g (if 16 * (s.scanner.drive - 1) < o.number ∧ o.number ≤ 16 * s.scanner.drive then o.unmarked else o))) ∧
        slotScanStep w s = { A with scanner := (slotScanStep w s).scanner } := by
  obtain ⟨scan, positive, used, numbers, mem, low, high, marked, others, differs⟩ := h
  generalize hd : s.scanner.drive = d at *
  obtain ⟨before, k, after, lines, slot, early, late⟩ := exists_senseLines positive low high
  have distinct : (before ++ k :: after).Nodup := lines ▸ by decide
  have parts (n : Nat) (other : n ≠ sl.number) :
      n ∈ before.map (slotAt d) ∨ n ∈ after.map (slotAt d) ↔ 16 * (d - 1) < n ∧ n ≤ 16 * d := by
    rw [← mem_slotsAt positive, lines]
    simp [slot, other]
  have keeps (ks : List Nat) (o : Slot) : (atLines d ks Slot.unmarked o).number = o.number := atLines_number unmarked_number o
  have alone (ks : List Nat) (h : sl.number ∉ ks.map (slotAt d)) : atLines d ks Slot.unmarked sl = sl := if_neg h
  refine ⟨atLines d before Slot.unmarked, fun o => ?_, alone before early, fun g A act slots number quiet => ?_⟩
  · unfold atLines
    split <;> simp
  · have settled (o : Slot) (ho : o ∈ s.scanner.slots) (other : o.number ≠ sl.number)
        (here : o.number ∈ before.map (slotAt d) ∨ o.number ∈ after.map (slotAt d)) : sampleOf d w o = o.present := by
      obtain ⟨lo, hi⟩ := (parts _ other).1 here
      exact others o ho (fun same => other (same ▸ rfl)) lo hi
    have apart (ks : List Nat) (h : sl.number ∉ ks.map (slotAt d)) (n : Nat) (hn : n ∈ ks.map (slotAt d)) : n ≠ sl.number :=
      fun same => h (same ▸ hn)
    have first : sampleLines d w before s = mapSlots (atLines d before Slot.unmarked) s :=
      sampleLines_of_settled (List.nodup_append.1 distinct).1 numbers fun o ho here =>
        settled o ho (apart before early _ here) (.inl here)
    have found : findSlot sl.number (mapSlots (atLines d before Slot.unmarked) s) = some sl := by
      rw [findSlot_map (s := s) rfl (keeps before), findSlot_of_mem numbers mem, Option.map_some, alone before early]
    have middle : sampleSlot (slotAt d k) (w.getLsbD (k - 1)) (mapSlots (atLines d before Slot.unmarked) s) = A := by
      rw [← sampleOf_slotAt (o := sl) slot.symm, slot, sampleSlot_of_accepted found marked differs, act]
    have each : A.scanner.slots = s.scanner.slots.map (g ∘ atLines d before Slot.unmarked) := by
      rw [slots, List.map_map]
    have numbers' : (A.scanner.slots.map fun o => o.number).Nodup := by
      rw [each, List.map_map]
      exact (List.map_congr_left fun o _ => (number _).trans (keeps before o)) ▸ numbers
    have last : sampleLines d w after A = mapSlots (atLines d after Slot.unmarked) A := by
      refine sampleLines_of_settled (List.nodup_cons.1 (List.nodup_append.1 distinct).2.1).2 numbers' ?_
      rw [each]
      refine List.forall_mem_map.2 fun o ho here => ?_
      have same : (g (atLines d before Slot.unmarked o)).number = o.number := (number _).trans (keeps before o)
      rw [Function.comp_apply, same] at here
      have other := apart after late _ here
      have present : (g (atLines d before Slot.unmarked o)).present = o.present := by
        rw [(quiet _ (by rwa [keeps])).1, atLines]
        split <;> rfl
      rw [Function.comp_apply, present, ← settled o ho other (.inr here), sampleOf, sampleOf, same]
    have step : slotScanStep w s = driveNext s (mapSlots (atLines d after Slot.unmarked) A) := by
      rw [slotScanStep_of_scan scan (hd ▸ used), hd, sampleLine_eq, lines, sampleLines_append, first, ← last]
      exact congrArg (fun t => driveNext s (sampleLines d w after t)) middle
    have slotsAtEnd : (slotScanStep w s).scanner.slots =
        s.scanner.slots.map (atLines d after Slot.unmarked ∘ g ∘ atLines d before Slot.unmarked) := by
      rw [step, ← List.map_map, ← each]
      rfl
    have look (n : Nat) := findSlot_map (n := n) slotsAtEnd fun o => (keeps after _).trans ((number _).trans (keeps before o))
    refine ⟨?_, fun o ho other => ?_, ?_⟩
    · rw [look, findSlot_of_mem numbers mem, Option.map_some, Function.comp_apply, Function.comp_apply, alone before early,
        atLines, if_neg (by rwa [number])]
    · have elsewhere := ne_of_number numbers ho mem other
      rw [look, findSlot_of_mem numbers ho, Option.map_some]
      exact congrArg some (atLines_comm number (quiet o elsewhere).2 (parts _ elsewhere))
    · rw [step]
      rfl

/-! ### A change that acts at its slot alone -/

/-- An accepted change that writes its slot and queues reports, and does nothing else. -/
theorem slotScanStep_ownSlot {f : Slot → Slot} {rs : List Report} (h : AcceptedChange s w sl)
    (number : ∀ o, (f o).number = o.number)
    (act : ∀ c : Slot → Slot, acceptedAt (sampleOf s.scanner.drive w sl) sl (mapSlots c s) =
      queueReports rs (updateSlot sl.number f (mapSlots c s))) :
    findSlot sl.number (slotScanStep w s) = some (f sl) ∧
    (slotScanStep w s).line = (queueReports rs s).line ∧
    (∀ o ∈ s.scanner.slots, o ≠ sl → findSlot o.number (slotScanStep w s) =
      some (if 16 * (s.scanner.drive - 1) < o.number ∧ o.number ≤ 16 * s.scanner.drive then o.unmarked else o)) ∧
    slotScanStep w s = { s with scanner := (slotScanStep w s).scanner, line := (slotScanStep w s).line } := by
  obtain ⟨c, -, -, scanned⟩ := slotScanStep_accepted h
  have line : (queueReports rs (updateSlot sl.number f (mapSlots c s))).line = (queueReports rs s).line :=
    queueReports_line_like rs rfl rfl
  obtain ⟨own, others, frame⟩ := scanned (fun o => if o.number = sl.number then f o else o) _ (act c)
    (by rw [queueReports_scanner]; rfl) (fun o => by split <;> simp [number])
    fun o other => by simp [other, unmarked_number]
  refine ⟨?_, ?_, fun o ho other => ?_, ?_⟩
  · rw [own, if_pos rfl]
  · rw [frame, line]
  · have elsewhere := ne_of_number h.numbers ho h.mem other
    rw [others o ho other, if_neg]
    split <;> exact elsewhere
  · rw [frame, queueReports_frame]
    rfl

end Sys2Proof.Machine
end

section
/-! ## O38: an accepted removal (R84, R85, R87) -/

namespace Sys2Proof.Machine

variable {s u : State} {w : Sense} {sl : Slot}

/-- A slot whose new presence is settled is written further. -/
theorem updateSlot_settledAt (n : Nat) (closed : Bool) (g : Slot → Slot) (u : State) :
    updateSlot n g (updateSlot n (Slot.settledAt closed) u) = updateSlot n (fun o => g (o.settledAt closed)) u :=
  updateSlot_updateSlot u n (Slot.settledAt closed) g fun _ => rfl

/-- The slot of a cartridge taken away where none was to go (R84, R85). -/
def cartridgeGone (s : State) (o : Slot) : Slot :=
  { o with present := false, candidate := false, hold := none,
           state := if s.fire.state.raised then .evacuated else .unexpectedRemoval }

/-- The report of a cartridge taken away where none was to go (R84, R85). -/
def goneReport (s : State) (sl : Slot) : Report :=
  if s.fire.state.raised then evacuatedReport sl else removalReport sl

theorem removeCartridge_eq :
    removeCartridge sl (updateSlot sl.number (Slot.settledAt false) u) =
      queueReports [goneReport u sl] (updateSlot sl.number (cartridgeGone u) u) := by
  have raised : (updateSlot sl.number (Slot.settledAt false) u).fire = u.fire := rfl
  rw [removeCartridge, raised, updateSlot_settledAt, updateSlot_settledAt]
  unfold goneReport cartridgeGone
  cases u.fire.state.raised <;> rfl

/-- The slot after an accepted removal, by its state before (R84). -/
def removed (s : State) (sl o : Slot) : Slot :=
  match sl.state with
  | .pullPending => { o with present := false, candidate := false, state := .pulled, window := some s.cfg.pullWindow }
  | .unexpectedPresence p => { o with present := false, candidate := false, state := p.state }
  | _ => cartridgeGone s o

/-- The reports of an accepted removal, by the slot's state before (R84). -/
def removedReports (s : State) (sl : Slot) : List Report :=
  match sl.state with
  | .pullPending => []
  | .unexpectedPresence _ => []
  | _ => [goneReport s sl]

theorem removal_eq (state : sl.state = .pullPending ∨ sl.state = .occupied ∨ sl.state = .hold ∨ sl.state = .quarantine ∨
      ∃ p, sl.state = .unexpectedPresence p) :
    acceptedAt false sl u = queueReports (removedReports u sl) (updateSlot sl.number (removed u sl) u) := by
  rw [acceptedAt, if_neg Bool.false_ne_true]
  unfold removal removedReports removed
  rcases state with h | h | h | h | ⟨p, h⟩ <;> simp only [h]
  case inl => exact updateSlot_settledAt ..
  case inr.inl => exact removeCartridge_eq
  case inr.inr.inl => exact removeCartridge_eq
  case inr.inr.inr.inl => exact removeCartridge_eq
  case inr.inr.inr.inr => exact updateSlot_settledAt ..

/-- Settles O38: the removal writes its slot and queues its report. -/
theorem acceptedRemovalActsByTheSlotState : Obligations.AcceptedRemovalActsByTheSlotState := by
  intro s w sl running scan positive used numbers mem low high marked others present sample state
  have opened : sampleOf s.scanner.drive w sl = false := sample
  have change : AcceptedChange s w sl :=
    ⟨scan, positive, used, numbers, mem, low, high, marked, others, by rw [opened, present]; decide⟩
  have removal : sl.state = .pullPending ∨ sl.state = .occupied ∨ sl.state = .hold ∨ sl.state = .quarantine ∨
      ∃ p, sl.state = .unexpectedPresence p := by
    rcases state with h | h | h | h | h | h | h <;> simp [h]
  obtain ⟨own, line, rest, frame⟩ := slotScanStep_ownSlot (f := removed s sl) (rs := removedReports s sl) change
    (fun o => by unfold removed; split <;> rfl) fun c => by rw [opened]; exact removal_eq removal
  refine ⟨_, runEvent_to running rfl (by rw [frame]; rfl), own.trans (congrArg some ?_), line.trans ?_, rest, frame⟩
  · rcases state with h | h | h | h | h | h | h <;> simp [h, removed, cartridgeGone, PriorState.state]
  · rw [queueReports_line]
    rcases state with h | h | h | h | h | h | h <;>
      simp [h, removedReports, goneReport, evacuatedReport, removalReport, Slot.reportTag]

end Sys2Proof.Machine
end


section
/-! ## An accepted presence, but for a seating (R86, R87, R159) -/

namespace Sys2Proof.Machine

variable {s u : State} {w : Sense} {sl o : Slot} {m : Nat} {t : Tag}

/-- The slot after an accepted presence that seats no cartridge, by its state before (R86). -/
def presented (s : State) (sl o : Slot) : Slot :=
  match sl.state with
  | .evacuated =>
    { o with present := true, candidate := false, tag := none, state := if postFireHold s = 0 then .occupied else .hold,
             hold := if postFireHold s = 0 then none else some (postFireHold s) }
  | .pulled => { o with present := true, candidate := false, state := .pullPending, window := none }
  | .unexpectedRemoval => { o with present := true, candidate := false, state := .occupied, tag := none }
  | .empty => { o with present := true, candidate := false, state := .unexpectedPresence .empty }
  | .out => { o with present := true, candidate := false, state := .unexpectedPresence .out }
  | .awaited => { o with present := true, candidate := false, state := .unexpectedPresence .awaited }
  | _ => o

/-- The reports of an accepted presence that seats no cartridge (R86). -/
def presentedReports (sl : Slot) : List Report :=
  if sl.state = .empty ∨ sl.state = .out ∨ sl.state = .awaited then [presenceReport sl] else []

theorem presence_eq (state : sl.state = .evacuated ∨ sl.state = .pulled ∨ sl.state = .unexpectedRemoval ∨
      sl.state = .empty ∨ sl.state = .out ∨ sl.state = .awaited) :
    acceptedAt true sl u = queueReports (presentedReports sl) (updateSlot sl.number (presented u sl) u) := by
  rw [acceptedAt, if_pos rfl]
  unfold presence presentedReports presented
  rcases state with h | h | h | h | h | h <;>
    simp only [h, reduceCtorEq, or_self, or_false, or_true, if_true, if_false, strayPresence, returnEvacuee] <;>
    rw [updateSlot_settledAt] <;> rfl

/-! ## A seating (R83, R93, R118) -/

/-- The entries that a seated notice names: those of the tag in ACTIVE (R118). -/
def isActiveWith (t : Tag) (x : Entry) : Bool := decide (x.tag = some t ∧ x.state = .active)

theorem activeWith_eq (t : Tag) : activeWith t = isActiveWith t := by
  funext x
  simp [activeWith, isActiveWith, beq_eq_decide]

/-- The hold that a seated cartridge brings; none where no custody entry holds its tag (log 48). -/
def holdBrought (entry : Option CustodyEntry) : Nat := (entry.map fun e => e.hold).getD 0

/-- The flag that a seated cartridge brings; clear where no custody entry holds its tag (log 48). -/
def flagBrought (entry : Option CustodyEntry) : Bool := (entry.map fun e => e.quarantine).getD false

/-- The slot of a seated cartridge (R93). -/
def seatedSlot (sl : Slot) (entry : Option CustodyEntry) (o : Slot) : Slot :=
  { o with present := true, candidate := false, state := seatedState (holdBrought entry) (flagBrought entry),
           hold := seatedHold (holdBrought entry) (flagBrought entry), window := none, consignment := none,
           tag := optTag sl.reportTag }

/-- What a seating makes of each slot: the others are without the tag (R83). -/
def seatMark (sl : Slot) (entry : Option CustodyEntry) (o : Slot) : Slot :=
  if o.number = sl.number then seatedSlot sl entry o else withoutTag sl.reportTag o

/-- The custody entries that a seating leaves (R93). -/
def entriesLeft (entry : Option CustodyEntry) (es : List CustodyEntry) : List CustodyEntry :=
  match entry with
  | some e => es.filter fun x => x.tag != e.tag
  | none => es

/-- The state of a seating before its notice. -/
def seatingState (sl : Slot) (entry : Option CustodyEntry) (u : State) : State :=
  { u with scanner := { u.scanner with slots := u.scanner.slots.map (seatMark sl entry) },
           custody := { u.custody with entries := entriesLeft entry u.custody.entries },
           line := (queueReports (seatingReports sl (holdBrought entry) (flagBrought entry)) u).line }

theorem cartridgeSeated_eq (entry : Option CustodyEntry) :
    cartridgeSeated sl entry (updateSlot sl.number (Slot.settledAt true) u) = seatingState sl entry u := by
  have left : cartridgeSeated sl entry (updateSlot sl.number (Slot.settledAt true) u) =
      queueReports (seatingReports sl (holdBrought entry) (flagBrought entry))
        (seatSlot sl (holdBrought entry) (flagBrought entry) (updateSlot sl.number (Slot.settledAt true)
          (withCustody (entriesLeft entry u.custody.entries) u))) := by
    cases entry <;> rfl
  rw [left, seatSlot, updateSlot_settledAt, giveTag_updateSlot (by exact fun _ => rfl)]
  exact queueReports_like (s := u) _ rfl rfl

/-- A seating, through its notice (R93, R118). -/
theorem acceptedAt_of_returnPending (state : sl.state = .returnPending) (distinct : RecordNumbersDistinct u) :
    acceptedAt true sl u = noticedState sl.consignment (isActiveWith sl.reportTag) .done
      (seatingState sl (custodyOfSlot sl u) u) := by
  have seats : acceptedAt true sl u = seat sl (updateSlot sl.number (Slot.settledAt true) u) := by
    rw [acceptedAt, if_pos rfl, presence, state]
  have entry : custodyOfSlot sl (updateSlot sl.number (Slot.settledAt true) u) = custodyOfSlot sl u := rfl
  rw [seats, seat_eq, entry, cartridgeSeated_eq, activeWith_eq]
  exact noticeOf_eq distinct

/-! ### What a seating makes of the slots -/

theorem withoutTag_number (o : Slot) : (withoutTag t o).number = o.number := by
  unfold withoutTag; repeat' split
  all_goals rfl

theorem withoutTag_present (o : Slot) : (withoutTag t o).present = o.present := by
  unfold withoutTag; repeat' split
  all_goals rfl

theorem withoutTag_unmarked (o : Slot) : withoutTag t o.unmarked = (withoutTag t o).unmarked := by
  unfold withoutTag Slot.unmarked
  dsimp only
  repeat' split
  all_goals rfl

theorem reverted_present (o : Slot) : (reverted m o).present = o.present := by
  unfold reverted
  dsimp only
  repeat' split
  all_goals rfl

theorem reverted_unmarked (o : Slot) : reverted m o.unmarked = (reverted m o).unmarked := by
  unfold reverted Slot.unmarked
  dsimp only
  repeat' split
  all_goals rfl

/-- A slot once the record that a notice closes, if it closes one, has been reverted at a bay (R95). -/
def revertedBy (closed : Option Consignment) (o : Slot) : Slot :=
  match closed with
  | some c => reverted c.number o
  | none => o

theorem slotsAfter_bay (closed : Option Consignment) (slots : List Slot) :
    slotsAfter closed .bay slots = slots.map (revertedBy closed) := by
  cases closed with
  | none => exact (List.map_id slots).symm
  | some c => rfl

theorem revertedBy_number (closed : Option Consignment) (o : Slot) : (revertedBy closed o).number = o.number := by
  cases closed with
  | none => rfl
  | some c => exact reverted_number c.number o

theorem revertedBy_present (closed : Option Consignment) (o : Slot) : (revertedBy closed o).present = o.present := by
  cases closed with
  | none => rfl
  | some c => exact reverted_present o

theorem revertedBy_unmarked (closed : Option Consignment) (o : Slot) :
    revertedBy closed o.unmarked = (revertedBy closed o).unmarked := by
  cases closed with
  | none => rfl
  | some c => exact reverted_unmarked o

theorem revertedBy_of_unnumbered (closed : Option Consignment) (h : o.consignment = none) : revertedBy closed o = o := by
  cases closed with
  | none => rfl
  | some c => exact reverted_of_unnumbered h

theorem seatMark_number (entry : Option CustodyEntry) (o : Slot) : (seatMark sl entry o).number = o.number := by
  unfold seatMark
  split
  · rfl
  · exact withoutTag_number o

/-- A PULLED slot of a number is such whatever tag another slot takes. -/
theorem pulledOf_withoutTag (o : Slot) :
    ((withoutTag t o).state == .pulled && (withoutTag t o).consignment == some m) =
      (o.state == .pulled && o.consignment == some m) := by
  unfold withoutTag
  repeat' split
  case isTrue out => simp [out]
  all_goals rfl

/-- The slots that a closing reports are the PULLED ones of its number before the step. -/
theorem pulledReports_seated {c : Slot → Slot} {entry : Option CustodyEntry} (state : sl.state = .returnPending)
    (numbers : (s.scanner.slots.map fun o => o.number).Nodup) (mem : sl ∈ s.scanner.slots)
    (cleared : ∀ o, c o = o ∨ c o = o.unmarked) :
    ((((s.scanner.slots.map c).map (seatMark sl entry)).filter fun o => o.state == .pulled && o.consignment == some m).map
        fun o => ({ kind := .pullUnverified, number := o.number, consignment := m } : Report)) =
      (s.scanner.slots.filter fun o => decide (o.consignment = some m ∧ o.state = .pulled)).map fun o =>
        { kind := .pullUnverified, number := o.number, consignment := m } := by
  have number (o : Slot) : (seatMark sl entry (c o)).number = o.number := by
    rw [seatMark_number]
    rcases cleared o with h | h <;> rw [h]
    rfl
  have same (o : Slot) (ho : o ∈ s.scanner.slots) :
      ((seatMark sl entry (c o)).state == .pulled && (seatMark sl entry (c o)).consignment == some m) =
        decide (o.consignment = some m ∧ o.state = .pulled) := by
    have kept : (c o).number = o.number ∧ (c o).state = o.state ∧ (c o).consignment = o.consignment := by
      rcases cleared o with h | h <;> rw [h]
      · exact ⟨rfl, rfl, rfl⟩
      · exact ⟨rfl, rfl, rfl⟩
    obtain ⟨cnumber, cstate, cconsignment⟩ := kept
    by_cases own : o.number = sl.number
    · have pending : o.state = .returnPending := by
        rw [List.inj_on_of_nodup_map numbers ho mem own, state]
      simp [seatMark, cnumber, own, seatedSlot, pending]
    · rw [seatMark, if_neg (by rwa [cnumber]), pulledOf_withoutTag, cstate, cconsignment, Bool.decide_and, beq_eq_decide,
        beq_eq_decide, Bool.and_comm]
  rw [List.map_map, List.filter_map, List.map_map]
  refine (congrArg (List.map _) (List.filter_congr (q := fun o => decide (o.consignment = some m ∧ o.state = .pulled))
    same)).trans ?_
  exact List.map_congr_left fun o _ => by simp only [Function.comp_apply, number]

end Sys2Proof.Machine
end

section
/-! ## A seating, step by step (R93, R95, R118, R128) -/

namespace Sys2Proof.Machine

variable {s u : State} {w : Sense} {sl o : Slot} {m : Nat} {num : Option Nat} {names : Entry → Bool} {st : EntryState}
  {c : Consignment}

theorem noticedState_of_closed (closes : closedByNotice num names st s = some c) :
    noticedState num names st s = closedState 1 c (setFirst names st c.entries) s := by
  simp only [noticedState, closes]

theorem noticedState_of_open (stays : closedByNotice num names st s = none) :
    noticedState num names st s =
      { s with consignments := s.consignments.map fun c =>
          if num = some c.number then { c with entries := setFirst names st c.entries } else c } := by
  simp only [noticedState, stays]

/-- Only a bay has slots to scan (R79). -/
theorem AcceptedChange.bay (h : AcceptedChange s w sl) : s.role = .bay := by
  have used := h.used
  have positive := h.positive
  cases role : s.role with
  | bay => rfl
  | dock => simp only [slotCount, role, if_true] at used; omega

/-- The seating that an accepted presence makes: its slot, the other slots, and the notice that follows. -/
theorem slotScanStep_seated (h : AcceptedChange s w sl) (records : RecordNumbersDistinct s)
    (state : sl.state = .returnPending) (closing : sampleOf s.scanner.drive w sl = true) :
    findSlot sl.number (slotScanStep w s) = some (seatedSlot sl (custodyOfSlot sl s) sl) ∧
    (∀ o ∈ s.scanner.slots, o ≠ sl → findSlot o.number (slotScanStep w s) =
      some (revertedBy (closedByNotice sl.consignment (isActiveWith sl.reportTag) .done s) (withoutTag sl.reportTag
        (if 16 * (s.scanner.drive - 1) < o.number ∧ o.number ≤ 16 * s.scanner.drive then o.unmarked else o)))) ∧
    ∃ c : Slot → Slot, (∀ o, c o = o ∨ c o = o.unmarked) ∧
      slotScanStep w s =
        { noticedState sl.consignment (isActiveWith sl.reportTag) .done
            (seatingState sl (custodyOfSlot sl s) (mapSlots c s)) with scanner := (slotScanStep w s).scanner } := by
  obtain ⟨c, cleared, -, scanned⟩ := slotScanStep_accepted h
  rw [closing] at scanned
  generalize hclosed : closedByNotice sl.consignment (isActiveWith sl.reportTag) .done s = closed at *
  generalize hentry : custodyOfSlot sl s = entry at *
  have acts : acceptedAt true sl (mapSlots c s) = noticedState sl.consignment (isActiveWith sl.reportTag) .done
      (seatingState sl entry (mapSlots c s)) := by
    rw [acceptedAt_of_returnPending (u := mapSlots c s) state records, ← hentry]
    rfl
  have slots : (noticedState sl.consignment (isActiveWith sl.reportTag) .done
      (seatingState sl entry (mapSlots c s))).scanner.slots =
      (s.scanner.slots.map c).map (revertedBy closed ∘ seatMark sl entry) := by
    rw [noticedState_scanner, ← List.map_map, ← slotsAfter_bay, ← hclosed, ← h.bay]
    rfl
  obtain ⟨own, others, frame⟩ := scanned _ _ acts slots
    (fun o => (revertedBy_number closed _).trans (seatMark_number entry o)) fun o other => by
      have mark : seatMark sl entry o = withoutTag sl.reportTag o := if_neg other
      have mark' : seatMark sl entry o.unmarked = withoutTag sl.reportTag o.unmarked := if_neg other
      refine ⟨?_, ?_⟩
      · rw [Function.comp_apply, revertedBy_present, mark, withoutTag_present]
      · rw [Function.comp_apply, Function.comp_apply, mark, mark', withoutTag_unmarked, revertedBy_unmarked]
  refine ⟨own.trans (congrArg some ?_), fun o ho other => (others o ho other).trans (congrArg some ?_), c, cleared, frame⟩
  · rw [Function.comp_apply, seatMark, if_pos rfl, revertedBy_of_unnumbered closed rfl]
  · have elsewhere := ne_of_number h.numbers ho h.mem other
    rw [Function.comp_apply, seatMark, if_neg]
    split <;> exact elsewhere

theorem mem_of_entriesLeft {entry : Option CustodyEntry} {es : List CustodyEntry} {e : CustodyEntry}
    (he : e ∈ entriesLeft entry es) : e ∈ es := by
  cases entry with
  | none => exact he
  | some x => exact List.mem_of_mem_filter he

/-- A seating changes the slots, the reports, the custody list and the consignment table. -/
theorem slotScanStep_seated_frame (h : AcceptedChange s w sl) (records : RecordNumbersDistinct s)
    (state : sl.state = .returnPending) (closing : sampleOf s.scanner.drive w sl = true) :
    slotScanStep w s =
      { s with scanner := (slotScanStep w s).scanner, line := (slotScanStep w s).line,
               custody := (slotScanStep w s).custody, consignments := (slotScanStep w s).consignments } := by
  obtain ⟨-, -, c, -, frame⟩ := slotScanStep_seated h records state closing
  have noticed := noticedState_frame sl.consignment (isActiveWith sl.reportTag) .done
    (seatingState sl (custodyOfSlot sl s) (mapSlots c s))
  generalize noticedState _ _ _ _ = t at frame noticed
  rw [frame, noticed]
  rfl

/-- No custody entry holds the tag of a cartridge that has been seated. -/
theorem slotScanStep_seated_gone {e : CustodyEntry} (h : AcceptedChange s w sl) (records : RecordNumbersDistinct s)
    (state : sl.state = .returnPending) (closing : sampleOf s.scanner.drive w sl = true)
    (held : custodyOfSlot sl s = some e) : ∀ x ∈ (slotScanStep w s).custody.entries, x.tag ≠ e.tag := by
  obtain ⟨-, -, c, -, frame⟩ := slotScanStep_seated h records state closing
  rw [frame]
  intro x hx
  obtain ⟨y, hy, same, -⟩ := noticedState_custody_mem _ _ _ (seatingState ..) x hx
  rw [held] at hy
  rw [← same]
  simpa using (List.mem_filter.1 hy).2

theorem any_isActiveWith {t : Tag} {l : List Entry} :
    l.any (isActiveWith t) = true ↔ ∃ x ∈ l, x.tag = some t ∧ x.state = .active := by
  simp [isActiveWith]

/-- A notice that finds no entry, or leaves its record open, closes nothing (R128). -/
theorem closedByNotice_eq_none
    (stays : ∀ m ∈ num, ∀ c ∈ findRecord m s, c.entries.any names = true →
      c.state = .opening ∨ ∃ x ∈ setFirst names st c.entries, x.state = .waiting ∨ x.state = .active) :
    closedByNotice num names st s = none := by
  rw [closedByNotice, Option.filter_eq_none_iff]
  intro c found
  obtain ⟨m, number, found⟩ := Option.bind_eq_some_iff.1 found
  rw [decide_eq_true_eq]
  rintro ⟨named, past, done⟩
  rcases stays m number c found named with opening | ⟨x, hx, progress⟩
  · exact past opening
  · exact progress.elim (done x hx).1 (done x hx).2

section
variable (h : AcceptedChange s w sl) (records : RecordNumbersDistinct s) (state : sl.state = .returnPending)
  (closing : sampleOf s.scanner.drive w sl = true)
include h records state closing

/-- A seating whose notice closes no record. -/
theorem slotScanStep_seated_open
    (stays : closedByNotice sl.consignment (isActiveWith sl.reportTag) .done s = none) :
    (slotScanStep w s).line =
      (queueReports (seatingReports sl (holdBrought (custodyOfSlot sl s)) (flagBrought (custodyOfSlot sl s))) s).line ∧
    (slotScanStep w s).custody = { s.custody with entries := entriesLeft (custodyOfSlot sl s) s.custody.entries } ∧
    (slotScanStep w s).consignments = s.consignments.map fun c =>
      if sl.consignment = some c.number then { c with entries := setFirst (isActiveWith sl.reportTag) .done c.entries }
      else c := by
  obtain ⟨-, -, c, -, frame⟩ := slotScanStep_seated h records state closing
  rw [frame, noticedState_of_open (s := seatingState sl (custodyOfSlot sl s) (mapSlots c s)) stays]
  exact ⟨queueReports_line_like (s := s) (t := mapSlots c s) _ rfl rfl, rfl, rfl⟩

/-- A seating whose notice closes the record of the slot's number. -/
theorem slotScanStep_seated_closing (number : sl.consignment = some m) (found : findRecord m s = some c)
    (named : c.entries.any (isActiveWith sl.reportTag) = true) (past : c.state ≠ .opening)
    (ends : ∀ x ∈ setFirst (isActiveWith sl.reportTag) .done c.entries, x.state ≠ .waiting ∧ x.state ≠ .active) :
    findRecord m (slotScanStep w s) = none ∧
    (slotScanStep w s).consignments = s.consignments.filter (fun x => x.number != m) ∧
    (∀ o ∈ s.scanner.slots, o ≠ sl → findSlot o.number (slotScanStep w s) =
      some (reverted m (withoutTag sl.reportTag
        (if 16 * (s.scanner.drive - 1) < o.number ∧ o.number ≤ 16 * s.scanner.drive then o.unmarked else o)))) ∧
    (OffersSettled s → (slotScanStep w s).custody =
      { s.custody with entries := custodyAfter (some c) (entriesLeft (custodyOfSlot sl s) s.custody.entries) }) ∧
    (slotScanStep w s).line =
      (queueReports (seatingReports sl (holdBrought (custodyOfSlot sl s)) (flagBrought (custodyOfSlot sl s)) ++
        (s.scanner.slots.filter fun o => decide (o.consignment = some m ∧ o.state = .pulled)).map (fun o =>
          ({ kind := .pullUnverified, number := o.number, consignment := m } : Report)) ++
        [{ kind := .consignmentClosed, consignment := m, code := 1,
           value1 := (((setFirst (isActiveWith sl.reportTag) .done c.entries).filter fun x => x.state == .done).length : Int),
           value2 := (((setFirst (isActiveWith sl.reportTag) .done c.entries).filter fun x =>
             x.state != .done).length : Int) }]) s).line := by
  obtain rfl := findRecord_number found
  have closes : closedByNotice sl.consignment (isActiveWith sl.reportTag) .done s = some c := by
    rw [number, closedByNotice_of_found found, if_pos ⟨named, past, ends⟩]
  obtain ⟨-, others, k, cleared, frame⟩ := slotScanStep_seated h records state closing
  rw [closes] at others
  rw [noticedState_of_closed (s := seatingState sl (custodyOfSlot sl s) (mapSlots k s)) closes] at frame
  refine ⟨?_, ?_, others, fun settled => ?_, ?_⟩
  · rw [frame]
    exact findRecord_closedState 1 c (setFirst (isActiveWith sl.reportTag) .done c.entries) (seatingState ..)
  · rw [frame]
    rfl
  · have settled' : OffersSettled (seatingState sl (custodyOfSlot sl s) (mapSlots k s)) :=
      fun e he => settled e (mem_of_entriesLeft he)
    rw [frame]
    exact congrArg (fun es => { s.custody with entries := es }) (closedCustody_eq c settled')
  · have pulled := pulledReports_seated (m := c.number) (entry := custodyOfSlot sl s) state h.numbers h.mem cleared
    have reports : closingReports 1 c (setFirst (isActiveWith sl.reportTag) .done c.entries)
        (seatingState sl (custodyOfSlot sl s) (mapSlots k s)) =
        (s.scanner.slots.filter fun o => decide (o.consignment = some c.number ∧ o.state = .pulled)).map (fun o =>
          ({ kind := .pullUnverified, number := o.number, consignment := c.number } : Report)) ++
        [{ kind := .consignmentClosed, consignment := c.number, code := 1,
           value1 := (((setFirst (isActiveWith sl.reportTag) .done c.entries).filter fun x => x.state == .done).length : Int),
           value2 := (((setFirst (isActiveWith sl.reportTag) .done c.entries).filter fun x =>
             x.state != .done).length : Int) }] := by
      have bay : (seatingState sl (custodyOfSlot sl s) (mapSlots k s)).role = .bay := h.bay
      rw [closingReports, if_pos bay, if_neg (by rw [bay]; decide), ← pulled]
      rfl
    rw [frame, List.append_assoc, ← reports, queueReports_append]
    exact queueReports_line_like _ (queueReports_line_like (t := mapSlots k s) _ rfl rfl) (reportsGoOut_queueReports s _).symm

end

end Sys2Proof.Machine
end

section
/-! ## O39: an accepted presence (R86, R87, R93, R118) -/

namespace Sys2Proof.Machine

variable {s : State} {w : Sense} {sl : Slot} {e : CustodyEntry}

theorem custodyOfSlot_eq_some (h : custodyOfSlot sl s = some e) :
    sl.tag = some sl.reportTag ∧ e.tag = sl.reportTag ∧ e ∈ s.custody.entries := by
  unfold custodyOfSlot at h
  split at h
  case h_1 t known =>
    have same : sl.reportTag = t := by rw [Slot.reportTag, known, Option.getD_some]
    exact ⟨by rw [same, known], by rw [same, tag_of_findCustody h], List.mem_of_find?_eq_some h⟩
  case h_2 => cases h

/-- The tag that a seated slot keeps: eight zero bytes stand for none (R191, log 12). -/
theorem optTag_reportTag (sl : Slot) : optTag sl.reportTag = if sl.tag = some 0 then none else sl.tag := by
  cases h : sl.tag with
  | none => simp [Slot.reportTag, h, optTag]
  | some t => by_cases zero : t = 0 <;> simp [Slot.reportTag, h, optTag, zero]

theorem seatedSlot_some :
    seatedSlot sl (some e) sl =
      { sl with present := true, candidate := false, window := none, consignment := none,
                tag := if sl.tag = some 0 then none else sl.tag,
                state := if e.quarantine then .quarantine else if e.hold = 0 then .occupied else .hold,
                hold := if e.quarantine = false ∧ e.hold = 0 then none else some e.hold } := by
  have hold : seatedHold (holdBrought (some e)) (flagBrought (some e)) =
      if e.quarantine = false ∧ e.hold = 0 then none else some e.hold := by
    cases flag : e.quarantine <;> by_cases none : e.hold = 0 <;> simp [seatedHold, holdBrought, flagBrought, flag, none]
  rw [seatedSlot, hold, optTag_reportTag]
  rfl

theorem seatedSlot_none :
    seatedSlot sl none sl =
      { sl with present := true, candidate := false, state := .occupied, hold := none, window := none,
                consignment := none, tag := if sl.tag = some 0 then none else sl.tag } := by
  rw [seatedSlot, optTag_reportTag]
  rfl

theorem namesOfTag {t : Tag} {tag : Option Tag} (h : tag = some t) :
    (fun x : Entry => decide (x.tag = tag ∧ x.state = .active)) = isActiveWith t := by
  rw [h]
  rfl

/-- Settles O39: a presence that seats no cartridge writes its slot; a seating is a notice to the record of its number. -/
theorem acceptedPresenceActsByTheSlotState : Obligations.AcceptedPresenceActsByTheSlotState := by
  refine ⟨?_, ?_⟩
  · intro s w sl running scan positive used numbers mem low high marked others tags present sample state records
    have closing : sampleOf s.scanner.drive w sl = true := sample
    have change : AcceptedChange s w sl :=
      ⟨scan, positive, used, numbers, mem, low, high, marked, others, by rw [closing, present]; decide⟩
    by_cases pending : sl.state = .returnPending
    · obtain ⟨own, rest, -⟩ := slotScanStep_seated change records pending closing
      have frame := slotScanStep_seated_frame change records pending closing
      have no {p : Prop} {st : SlotState} (ne : st ≠ .returnPending) (h : sl.state = st) : p :=
        absurd (h.symm.trans pending) ne
      refine ⟨slotScanStep w s, runEvent_to running rfl (by rw [frame]; rfl), no nofun, no nofun, no nofun, no nofun,
        no nofun, no nofun, fun _ e held => ⟨?_, slotScanStep_seated_gone change records pending closing held,
          fun m number c found named past ends => ?_, fun stays => ?_⟩,
        absurd pending, absurd pending, absurd pending, frame⟩
      · rw [own, held, seatedSlot_some]
      · obtain ⟨tag, -⟩ := custodyOfSlot_eq_some held
        rw [namesOfTag tag] at ends ⊢
        rw [tag] at named
        have outcome := slotScanStep_seated_closing change records pending closing number found
          (any_isActiveWith.2 named) past ends
        rw [held] at outcome
        exact outcome
      · obtain ⟨tag, -⟩ := custodyOfSlot_eq_some held
        rw [namesOfTag tag] at stays ⊢
        have stays' : closedByNotice sl.consignment (isActiveWith sl.reportTag) .done s = none :=
          closedByNotice_eq_none fun m number c found named =>
            stays m number c found (by rw [tag]; exact any_isActiveWith.1 named)
        obtain ⟨line, custody, consignments⟩ := slotScanStep_seated_open change records pending closing stays'
        rw [held] at line custody
        rw [stays'] at rest
        exact ⟨line, custody, rest, consignments⟩
    · have other : sl.state = .evacuated ∨ sl.state = .pulled ∨ sl.state = .unexpectedRemoval ∨ sl.state = .empty ∨
          sl.state = .out ∨ sl.state = .awaited := by tauto
      obtain ⟨own, line, rest, frame⟩ := slotScanStep_ownSlot (f := presented s sl) (rs := presentedReports sl) change
        (fun o => by unfold presented; split <;> rfl) fun c => by rw [closing]; exact presence_eq other
      refine ⟨slotScanStep w s, runEvent_to running rfl (by rw [frame]; rfl), fun h => ?_, fun h => ?_, fun h => ?_,
        fun h => ?_, fun h => ?_, fun h => ?_, (absurd · pending), fun _ => line.trans ?_, fun _ => rest, fun _ => frame, ?_⟩
      case refine_7 =>
        rw [queueReports_line]
        rcases other with h | h | h | h | h | h <;> simp [h, presentedReports, presenceReport]
      case refine_8 => rw [frame]
      all_goals exact own.trans (congrArg some (by simp only [presented, h]))
  · intro s w sl running scan positive used numbers mem low high marked others tags present sample records state unheld
    have closing : sampleOf s.scanner.drive w sl = true := sample
    have change : AcceptedChange s w sl :=
      ⟨scan, positive, used, numbers, mem, low, high, marked, others, by rw [closing, present]; decide⟩
    obtain ⟨own, rest, -⟩ := slotScanStep_seated change records state closing
    have frame := slotScanStep_seated_frame change records state closing
    rw [unheld] at own
    refine ⟨slotScanStep w s, runEvent_to running rfl (by rw [frame]; rfl), own.trans (congrArg some seatedSlot_none),
      fun m number c found named past ends => ?_, fun stays => ?_, fun unnumbered => ?_, ?_⟩
    · have outcome := slotScanStep_seated_closing change records state closing number found
        (any_isActiveWith.2 named) past ends
      rw [unheld] at outcome
      exact outcome
    · have stays' : closedByNotice sl.consignment (isActiveWith sl.reportTag) .done s = none :=
        closedByNotice_eq_none fun m number c found named => stays m number c found (any_isActiveWith.1 named)
      obtain ⟨line, custody, consignments⟩ := slotScanStep_seated_open change records state closing stays'
      rw [unheld] at line custody
      rw [stays'] at rest
      exact ⟨line, custody, rest, consignments⟩
    · have stays : closedByNotice sl.consignment (isActiveWith sl.reportTag) .done s = none := by rw [unnumbered]; rfl
      obtain ⟨-, custody, consignments⟩ := slotScanStep_seated_open change records state closing stays
      have same : (slotScanStep w s).consignments = s.consignments := by simp [consignments, unnumbered]
      rw [unheld] at custody
      rw [custody, same] at frame
      exact frame
    · exact frame

end Sys2Proof.Machine
end


section
/-! ## A read that is routed (R100 to R104) -/

namespace Sys2Proof.Machine

variable {s r : State} {chars : List Byte} {recovery : Bool} {id : Tag} {v : Option CaseClimate} {sig : Signal}

/-- The state in which a read is routed: its transaction over, its ID the last read, the bounce timer started, and what the
clearing of READER_FAULT tells told (R101 to R103). -/
def readTaken (id : Tag) (s : State) : State :=
  { s with
    reader := { s.reader with transaction := none, timeouts := 0, recovery := none, lastId := some id,
                              bounce := some Config.bounceSeconds },
    line := (goodResponse s).line,
    out := (goodResponse s).out }

/-- The state whose READER_FAULT a good response clears (R101). -/
def responseOver (s : State) : State :=
  withReader { s.reader with transaction := none, timeouts := 0, recovery := none } s

theorem goodResponse_frame (s : State) :
    goodResponse s = { responseOver s with line := (goodResponse s).line, out := (goodResponse s).out } :=
  setTrouble_frame .readerFault false (responseOver s)

theorem readTaken_eq (id : Tag) (s : State) :
    withReader { (goodResponse s).reader with lastId := some id, bounce := some Config.bounceSeconds } (goodResponse s) =
      readTaken id s := by
  rw [goodResponse_frame]
  rfl

theorem readTaken_out (id : Tag) (s : State) :
    (readTaken id s).out =
      { s.out with active := (readTaken id s).out.active, reported := (readTaken id s).out.reported } :=
  congrArg State.out (oneTrouble_setTrouble (responseOver s) .readerFault false).frame

theorem readTaken_line (id : Tag) (s : State) : OnlyReports s.line (readTaken id s).line :=
  onlyReports_setTrouble .readerFault false (responseOver s)

theorem reportsGoOut_readTaken (id : Tag) (s : State) : reportsGoOut (readTaken id s) = reportsGoOut s := by
  have strap := ((oneTrouble_setTrouble (responseOver s) .readerFault false).others .strapInvalid (by decide)).1
  have gate (t : State) : reportsGoOut t =
      (t.cfg.console != 0 && t.cfg.console != ownNumber t && !troubleActive .strapInvalid t) := rfl
  rw [gate, gate]
  exact congrArg (fun b => s.cfg.console != 0 && s.cfg.console != ownNumber s && !b) strap

/-- With READER_FAULT clear, a good response tells nothing (R187). -/
theorem readTaken_of_clear (clear : troubleActive .readerFault s = false) :
    (readTaken id s).line = s.line ∧ (readTaken id s).out = s.out := by
  have same : goodResponse s = responseOver s := if_pos clear
  exact ⟨by rw [readTaken, same]; rfl, by rw [readTaken, same]; rfl⟩

theorem readResponse_routed (transaction : s.reader.transaction = some (.read recovery))
    (fresh : s.reader.bounce = none ∨ s.reader.lastId ≠ some id) (response : readResponseOf chars = .good (.ok .cartridge id v))
    (routed : route .cartridge id v (readTaken id s) = (r, sig)) :
    readResponse chars s = readerNext (requestSignal sig r) := by
  have reader : (goodResponse s).reader = (responseOver s).reader := by rw [goodResponse_frame]
  have bounced : isBounce id (goodResponse s).reader = false := by
    rw [reader]
    rcases fresh with h | h
    · simp [isBounce, responseOver, withReader, h]
    · simp [isBounce, responseOver, withReader, h]
  simp only [readResponse, transaction, response, goodRead, routeRead, bounced, Bool.false_eq_true, if_false, readTaken_eq,
    routed]

/-- The port after a routed read: the pending READ is on the line and the signal pending, or the signal is out (R100). -/
theorem readerNext_requestSignal (waiting : s.reader.waiting = false) (reader : r.reader = (readTaken id s).reader) :
    ∃ port : ReaderPort, readerNext (requestSignal sig r) = { r with reader := port } ∧
      port.lastId = some id ∧ port.bounce = some 3 ∧ port.timeouts = 0 ∧
      (if s.reader.readPending = true then port.transaction = some (.read false) ∧ port.signalPending = some sig
       else port.transaction = some (signalTransaction sig) ∧ port.signalPending = none) := by
  refine ⟨_, rfl, ?_⟩
  have idle : ¬ ((none : Option Transaction).isSome = true ∨ s.reader.waiting = true) := by simp [waiting]
  simp only [requestSignal, withReader, reader, readTaken, nextTransaction, if_neg idle]
  split
  · exact ⟨rfl, rfl, rfl, rfl, rfl⟩
  · exact ⟨rfl, rfl, rfl, rfl, rfl⟩

/-- What the statement says of every routed cartridge read, with what its routing makes of the state. -/
theorem exec_readResponse_routed {P : State → Prop} (running : s.phase = .running) (waiting : s.reader.waiting = false)
    (transaction : s.reader.transaction = some (.read recovery))
    (fresh : s.reader.bounce = none ∨ s.reader.lastId ≠ some id) (response : readResponseOf chars = .good (.ok .cartridge id v))
    (routed : route .cartridge id v (readTaken id s) = (r, sig)) (reader : r.reader = (readTaken id s).reader)
    (core : r.fire = s.fire ∧ r.climate = s.climate ∧ r.sup = s.sup ∧ r.allot = s.allot)
    (reported : reportedFire r = reportedFire s) (rest : ∀ port, P { r with reader := port }) :
    ∃ t, exec (.readResponse chars) s = .next t ∧
      t.reader.lastId = some id ∧ t.reader.bounce = some 3 ∧ t.reader.timeouts = 0 ∧
      t.fire = s.fire ∧ t.climate = s.climate ∧ t.sup = s.sup ∧ t.allot = s.allot ∧
      (if s.reader.readPending = true then t.reader.transaction = some (.read false) ∧ t.reader.signalPending = some sig
       else t.reader.transaction = some (signalTransaction sig) ∧ t.reader.signalPending = none) ∧
      P t := by
  obtain ⟨port, next, lastId, bounce, timeouts, started⟩ := readerNext_requestSignal (sig := sig) waiting reader
  obtain ⟨fire, climate, sup, allot⟩ := core
  exact ⟨_, runEvent_to running ((readResponse_routed transaction fresh response routed).trans next) reported,
    lastId, bounce, timeouts, fire, climate, sup, allot, started, rest port⟩

end Sys2Proof.Machine
end


section
/-! ## O44: cartridge reads (R105, R109, R142, R146) -/

namespace Sys2Proof.Machine

variable {s u : State} {id : Tag} {v : Option CaseClimate} {n m : Nat} {sl : Slot} {e : CustodyEntry} {c : Consignment}

/-! ### Questions about the tag -/

theorem inCustodyAs_of_found {st : CustodyState} (found : findCustody id s = some e) :
    inCustodyAs id st s = true ↔ e.state = st := by
  simp [inCustodyAs, found]

theorem inCustodyAs_of_absent {st : CustodyState} (absent : findCustody id s = none) : inCustodyAs id st s = false := by
  simp [inCustodyAs, absent]

theorem custodyFull_iff : custodyFull s = true ↔ 24 ≤ s.custody.entries.length := decide_eq_true_iff

theorem route_bay (bay : s.role = .bay) : route .cartridge id v s = routeBayCartridge id s := by
  simp only [route, bay]

theorem route_dock (dock : s.role = .dock) : route .cartridge id v s = routeDockCartridge id s := by
  simp only [route, dock]

/-! ### A claim and a known cartridge -/

theorem route_expected (found : findCustody id s = some e) (expected : e.state = .expected) :
    route .cartridge id v s = (claimExpected id s, .accept) := by
  have claims := (inCustodyAs_of_found (s := s) found).2 expected
  cases role : s.role with
  | bay => rw [route_bay role, routeBayCartridge, if_pos claims]
  | dock => rw [route_dock role, routeDockCartridge, if_pos claims]

theorem routeBayCartridge_held (found : findCustody id s = some e) (other : e.state ≠ .expected) :
    routeBayCartridge id s = (s, .accept) := by
  have unclaimed := mt (inCustodyAs_of_found (s := s) found).1 other
  have known : (findCustody id s).isSome = true := by rw [found]; rfl
  rw [routeBayCartridge, if_neg unclaimed, if_pos known, bayKnown, if_pos known]

theorem routeBayCartridge_verified {t : State} (absent : findCustody id s = none)
    (verified : verifyFirst id (pullCandidates id s.consignments) s = some t) :
    routeBayCartridge id s = if custodyFull s then (s, .reject) else (t, .accept) := by
  have unclaimed : ¬ inCustodyAs id .expected s = true := by simp [inCustodyAs_of_absent absent]
  have unknown : ¬ (findCustody id s).isSome = true := by simp [absent]
  simp only [routeBayCartridge, if_neg unclaimed, if_neg unknown, verified]

theorem routeBayCartridge_unknown (absent : findCustody id s = none)
    (unverified : verifyFirst id (pullCandidates id s.consignments) s = none) :
    routeBayCartridge id s = unknownTag .cartridge id s := by
  have unclaimed : ¬ inCustodyAs id .expected s = true := by simp [inCustodyAs_of_absent absent]
  have unknown : ¬ (findCustody id s).isSome = true := by simp [absent]
  simp only [routeBayCartridge, if_neg unclaimed, if_neg unknown, unverified, bayKnown]

theorem routeDockCartridge_held (found : findCustody id s = some e) (other : e.state ≠ .expected) :
    routeDockCartridge id s = dockKnown id s := by
  have unclaimed := mt (inCustodyAs_of_found (s := s) found).1 other
  have known : (findCustody id s).isSome = true := by rw [found]; rfl
  rw [routeDockCartridge, if_neg unclaimed, if_pos known]

theorem dockKnown_of_absent (absent : findCustody id s = none) : dockKnown id s = unknownTag .cartridge id s := by
  have unloaded : ¬ inCustodyAs id .loaded s = true := by simp [inCustodyAs_of_absent absent]
  have unloadable : ¬ loadable id s = true := by simp [loadable, absent]
  rw [dockKnown, if_neg unloadable, if_neg unloaded]

/-! ### A verified pull (R89, R105) -/

/-- The slots once a pull of a tag from a slot has been verified (R89). -/
def slotsPulled (n : Nat) (id : Tag) (slots : List Slot) : List Slot :=
  slots.map fun o => if o.number = n then { o with state := .out, window := none, tag := some id } else withoutTag id o

theorem verifyRequest_of_pulled (known : id ≠ 0) (found : findSlot n s = some sl) (pulled : sl.state = .pulled) :
    verifyRequest n id s =
      some { s with scanner := { s.scanner with slots := slotsPulled n id s.scanner.slots },
                    line := (queueReport (pullDoneReport n id sl.consignment) s).line } := by
  have given : optTag id = some id := if_neg known
  simp only [verifyRequest, found, if_pos pulled]
  rw [giveTag_updateSlot (by exact fun _ => rfl), given]
  exact congrArg some (queueReports_like (s := s) [pullDoneReport n id sl.consignment] rfl rfl)

/-- The state once a pull has been verified: the slot OUT, the report queued, the entry the newest (R105). -/
def pullVerified (n m : Nat) (id : Tag) (num : Option Nat) (s : State) : State :=
  { s with
    scanner := { s.scanner with slots := slotsPulled n id s.scanner.slots },
    custody := { s.custody with
      entries := (s.custody.entries ++ [pulledEntry id { number := m, slot := n } s]).map (settleOffer s) },
    line := (queueReport (pullDoneReport n id num) s).line }

theorem verifyFirst_of_pulled (known : id ≠ 0) (found : findSlot n s = some sl) (pulled : sl.state = .pulled) :
    verifyFirst id [{ number := m, slot := n }] s = some (pullVerified n m id sl.consignment s) := by
  simp only [verifyFirst, verifyRequest_of_pulled known found pulled]
  rfl

/-- A candidate whose slot is PULLED is one that a request can take, also of an absent tag. -/
theorem verifyFirst_isSome (found : findSlot n s = some sl) (pulled : sl.state = .pulled) :
    (verifyFirst id [{ number := m, slot := n }] s).isSome = true := by
  simp [verifyFirst, verifyRequest, found, pulled]

theorem settleOffer_of_held (held : e.state = .held) :
    settleOffer s e = { e with owed := if offerOwed s e then some .offer else none } := if_pos held

/-- What a verified pull's entry owes (R135). -/
theorem settleOffer_pulledEntry :
    settleOffer s (pulledEntry id { number := m, slot := n } s) =
      { tag := id, state := .held, consignment := some m,
        peer := if s.cfg.dockStation = 0 then none else some s.cfg.dockStation, slot := some n, hold := 0,
        quarantine := false, wait := .none, timer := none, attempts := 0,
        owed := if s.cfg.dockStation ≠ 0 ∧ ∀ x ∈ s.consignments, x.number = m → x.state ≠ .receiving then some .offer
          else none } := by
  have owes : offerOwed s (pulledEntry id { number := m, slot := n } s) = true ↔
      s.cfg.dockStation ≠ 0 ∧ ∀ x ∈ s.consignments, x.number = m → x.state ≠ .receiving := by
    by_cases dock : s.cfg.dockStation = 0 <;>
      simp [offerOwed, pulledEntry, newCustody, optNumber, dock, recordReceiving]
  rw [settleOffer_of_held rfl]
  simp only [owes]
  rfl

theorem pushReport_getLast? (r : Report) (l : LineController) : (pushReport r l).reports.getLast? = some r := by
  unfold pushReport
  split <;> simp

/-! ### The dock (R109, R146) -/

theorem receives_eq (id : Tag) : receives id = fun c => decide (c.direction = .inbound ∧ c.state = .receiving ∧
    ∃ e ∈ c.entries, e.tag = some id ∧ e.state = .waiting) := by
  funext c
  rw [receives, waitingWith_eq, Bool.eq_iff_iff]
  simp [isWaitingWith, and_assoc]

theorem routeDockCartridge_received (absent : findCustody id s = none) (found : s.consignments.find? (receives id) = some c) :
    routeDockCartridge id s = if custodyFull s then (s, .reject) else (receiveCartridge id c s, .accept) := by
  have unclaimed : ¬ inCustodyAs id .expected s = true := by simp [inCustodyAs_of_absent absent]
  have unknown : ¬ (findCustody id s).isSome = true := by simp [absent]
  simp only [routeDockCartridge, if_neg unclaimed, if_neg unknown, found]

theorem routeDockCartridge_unknown (absent : findCustody id s = none) (none : s.consignments.find? (receives id) = none) :
    routeDockCartridge id s = unknownTag .cartridge id s := by
  have unclaimed : ¬ inCustodyAs id .expected s = true := by simp [inCustodyAs_of_absent absent]
  have unknown : ¬ (findCustody id s).isSome = true := by simp [absent]
  simp only [routeDockCartridge, if_neg unclaimed, if_neg unknown, none, dockKnown_of_absent absent]

theorem loadable_iff (found : findCustody id s = some e) :
    loadable id s = true ↔ e.state = .held ∧ ∃ c ∈ s.consignments, e.consignment = some c.number ∧
      c.direction = .outbound ∧ c.state = .courierPresent := by
  simp [loadable, found, and_assoc]

/-- The state once a cartridge has been received from the courier (R109). -/
def cartridgeReceived (id : Tag) (c : Consignment) (e : Entry) (s : State) : State :=
  let records := updateRecord c.number (fun c => { c with entries := setFirst (isWaitingWith id) .active c.entries }) s
  { records with custody := { s.custody with
      entries := (s.custody.entries ++ [receivedEntry id c.number e]).map (settleOffer records) } }

theorem receiveCartridge_eq {e : Entry} (waits : c.entries.find? (isWaitingWith id) = some e) :
    receiveCartridge id c s = cartridgeReceived id c e s := by
  simp only [receiveCartridge, waitingWith_eq, waits]
  rfl

/-- The received cartridge owes no OFFER while its record is RECEIVING (R135). -/
theorem settleOffer_receivedEntry {e : Entry} {num : Nat} (receiving : recordReceiving num s = true) :
    settleOffer s (receivedEntry id num e) =
      { tag := id, state := .held, consignment := some num, peer := if e.station = 0 then none else some e.station,
        slot := some e.slot, hold := 0, quarantine := false, wait := .none, timer := none, attempts := 0, owed := none } := by
  have owes : offerOwed s (receivedEntry id num e) = false := by simp [offerOwed, receivedEntry, newCustody, receiving]
  rw [settleOffer_of_held rfl, owes]
  rfl

/-! ### The routes of a read, case by case -/

theorem route_pulled (bay : s.role = .bay) (known : id ≠ 0) (absent : findCustody id s = none)
    (room : s.custody.entries.length < 24) (candidates : pullCandidates id s.consignments = [{ number := m, slot := n }])
    (found : findSlot n s = some sl) (pulled : sl.state = .pulled) :
    route .cartridge id v s = (pullVerified n m id sl.consignment s, .accept) := by
  have verified : verifyFirst id (pullCandidates id s.consignments) s = some (pullVerified n m id sl.consignment s) := by
    rw [candidates, verifyFirst_of_pulled known found pulled]
  rw [route_bay bay, routeBayCartridge_verified absent verified, if_neg (mt custodyFull_iff.1 (Nat.not_le.2 room))]

theorem route_pulled_full (bay : s.role = .bay) (absent : findCustody id s = none) (full : 24 ≤ s.custody.entries.length)
    (candidates : pullCandidates id s.consignments = [{ number := m, slot := n }]) (found : findSlot n s = some sl)
    (pulled : sl.state = .pulled) : route .cartridge id v s = (s, .reject) := by
  obtain ⟨t, verified⟩ := Option.isSome_iff_exists.1 (verifyFirst_isSome (id := id) (m := m) found pulled)
  rw [← candidates] at verified
  rw [route_bay bay, routeBayCartridge_verified absent verified, if_pos (custodyFull_iff.2 full)]

theorem route_bay_held (bay : s.role = .bay) (found : findCustody id s = some e) (other : e.state ≠ .expected) :
    route .cartridge id v s = (s, .accept) := by
  rw [route_bay bay, routeBayCartridge_held found other]

/-- The report of a cartridge that no question claims (R105, R109). -/
def unknownReport (id : Tag) : Report := { kind := .unknownTag, tag := id, code := 1 }

theorem route_bay_unknown (bay : s.role = .bay) (absent : findCustody id s = none)
    (candidates : pullCandidates id s.consignments = []) :
    route .cartridge id v s = (queueReport (unknownReport id) s, .reject) := by
  rw [route_bay bay, routeBayCartridge_unknown absent (by rw [candidates]; rfl)]
  rfl

theorem route_loadable (dock : s.role = .dock) (found : findCustody id s = some e) (held : e.state = .held)
    (loads : ∃ c ∈ s.consignments, e.consignment = some c.number ∧ c.direction = .outbound ∧ c.state = .courierPresent) :
    route .cartridge id v s = (loadEntry id s, .accept) := by
  rw [route_dock dock, routeDockCartridge_held found (by rw [held]; decide), dockKnown,
    if_pos ((loadable_iff found).2 ⟨held, loads⟩)]

theorem route_loaded (dock : s.role = .dock) (found : findCustody id s = some e) (loaded : e.state = .loaded) :
    route .cartridge id v s = (unloadRead id s, .accept) := by
  have unloadable : ¬ loadable id s = true := fun h => by
    have held := ((loadable_iff found).1 h).1
    rw [loaded] at held
    cases held
  rw [route_dock dock, routeDockCartridge_held found (by rw [loaded]; decide), dockKnown, if_neg unloadable,
    if_pos ((inCustodyAs_of_found found).2 loaded)]

theorem route_received {e : Entry} (dock : s.role = .dock) (absent : findCustody id s = none)
    (room : s.custody.entries.length < 24) (record : s.consignments.find? (receives id) = some c)
    (waits : c.entries.find? (isWaitingWith id) = some e) :
    route .cartridge id v s = (cartridgeReceived id c e s, .accept) := by
  rw [route_dock dock, routeDockCartridge_received absent record, if_neg (mt custodyFull_iff.1 (Nat.not_le.2 room)),
    receiveCartridge_eq waits]

theorem route_received_full (dock : s.role = .dock) (absent : findCustody id s = none)
    (full : 24 ≤ s.custody.entries.length) (record : s.consignments.find? (receives id) = some c) :
    route .cartridge id v s = (s, .reject) := by
  rw [route_dock dock, routeDockCartridge_received absent record, if_pos (custodyFull_iff.2 full)]

theorem route_dock_unknown (dock : s.role = .dock)
    (unclaimed : (findCustody id s = none ∧ ∀ c ∈ s.consignments, c.direction = .inbound → c.state = .receiving →
        ∀ e ∈ c.entries, e.tag ≠ some id ∨ e.state ≠ .waiting) ∨
      (∃ e ∈ findCustody id s, e.state ≠ .expected ∧ e.state ≠ .loaded ∧
        (e.state = .held → ∀ c ∈ s.consignments, e.consignment = some c.number → c.direction ≠ .outbound ∨
          c.state ≠ .courierPresent))) :
    route .cartridge id v s = (queueReport (unknownReport id) s, .reject) := by
  rw [route_dock dock]
  rcases unclaimed with ⟨absent, none⟩ | ⟨e, found, expected, loaded, held⟩
  · have received : s.consignments.find? (receives id) = Option.none := by
      rw [List.find?_eq_none, receives_eq]
      intro c hc receiving
      obtain ⟨inbound, state, e, he, tag, waits⟩ := of_decide_eq_true receiving
      exact (none c hc inbound state e he).elim (· tag) (· waits)
    exact routeDockCartridge_unknown absent received
  · have unloadable : ¬ loadable id s = true := fun h => by
      obtain ⟨state, c, hc, number, outbound, present⟩ := (loadable_iff found).1 h
      exact (held state c hc number).elim (· outbound) (· present)
    have unloaded : ¬ inCustodyAs id .loaded s = true := mt (inCustodyAs_of_found found).1 loaded
    rw [routeDockCartridge_held found expected, dockKnown, if_neg unloadable, if_neg unloaded]
    rfl

/-! ### What the statement says of a read that changes nothing but the port -/

theorem quietRead_outcome (id : Tag) (s : State) (port : ReaderPort) :
    { readTaken id s with reader := port } =
      { s with reader := port, line := (readTaken id s).line,
               out := { s.out with active := (readTaken id s).out.active, reported := (readTaken id s).out.reported } } ∧
    OnlyReports s.line (readTaken id s).line ∧
    (troubleActive .readerFault s = false → { readTaken id s with reader := port } = { s with reader := port }) := by
  refine ⟨?_, readTaken_line id s, fun clear => ?_⟩
  · rw [← readTaken_out id s]
    rfl
  · obtain ⟨line, out⟩ := readTaken_of_clear (id := id) clear
    rw [readTaken] at line out ⊢
    dsimp only at line out ⊢
    rw [line, out]

/-- The state of a read that no question claims. -/
def unknownRead (id : Tag) (s : State) : State :=
  { readTaken id s with line := (queueReport (unknownReport id) (readTaken id s)).line }

theorem unknownRead_eq (id : Tag) (s : State) : queueReport (unknownReport id) (readTaken id s) = unknownRead id s :=
  queueReport_frame ..

theorem unknownRead_outcome (id : Tag) (s : State) (port : ReaderPort) :
    { unknownRead id s with reader := port } =
      { s with reader := port, line := (unknownRead id s).line,
               out := { s.out with active := (unknownRead id s).out.active, reported := (unknownRead id s).out.reported } } ∧
    OnlyReports s.line (unknownRead id s).line ∧
    (reportsGoOut s = true → (unknownRead id s).line.reports.getLast? = some (unknownReport id)) ∧
    (troubleActive .readerFault s = false → (unknownRead id s).line =
      if reportsGoOut s = true then pushReport (unknownReport id) s.line else s.line) := by
  have line : (unknownRead id s).line =
      if reportsGoOut s then pushReport (unknownReport id) (readTaken id s).line else (readTaken id s).line := by
    rw [← reportsGoOut_readTaken id s, ← queueReport_line]
    rfl
  refine ⟨?_, (readTaken_line id s).trans' (onlyReports_queueReport _ _), fun out => ?_, fun clear => ?_⟩
  · have out : (unknownRead id s).out = (readTaken id s).out := rfl
    rw [out, ← readTaken_out id s]
    rfl
  · rw [line, if_pos out, pushReport_getLast?]
  · rw [line, (readTaken_of_clear (id := id) clear).1]

/-- What the statement says of the slots, the custody list and the report of a verified pull. -/
theorem pullVerified_outcome (numbers : (s.scanner.slots.map fun sl => sl.number).Nodup) (found : findSlot n s = some sl)
    (port : ReaderPort) :
    let t := { pullVerified n m id sl.consignment (readTaken id s) with reader := port }
    findSlot n t = some { sl with state := .out, window := none, tag := some id } ∧
    t.custody.entries.getLast? = some
      { tag := id, state := .held, consignment := some m,
        peer := if s.cfg.dockStation = 0 then none else some s.cfg.dockStation, slot := some n, hold := 0,
        quarantine := false, wait := .none, timer := none, attempts := 0,
        owed := if s.cfg.dockStation ≠ 0 ∧ ∀ x ∈ s.consignments, x.number = m → x.state ≠ .receiving then some .offer
          else none } ∧
    (reportsGoOut s = true → t.line.reports.getLast? = some (pullDoneReport n id sl.consignment)) ∧
    (troubleActive .readerFault s = false → t.line =
      if reportsGoOut s = true then pushReport (pullDoneReport n id sl.consignment) s.line else s.line) ∧
    t.custody.entries.length = s.custody.entries.length + 1 ∧ t.consignments = s.consignments ∧
    (∀ o ∈ s.scanner.slots, o.number ≠ n → findSlot o.number t = some (withoutTag id o)) := by
  intro t
  have slots (k : Nat) := findSlot_map (n := k) (s := s) (t := t)
    (f := fun o => if o.number = n then { o with state := .out, window := none, tag := some id } else withoutTag id o)
    rfl fun o => by
      split
      · rfl
      · exact withoutTag_number o
  have line : t.line = if reportsGoOut s then pushReport (pullDoneReport n id sl.consignment) (readTaken id s).line
      else (readTaken id s).line := by
    rw [← reportsGoOut_readTaken id s, ← queueReport_line]
    rfl
  have newest : t.custody.entries.getLast? =
      some (settleOffer (readTaken id s) (pulledEntry id { number := m, slot := n } (readTaken id s))) := by
    simp [t, pullVerified]
  refine ⟨?_, newest.trans (congrArg some settleOffer_pulledEntry), fun out => ?_, fun clear => ?_, ?_, rfl,
    fun o ho other => ?_⟩
  · rw [slots, found, Option.map_some, if_pos (number_of_findSlot found)]
  · rw [line, if_pos out, pushReport_getLast?]
  · rw [line, (readTaken_of_clear (id := id) clear).1]
  · simp [t, pullVerified, readTaken]
  · rw [slots, findSlot_of_mem numbers ho, Option.map_some, if_neg other]

/-- What the statement says of the custody list once a LOADED entry has been unloaded (R146). -/
theorem unloadRead_entries (settled : OffersSettled s) (tags : CustodyTagsDistinct s) (found : findCustody id s = some e) :
    ∀ x ∈ (unloadRead id s).custody.entries,
      if x.tag = id then x = { e with state := .held, owed := x.owed } ∧ (x.owed = none ∨ x.owed = some .offer)
      else x ∈ s.custody.entries := by
  intro x hx
  obtain ⟨z, hz, rfl⟩ := List.mem_map.1 hx
  obtain ⟨y, hy, rfl⟩ := List.mem_map.1 hz
  rw [settleOffer_tag]
  by_cases own : y.tag = id
  · rw [if_pos own, eq_of_findCustody tags found hy own, if_pos (tag_of_findCustody found), settleOffer_of_held rfl]
    refine ⟨rfl, ?_⟩
    dsimp only
    split
    · exact .inr rfl
    · exact .inl rfl
  · have same := settleOffer_of_settled (u := updateCustody id (fun e => { e with state := .held }) s) settled rfl hy
    rw [if_neg own, if_neg own, same]
    exact hy

/-- Where the numbers are distinct, the search for a record's number finds the record. -/
theorem findRecord_of_mem (records : RecordNumbersDistinct s) (hc : c ∈ s.consignments) : findRecord c.number s = some c := by
  have found : (s.consignments.find? fun x => x.number == c.number).isSome :=
    List.find?_isSome.2 ⟨c, hc, beq_self_eq_true c.number⟩
  obtain ⟨x, hx⟩ := Option.isSome_iff_exists.1 found
  have same : x = c := eq_of_findRecord records (num := c.number) hx hc rfl |>.symm
  exact hx.trans (congrArg some same)

/-- A record that receives a cartridge stays RECEIVING. -/
theorem recordReceiving_received (record : s.consignments.find? (receives id) = some c) :
    recordReceiving c.number
      (updateRecord c.number (fun c => { c with entries := setFirst (isWaitingWith id) .active c.entries }) s) = true := by
  have receiving : c.state = .receiving := by
    have h := List.find?_some record
    rw [receives_eq] at h
    exact (of_decide_eq_true h).2.1
  refine List.any_eq_true.2 ⟨_, List.mem_map_of_mem (List.mem_of_find?_eq_some record), ?_⟩
  simp [receiving]

/-! ### The statement -/

/-- Settles O44: a read is routed in the state that has taken it, and the port goes on. -/
theorem cartridgeReadsMoveTheirCustody : Obligations.CartridgeReadsMoveTheirCustody := by
  refine ⟨?_, ?_, ?_, ?_, ?_, ?_, ?_, ?_, ?_, ?_⟩
  · intro s chars rec id v n m sl running waiting transaction fresh bay response known absent room candidates found pulled numbers
    have routed := route_pulled (v := v) (s := readTaken id s) bay known absent room candidates found pulled
    exact exec_readResponse_routed (sig := .accept) running waiting transaction fresh response routed rfl
      ⟨rfl, rfl, rfl, rfl⟩ rfl (pullVerified_outcome numbers found)
  · intro s chars rec id v running waiting transaction fresh bay response absent candidates
    have routed := route_bay_unknown (v := v) (s := readTaken id s) bay absent candidates
    rw [unknownRead_eq] at routed
    exact exec_readResponse_routed (sig := .reject) running waiting transaction fresh response routed rfl
      ⟨rfl, rfl, rfl, rfl⟩ rfl (unknownRead_outcome id s)
  · intro s chars rec id v e running waiting transaction fresh response found expected
    have routed := route_expected (v := v) (s := readTaken id s) found expected
    exact exec_readResponse_routed (sig := .accept) running waiting transaction fresh response routed rfl
      ⟨rfl, rfl, rfl, rfl⟩ rfl fun port => ⟨rfl, rfl, rfl⟩
  · intro s chars rec id v e running waiting transaction fresh dock response found held loads
    have routed := route_loadable (v := v) (s := readTaken id s) dock found held loads
    exact exec_readResponse_routed (sig := .accept) running waiting transaction fresh response routed rfl
      ⟨rfl, rfl, rfl, rfl⟩ rfl fun port => ⟨rfl, rfl, rfl⟩
  · intro s chars rec id v e running waiting transaction fresh dock settled tags response found loaded
    have routed := route_loaded (v := v) (s := readTaken id s) dock found loaded
    refine exec_readResponse_routed (sig := .accept) running waiting transaction fresh response routed rfl
      ⟨rfl, rfl, rfl, rfl⟩ rfl fun port =>
        ⟨unloadRead_entries (s := readTaken id s) settled tags found, ?_, rfl, rfl⟩
    simp [unloadRead, settleOffers, updateCustody, mapCustody, withCustody, readTaken]
  · intro s chars rec id v c e running waiting transaction fresh dock response absent room records record waits
    rw [← receives_eq] at record
    have routed := route_received (v := v) (s := readTaken id s) dock absent room record waits
    refine exec_readResponse_routed (sig := .accept) running waiting transaction fresh response routed rfl
      ⟨rfl, rfl, rfl, rfl⟩ rfl fun port => ⟨?_, ?_, ?_, rfl⟩
    · exact findRecord_updateRecord (s := readTaken id s)
        (fun c => { c with entries := setFirst (isWaitingWith id) .active c.entries }) (fun _ => rfl)
        (findRecord_of_mem records (List.mem_of_find?_eq_some record))
    · have receiving := recordReceiving_received (id := id) (s := readTaken id s) record
      simp [cartridgeReceived, settleOffer_receivedEntry receiving]
    · simp [cartridgeReceived, readTaken]
  · intro s chars rec id v e running waiting transaction fresh bay response found other
    have routed := route_bay_held (v := v) (s := readTaken id s) bay found other
    exact exec_readResponse_routed (sig := .accept) running waiting transaction fresh response routed rfl
      ⟨rfl, rfl, rfl, rfl⟩ rfl (quietRead_outcome id s)
  · intro s chars rec id v n m sl running waiting transaction fresh bay response absent full candidates found pulled
    have routed := route_pulled_full (v := v) (s := readTaken id s) bay absent full candidates found pulled
    exact exec_readResponse_routed (sig := .reject) running waiting transaction fresh response routed rfl
      ⟨rfl, rfl, rfl, rfl⟩ rfl (quietRead_outcome id s)
  · intro s chars rec id v running waiting transaction fresh dock response absent full receiving
    have received : (s.consignments.find? (receives id)).isSome = true := by
      rw [List.find?_isSome, receives_eq]
      obtain ⟨c, hc, receives⟩ := receiving
      exact ⟨c, hc, decide_eq_true receives⟩
    obtain ⟨c, record⟩ := Option.isSome_iff_exists.1 received
    have routed := route_received_full (v := v) (s := readTaken id s) dock absent full record
    exact exec_readResponse_routed (sig := .reject) running waiting transaction fresh response routed rfl
      ⟨rfl, rfl, rfl, rfl⟩ rfl (quietRead_outcome id s)
  · intro s chars rec id v running waiting transaction fresh dock response unclaimed
    have routed := route_dock_unknown (v := v) (s := readTaken id s) dock unclaimed
    rw [unknownRead_eq] at routed
    exact exec_readResponse_routed (sig := .reject) running waiting transaction fresh response routed rfl
      ⟨rfl, rfl, rfl, rfl⟩ rfl (unknownRead_outcome id s)

end Sys2Proof.Machine
end
